-- ==== Sys2Proof/Word.lean ====
section
/-! DEFINITION. Word.lean: the bit-vector names used where the manual treats a value as bits (R12, R13), and the
shape of a sparse table. Quantities the manual counts or measures are plain `Nat` and `Int`. -/
namespace Sys2Proof

/-- One byte of a packet, a frame, a page or a stored record (R12). -/
abbrev Byte := BitVec 8

/-- A byte string: payloads, frame bodies, pages, records. -/
abbrev Bytes := List Byte

/-- An IEEE 754 binary32 pattern (R13); its arithmetic is `Machine/Fp.lean`. -/
abbrev F32 := BitVec 32

/-- A sparse table: index and value pairs, indices strictly rising, no entry equal to what an unlisted index
reads as. The operations that keep the form are in `Machine/Tab.lean`. -/
abbrev Tab (α : Type) := List (Nat × α)

end Sys2Proof
end

