-- ==== Sys2Proof/Syntax.lean ====
section
/-! DEFINITION. Syntax.lean: the commands of the block, one constructor per row of the opcode table: the requests of the
host (each with its packet, R485), and the events on pins, buses, timers and engines that the manual names as
steps. Times are the module's oscillator time in units of 0.25 ns. -/
namespace Sys2Proof

/-- A request packet as the command interpreter holds it (R485, R486): context, TAG, SEQUENCE, URGENT, the MAC trailer
when AUTH is set, the payload, and the time at which it is taken up. -/
structure Req where
  ctx : Nat
  tag : Nat
  seq : Nat
  urgent : Bool := false
  trailer : Option Bytes := none
  payload : Bytes := []
  t : Nat := 0
deriving DecidableEq, Repr

/-- A ring frame as received (R538): the port it arrived on (0 RA, 1 RB), whether its HCRC and its CRC-32C are correct, the
header's fields and the payload. -/
structure RFrame where
  port : Nat := 0
  hcrcOk : Bool := true
  crcOk : Bool := true
  type : Nat
  /-- FLAGS of R538 -/
  flags : Nat := 0
  dst : Nat
  src : Nat
  ttl : Nat := 128
  epoch : Nat := 0
  frag : Nat := 0
  msgId : Nat := 0
  serial : Nat := 0
  payload : Bytes := []
deriving DecidableEq, Repr

/-- A warp frame as a port receives it (R113, R114): its body, and whether it held a code error. -/
structure WFrame where
  body : Bytes
  err : Bool := false
deriving DecidableEq, Repr

/-- What a task's cycle does to its data area (R456): bytes it stores, and the calls of library instances (R469, R470) with their
inputs, each instance lying at `at_` of the data area; presets PT are in µs. -/
inductive DraftAct where
  | store (off : Nat) (bytes : Bytes)
  | ton (at_ : Nat) (in_ : Bool) (pt : Nat)
  | tof (at_ : Nat) (in_ : Bool) (pt : Nat)
  | tp (at_ : Nat) (in_ : Bool) (pt : Nat)
  | ctu (at_ : Nat) (cu reset : Bool) (pv : Int)
  | ctd (at_ : Nat) (cd load : Bool) (pv : Int)
  | ctud (at_ : Nat) (cu cd reset load : Bool) (pv : Int)
  | rTrig (at_ : Nat) (clk : Bool)
  | fTrig (at_ : Nat) (clk : Bool)
deriving DecidableEq, Repr

/-- The commands of the block. -/
inductive Instr where
  /-- `POWER_ON_RESET` (R30): Power-on reset puts the module in BOOT with every safety output off. Operands: the ADDR pins; whether the HEAD_HOLD line is sensed asserted. -/
  | powerOnReset (addr : Nat) (hold : Bool)
  /-- `WATCHDOG_RESET` (R677): A watchdog or other reset restarts the module into BOOT, each reset counting as a BOOT of its own. -/
  | watchdogReset
  /-- `BOOT_WATCHDOG_EXPIRY` (R677): BOOT not ended 30 s after step 1 resets the module. -/
  | bootWatchdogExpiry
  /-- `BOOT_COMPLETE` (R677): BOOT ends in the mode R30 gives, pick 0 is taken and event 448 raised. Operands: what the loading and testing of each lane found (0 passed, else the cause of R326), duration of BOOT in ms, time. -/
  | bootComplete (laneA laneB laneC bootMs t : Nat)
  /-- `MODE_TRANSITION` (R30): At a pick boundary an accepted mode request or a mode event takes effect, updating SYS_MODE and raising event 1. -/
  | modeTransition
  /-- `MODE_GET` (R42): Returns the 16-byte mode reply. Opcode 0x0010. -/
  | modeGet (r : Req)
  /-- `MODE_REQUEST` (R43): Requests a mode transition, checked for length, privilege, pending transition and the R30 table. Opcode 0x0011. -/
  | modeRequest (r : Req)
  /-- `SAFEHOLD_RESET` (R43): Requests leaving SAFE-HOLD under the cleared-cause conditions of R34. Opcode 0x0012. -/
  | safeholdReset (r : Req)
  /-- `COMMAND_BOUNDARY_APPLY` (R729): A command whose effect falls at a later pick boundary is rejudged against the mode there and applied or refused. Operands: the waiting command. -/
  | commandBoundaryApply (ctx tag : Nat)
  /-- `TOOTH_EDGE` (R63): A filtered tooth edge is classified early, tooth, missed or late and corrects the tracked and treadle angles. Operands: time of the edge. -/
  | toothEdge (t : Nat)
  /-- `INDEX_EDGE` (R65): An index edge is taken as reference, accepted, or counted as a mismatch, and may update the frequency estimate. Operands: time of the edge. -/
  | indexEdge (t : Nat)
  /-- `MAINS_CROSSING` (R67): A filtered mains zero crossing is classified as a tooth with the rising crossing as index. Operands: time, direction, RMS voltage over the last cycle in V. -/
  | mainsCrossing (t : Nat) (rising : Bool) (rms : Nat)
  /-- `TOOTH_EXTRAPOLATE` (R64): No edge by 2.25 T puts the angle unit in EXTRAPOLATING and raises event 34. Operands: source and time. -/
  | toothExtrapolate (src t : Nat)
  /-- `TOOTH_TIMEOUT` (R63): No edge by 4 T declares the source lost with cause TOOTH_TIMEOUT. Operands: source and time. -/
  | toothTimeout (src t : Nat)
  /-- `MAINS_LOW_LOSS` (R68): A full cycle below MAINS_MIN_RMS declares mains sense lost. Operands: time. -/
  | mainsLowLoss (t : Nat)
  /-- `ACQUIRE_TIMEOUT` (R73): After 2 s of ACQUIRING the angle unit locks on the fallback or enters HOLDOVER. Operands: time. -/
  | acquireTimeout (t : Nat)
  /-- `AUTO_REVERT` (R73): The primary source valid for REVERT_CYCLES cycles brings the angle unit back to it. Operands: time. -/
  | autoRevert (t : Nat)
  /-- `SLEW_COMPLETE` (R73): The slew difference reaches 0 and the angle unit becomes LOCKED. Operands: time. -/
  | slewComplete (t : Nat)
  /-- `TREADLE_HOLD_END` (R76): The tracked angle catches up with a held treadle angle, which runs again. Operands: time. -/
  | treadleHoldEnd (t : Nat)
  /-- `TREADLE_CYCLE_START` (R56): The treadle angle wraps to 0 and the grid index counts one cycle. Operands: time. -/
  | treadleCycleStart (t : Nat)
  /-- `ANGLE_STATUS_GET` (R96): Returns the 40-byte angle status. Opcode 0x0900. -/
  | angleStatusGet (r : Req)
  /-- `ANGLE_SOURCE_FORCE` (R94): Forces or releases an angle source, waiting up to 2 s for it to be valid. Opcode 0x0901. -/
  | angleSourceForce (r : Req)
  /-- `ANGLE_FORCE_TIMEOUT` (R94): A forced source not valid within 2 s completes the request with TIMEOUT and withdraws the force. Operands: time. -/
  | angleForceTimeout (t : Nat)
  /-- `ANGLE_COUNTERS_GET` (R93): Reads and clears the seven ANG_CNT_ registers. Opcode 0x0902. -/
  | angleCountersGet (r : Req)
  /-- `GRID_INDEX_AT` (R95): Returns the grid index and predicted start of the first cycle at or after a plant time. Opcode 0x0903. -/
  | gridIndexAt (r : Req)
  /-- `TIME_GET` (R93): Returns plant time, latest pick index and grid index. Opcode 0x0904. -/
  | timeGet (r : Req)
  /-- `PICK_TRIGGER` (R87): The first trigger frame of a pick leaves at the pick instant minus the largest lead, fixing the pick instant. Operands: time the first trigger frame leaves. -/
  | pickTrigger (t : Nat)
  /-- `PICK_INSTANT` (R88): At the pick instant the DCIs are sampled and the pick stamp formed. Operands: raw DCI codes. -/
  | pickInstant (dci : List Nat)
  /-- `LOOP_TICK` (R398): At a pick instant each ticking loop applies its previous output, with the late clamp, and sends reference frames. -/
  | loopTick
  /-- `DRAFT_CYCLE_START` (R460): A draft task becomes READY at its cycle start, or the start is skipped as an overrun. Operands: task. -/
  | draftCycleStart (task : Nat)
  /-- `ACTIVATION_INSTANT` (R689): The treadle fires the scheduled grid index and the update activates, defers or is not honoured. -/
  | activationInstant
  /-- `ACTIVATION_RESET` (R691): After the activation writes, the boot record is set to trial the new slot and the module resets. -/
  | activationReset
  /-- `WARP_LOCK_GAINED` (R112): A warp port gains symbol lock after 16 valid symbols with a comma. Operands: chain and port (0 Wn-A, 1 Wn-B). -/
  | warpLockGained (chain port : Nat)
  /-- `WARP_LOCK_LOST` (R112): A warp port loses symbol lock; loss on both ports takes the chain to DOWN. Operands: chain and port. -/
  | warpLockLost (chain port : Nat)
  /-- `ENUM_LOCK_TIMEOUT` (R129): No lock on either port within 20 ms takes the chain to DOWN. Operands: chain. -/
  | enumLockTimeout (chain : Nat)
  /-- `ENUM_FRAME_RETURN` (R124): The ENUM frame arrives at Wn-B and the loop is taken as closed. Operands: chain and frame body. -/
  | enumFrameReturn (chain : Nat) (f : WFrame)
  /-- `ENUM_RETURN_TIMEOUT` (R124): No ENUM at Wn-B within 1 ms makes the loop open and sends ENUM from Wn-B. Operands: chain. -/
  | enumReturnTimeout (chain : Nat)
  /-- `IDENT_REPLY` (R125): An IDENT_REPLY is checked for device type and counted for the chain state. Operands: chain, port and frame body. -/
  | identReply (chain port : Nat) (f : WFrame)
  /-- `ECHO_REPLY` (R126): An ECHO_REPLY gives a round trip used to compute hop latency. Operands: chain, port, frame body, round trip in 0.25 ns. -/
  | echoReply (chain port : Nat) (f : WFrame) (trip : Nat)
  /-- `CONFIG_REPLY` (R123): A CONFIG_REPLY returns a written device parameter for read-back. Operands: chain and frame body. -/
  | configReply (chain : Nat) (f : WFrame)
  /-- `ENUM_FINISH` (R125): Enumeration ends in LOOP, BROKEN, PARTIAL or FAULT and the roster is compared. Operands: chain. -/
  | enumFinish (chain : Nat)
  /-- `ENUM_OVERALL_TIMEOUT` (R125): Enumeration not finished 200 ms after TRAINING ends in FAULT TIMEOUT. Operands: chain. -/
  | enumOverallTimeout (chain : Nat)
  /-- `AUTO_REENUMERATE` (R128): A chain in PARTIAL, FAULT or DOWN is re-enumerated every 5 s in permitted modes. Operands: chain. -/
  | autoReenumerate (chain : Nat)
  /-- `HEAD_DATA_RX` (R117): A HEAD_DATA frame is copied unchecked to the lanes and exchange bank. Operands: chain, port, frame body, time of its end. -/
  | headDataRx (chain port : Nat) (f : WFrame) (t : Nat)
  /-- `MON_INSTANT_RX` (R118): A MON_INSTANT frame is copied unchecked to the lanes and exchange bank. Operands: chain, port, frame body, time of its end. -/
  | monInstantRx (chain port : Nat) (f : WFrame) (t : Nat)
  /-- `MON_WINDOW_RX` (R119): A MON_WINDOW frame is held and delivered with the closing pick. Operands: chain, port, frame body, time of its end. -/
  | monWindowRx (chain port : Nat) (f : WFrame) (t : Nat)
  /-- `BALANCE_ACK_RX` (R158): A BALANCE_ACK marks a balance target as acknowledged. Operands: chain and frame body. -/
  | balanceAckRx (chain : Nat) (f : WFrame)
  /-- `RETURN_WINDOW_CLOSE` (R135): The return window closes; incomplete frames are discarded and counted missing. Operands: chain. -/
  | returnWindowClose (chain : Nat)
  /-- `PICK_RELEASE` (R136): The pick is released to consumers once all chain data is in or the window has closed. Operands: time; whether the cloth record writer's queue is full. -/
  | pickRelease (t : Nat) (full : Bool)
  /-- `BREAK_DECLARED` (R141): A missing round-trip copy for 2 picks declares a break and makes the chain BROKEN. Operands: chain. -/
  | breakDeclared (chain : Nat)
  /-- `DEVICE_ANSWER_LOST` (R129): A device with 3 consecutive missed returns stops answering and the chain goes PARTIAL. Operands: chain and address. -/
  | deviceAnswerLost (chain addr : Nat)
  /-- `DEVICE_ANSWER_RESTORED` (R129): Every device valid at 3 consecutive returns brings PARTIAL back to LOOP or BROKEN. Operands: chain, and whether the loop is closed. -/
  | deviceAnswerRestored (chain : Nat) (closed : Bool)
  /-- `HEALING_START` (R144): Round-trip copies on both ports for 100 picks start healing a BROKEN chain. Operands: chain. -/
  | healingStart (chain : Nat)
  /-- `HEALING_COMPLETE` (R144): Missing latencies measured, RESTORE_SPLIT sent and the chain returns to LOOP. Operands: chain. -/
  | healingComplete (chain : Nat)
  /-- `WARP_STATUS_GET` (R156): Returns a chain's registers. Opcode 0x0200. -/
  | warpStatusGet (r : Req)
  /-- `WARP_ROSTER_GET` (R156): Returns the chain roster entries. Opcode 0x0201. -/
  | warpRosterGet (r : Req)
  /-- `WARP_ROSTER_ACCEPT` (R160): Replaces the chain roster with the serial numbers found. Opcode 0x0202. -/
  | warpRosterAccept (r : Req)
  /-- `WARP_REENUMERATE` (R162): Re-enumerates the named chains where the mode permits. Opcode 0x0203. -/
  | warpReenumerate (r : Req)
  /-- `BALANCE_SET` (R158): Sends BALANCE commands with START set to the latest pick plus 4. Opcode 0x0204. -/
  | balanceSet (r : Req)
  /-- `BALANCE_ACK_TIMEOUT` (R158): A target unacknowledged by pick START − 1 cancels all targets and completes with TIMEOUT. Operands: pick index START of the request. -/
  | balanceAckTimeout (pick : Nat)
  /-- `BALANCE_HOT_RESUME` (R149): Balancing of a DIE_HOT monitor resumes 60 s after DIE_HOT cleared. Operands: chain and monitor address. -/
  | balanceHotResume (chain addr : Nat)
  /-- `AUTO_BALANCE_ISSUE` (R151): The automatic policy issues balance commands again when half the duration has run. Operands: string. -/
  | autoBalanceIssue (string : Nat)
  /-- `BALANCE_STATUS_GET` (R156): Returns balancing state of a chain's monitors. Opcode 0x0205. -/
  | balanceStatusGet (r : Req)
  /-- `WARP_COUNTERS_GET` (R156): Reads and clears the chain counters. Opcode 0x0206. -/
  | warpCountersGet (r : Req)
  /-- `ESTIMATOR_STEP` (R188): Tiles step every configured cell's four hypotheses and publish cell and string limits. Operands: string limits handed over, 10 ns units after the release; measured cycles of each tile. -/
  | estimatorStep (time : Nat) (cycles : List Nat)
  /-- `HYP_RESEED` (R190): A hypothesis below 0.001 for EST_RESEED_TIME is re-seeded from the dominant one. Operands: cell and hypothesis. -/
  | hypReseed (cell j : Nat)
  /-- `SHORT_WATCH_SET` (R192): p_3 at 0.5 or more for 60 s sets SHORT_WATCH. Operands: cell. -/
  | shortWatchSet (cell : Nat)
  /-- `MICRO_SHORT_SET` (R192): p_3 held for EST_SHORT_CONFIRM with ish above minimum latches MICRO_SHORT. Operands: cell. -/
  | microShortSet (cell : Nat)
  /-- `RES_HIGH_CHANGE` (R192): The 300 s condition timer sets or clears RES_HIGH. Operands: cell. -/
  | resHighChange (cell : Nat)
  /-- `FADE_CHANGE` (R192): The 300 s condition timer sets or clears FADE. Operands: cell. -/
  | fadeChange (cell : Nat)
  /-- `CELL_VALID_TIMEOUT` (R186): A cell with no voltage update for 10 s loses VALID. Operands: cell. -/
  | cellValidTimeout (cell : Nat)
  /-- `T_SUBST_TIMEOUT` (R185): An NTC input with no valid reading for 60 s sets T_SUBST. Operands: chain, monitor address and NTC input. -/
  | tSubstTimeout (chain monitor input : Nat)
  /-- `CURRENT_LOST_HOLD_END` (R187): After 4 steps of lost current the mean current becomes 0 and z variance grows. Operands: string. -/
  | currentLostHoldEnd (string : Nat)
  /-- `EST_STATUS_GET` (R215): Returns the estimator status. Opcode 0x0300. -/
  | estStatusGet (r : Req)
  /-- `EST_CELLS_GET` (R214): Returns cell output records. Opcode 0x0301. -/
  | estCellsGet (r : Req)
  /-- `EST_STRINGS_GET` (R214): Returns string aggregate records. Opcode 0x0302. -/
  | estStringsGet (r : Req)
  /-- `EST_CELL_RECORD_GET` (R214): Returns a cell record and clears DIVERGED. Opcode 0x0303. -/
  | estCellRecordGet (r : Req)
  /-- `EST_FLAGS_CLEAR` (R214): Clears latched cell flags at a pick boundary. Opcode 0x0304. -/
  | estFlagsClear (r : Req)
  /-- `EST_REINIT` (R216): Cold-starts a range of cells at a pick boundary. Opcode 0x0305. -/
  | estReinit (r : Req)
  /-- `EST_PACK_LOAD` (R214): Writes a chemistry pack slot setting from bulk pages. Opcode 0x0306. -/
  | estPackLoad (r : Req)
  /-- `EST_PACK_GET` (R214): Returns a stored pack. Opcode 0x0307. -/
  | estPackGet (r : Req)
  /-- `SPAN_END` (R226): A span ends 128 s after its start. Operands: string. -/
  | spanEnd (string : Nat)
  /-- `DV_CHECK_TIME` (R228): At each check time a cell records DV[m]. Operands: cell and check time. -/
  | dvCheckTime (cell idx : Nat)
  /-- `STEP_FIT_COMPLETE` (R233): The 16-step search ends and an accepted fit updates the bin and the suspect run. Operands: cell. -/
  | stepFitComplete (cell : Nat)
  /-- `RIP_AGE_PERIOD` (R236): At each pick multiple of K × RIP_TAU, RIP_AGE increases. -/
  | ripAgePeriod
  /-- `CAP_RUN_REST_TIMEOUT` (R239): Rest longer than 60 s ends an armed or running capacity run. Operands: string. -/
  | capRunRestTimeout (string : Nat)
  /-- `CAP_APPLY` (R242): New capacities are applied at the first boundary at rest after a COMPLETE end. Operands: string. -/
  | capApply (string : Nat)
  /-- `SWEEP_FREEZE` (R247): A learned-data sweep is frozen at a pick boundary and its header written. -/
  | sweepFreeze
  /-- `SWEEP_VALID_MARK` (R247): All cell records written, the sweep's valid mark is written and event 251 raised. -/
  | sweepValidMark
  /-- `SWEEP_DEFER_END` (R251): A sweep deferred by high command load starts after at most 10 min. -/
  | sweepDeferEnd
  /-- `LEARN_STATUS_GET` (R257): Returns learning status. Opcode 0x0310. -/
  | learnStatusGet (r : Req)
  /-- `LEARN_CELLS_GET` (R256): Returns learned data per cell. Opcode 0x0311. -/
  | learnCellsGet (r : Req)
  /-- `LEARN_TABLE_GET` (R255): Returns a cell's impedance table. Opcode 0x0312. -/
  | learnTableGet (r : Req)
  /-- `LEARN_GRADE_GET` (R243): Returns grading records. Opcode 0x0313. -/
  | learnGradeGet (r : Req)
  /-- `LEARN_RUN_STATUS_GET` (R258): Returns capacity run state per string. Opcode 0x0314. -/
  | learnRunStatusGet (r : Req)
  /-- `RESET_LEARNED` (R253): Discards selected learned data of a range of cells at a pick boundary. Opcode 0x0315. -/
  | resetLearned (r : Req)
  /-- `LEARN_SUSPECT_CLEAR` (R253): Clears SUSPECT and SUSPECT_RUN of a range of cells. Opcode 0x0316. -/
  | learnSuspectClear (r : Req)
  /-- `LEARN_SWEEP_NOW` (R255): Requests a sweep and completes at its valid mark. Opcode 0x0317. -/
  | learnSweepNow (r : Req)
  /-- `TILE_LATE_TIMEOUT` (R271): A tile not done 80 µs after release is faulted LATE. Operands: tile. -/
  | tileLateTimeout (tile : Nat)
  /-- `TILE_WATCHDOG_EXPIRY` (R271): A tile's microcode watchdog expires and the tile is faulted. Operands: tile. -/
  | tileWatchdogExpiry (tile : Nat)
  /-- `BANK_ECC_ERROR` (R283): An ECC error in a bank is corrected or, if uncorrectable, faults a tile or marks data missing. Operands: bank; uncorrectable; for a bank of pick data, the frames affected as 64 × chain + address. -/
  | bankEccError (bank : Nat) (uncorr : Bool) (frames : List Nat)
  /-- `TAKEOVER_ASSIGN` (R275): After the learned copies load, the replacement's assignment comes into force at a pick boundary. Operands: the faulted tile; cells whose learned copy was not readable. -/
  | takeoverAssign (tile : Nat) (lost : List Nat)
  /-- `TILE_STARTED` (R296): A powered-up tile has loaded microcode and passed self-test, or faults SELF_TEST. Operands: tile; self-test passed. -/
  | tileStarted (tile : Nat) (ok : Bool)
  /-- `SHED_END` (R279): Die temperature at or below 100 °C for 10 s ends shedding. -/
  | shedEnd
  /-- `BNK_OWN_REQ_WRITE` (R290): A write to BNK_OWNn.REQ requests a handover, refused or started. Operands: bank and master written. -/
  | bnkOwnReqWrite (bank master : Nat)
  /-- `BNK_OWN_REQ_B_WRITE` (R290): A write to BNK_OWNn.REQ_B requests a port B handover of an exchange bank. Operands: bank and master written. -/
  | bnkOwnReqBWrite (bank master : Nat)
  /-- `HANDOVER_COMPLETE` (R291): Accesses drained, the bank owner changes and held accesses proceed. Operands: bank and port. -/
  | handoverComplete (bank : Nat) (portB : Bool)
  /-- `PWR_DOM_REQ_WRITE` (R297): A write to PWR_DOMd.REQ requests a domain state, refused or started. Operands: domain and REQ written. -/
  | pwrDomReqWrite (dom req : Nat)
  /-- `DOMAIN_CHANGE_DONE` (R296): A power domain change completes. Operands: domain. -/
  | domainChangeDone (dom : Nat)
  /-- `REPLAY_DOMAIN_OFF` (R295): The replay domain goes off 10 s after the last replay ends. -/
  | replayDomainOff
  /-- `WFT_MAP_GET` (R299): Returns the tile assignment map. Opcode 0x0320. -/
  | wftMapGet (r : Req)
  /-- `LANE_EVALUATION` (R316): A lane checks its frame copies, evaluates every function and drives its vote lines. Operands: lane, the frames its own CRC check refuses as 64 × chain + address, time. -/
  | laneEvaluation (lane : Nat) (bad : List Nat) (t : Nat)
  /-- `LANE_TICK` (R323): At each 50 µs lane tick the lane reads the vote lines and checks blind times. Operands: lane, the lanes it declares failed with the cause it finds, time. -/
  | laneTick (lane : Nat) (accuse : List (Nat × Nat)) (t : Nat)
  /-- `BLIND_TIMEOUT` (R318): A value missing for its blind time makes the lane vote BLIND. Operands: lane, kind and place of the value, time. -/
  | blindTimeout (lane kind item t : Nat)
  /-- `BLIND_HALF_TIME` (R353): A value missing for half its blind time raises event 138. Operands: lane, kind and place of the value, time. -/
  | blindHalfTime (lane kind item t : Nat)
  /-- `LANE_WATCHDOG_EXPIRY` (R326): No completed evaluation by 200 µs at two picks fails the lane. Operands: lane. -/
  | laneWatchdogExpiry (lane : Nat)
  /-- `LANE_BLOCK_CRC_CHECK` (R326): Every 1 s a lane checks the CRC of its parameter copy. Operands: lane, result. -/
  | laneBlockCrcCheck (lane : Nat) (ok : Bool)
  /-- `LANE_SELF_TEST_CYCLE` (R326): A lane's periodic self-test cycle completes, failing the lane on error. Operands: lane, result. -/
  | laneSelfTestCycle (lane : Nat) (ok : Bool)
  /-- `LANE_DISPUTE_EXPIRY` (R326): A dispute lasting 10 s fails the minority lane with DISPUTE_LOST. Operands: lane. -/
  | laneDisputeExpiry (lane : Nat)
  /-- `DEGRADED_TIMEOUT` (R327): The degraded timer reaching DEGRADED_MAX votes DEGRADED_TIMEOUT in both lanes. -/
  | degradedTimeout
  /-- `DEGRADED_WARN` (R327): 10 % of DEGRADED_MAX remaining raises event 132. -/
  | degradedWarn
  /-- `DEGRADED_SAVE` (R327): The degraded timer is saved to flash every 60 s. -/
  | degradedSave
  /-- `PULSE_TEST_START` (R332): A conducting output's due pulse test turns one switch off. Operands: output. -/
  | pulseTestStart (so : Nat)
  /-- `PULSE_TEST_SWITCH_ON` (R332): 100 µs after sensing off, or at 300 µs, the tested switch is turned back on. Operands: sensed off while commanded off; sensed on again. -/
  | pulseTestSwitchOn (sensedOff sensedOn : Bool)
  /-- `PULSE_TEST_ON_TIMEOUT` (R332): A tested switch not sensed on by 400 µs gives a stuck-off fault. -/
  | pulseTestOnTimeout
  /-- `SO_STUCK_ON_TIMEOUT` (R331): A switch sensed on while commanded off for 300 µs is faulted stuck on. Operands: output, low side. -/
  | soStuckOnTimeout (so : Nat) (low : Bool)
  /-- `SO_STUCK_OFF_TIMEOUT` (R331): A switch not sensed on 400 µs after switch-on is faulted stuck off. Operands: output, low side. -/
  | soStuckOffTimeout (so : Nat) (low : Bool)
  /-- `SO_OVERLOAD_TIMEOUT` (R329): An output at current limit for 200 µs or overheated is switched off with OVERLOAD. Operands: output. -/
  | soOverloadTimeout (so : Nat)
  /-- `SO_OPEN_LOAD_TIMEOUT` (R331): Coil current below 20 mA for 100 ms while conducting gives OPEN_LOAD. Operands: output. -/
  | soOpenLoadTimeout (so : Nat)
  /-- `SI_INPUT_CHANGE` (R335): A filtered safety input channel change updates activity and STOP demand. Operands: input, its two channels, time. -/
  | siInputChange (si : Nat) (a b : Bool) (t : Nat)
  /-- `SI_DISCREPANCY` (R336): Channels in neither combination longer than SI_DISCREP_i give a discrepancy. Operands: input, time. -/
  | siDiscrepancy (si t : Nat)
  /-- `SEAL_BREAK` (R370): Seal contact open for 20 ms records a seal break. -/
  | sealBreak
  /-- `SEAL_SWITCH_CHANGE` (R370): A change of SW1 to SW8 while armed in switch mode records a break. Operands: lane, SW1 to SW8 as it reads them. -/
  | sealSwitchChange (lane sw : Nat)
  /-- `FUSE_EN_ASSERT` (R359): FUSE_EN asserted raises event 149 outside COMMISSION and may release the head. -/
  | fuseEnAssert
  /-- `FUSE_EN_RELEASE` (R356): FUSE_EN released during a burn spoils the group. -/
  | fuseEnRelease
  /-- `SAFETY_STATUS_GET` (R383): Returns the commissioning status. Opcode 0x0400. -/
  | safetyStatusGet (r : Req)
  /-- `SAFETY_BLOCK_LOAD` (R363): Stages a checked safety parameter block. Opcode 0x0401. -/
  | safetyBlockLoad (r : Req)
  /-- `SAFETY_BLOCK_GET` (R382): Returns the armed, staged or profile block. Opcode 0x0402. -/
  | safetyBlockGet (r : Req)
  /-- `COMMISSION_ARM` (R363): Arms the staged block or named profile if its CRC matches. Opcode 0x0403. -/
  | commissionArm (r : Req)
  /-- `ARM_COMMIT` (R364): After lanes accept and flash copies are written, the block is armed at a pick boundary. Operands: lanes A and B accept their copies. -/
  | armCommit (okA okB : Bool)
  /-- `SAFETY_DISARM` (R373): Removes the armed block. Opcode 0x0404. -/
  | safetyDisarm (r : Req)
  /-- `SAFETY_PROFILES_LOAD` (R368): Replaces the stored profile set and removes the armed block. Opcode 0x0405. -/
  | safetyProfilesLoad (r : Req)
  /-- `FUSE_PROGRAM` (R356): Burns a fuse group with read-back and valid bit. Opcode 0x0406. -/
  | fuseProgram (r : Req)
  /-- `FUSE_READ` (R382): Returns a fuse group's value bytes. Opcode 0x0407. -/
  | fuseRead (r : Req)
  /-- `KEY_PROVISION` (R376): Stores a wrapped role key and closes contexts opened under the older one. Opcode 0x0408. -/
  | keyProvision (r : Req)
  /-- `KEY_RETIRE` (R378): Removes a non-SAFETY role key. Opcode 0x0409. -/
  | keyRetire (r : Req)
  /-- `SO_REQUEST` (R379): Sets and clears the host's safety output requests at the next pick boundary. Opcode 0x040A. -/
  | soRequest (r : Req)
  /-- `LOOP_COMPUTE` (R399): After release each ticking loop ramps, clamps and computes its PID output. Operands: time of the outputs after the pick instant, in the unit of TMP_TICK. -/
  | loopCompute (time : Nat)
  /-- `FB_LOST` (R415): AGE exceeding FB_LOST_N declares the feedback lost and the loop enters FB_HOLD. Operands: loop. -/
  | fbLost (loop : Nat)
  /-- `FB_HOLD_TIMEOUT` (R417): HOLD_TIME in FB_HOLD moves the loop to FB_FALLBACK. Operands: loop, time. -/
  | fbHoldTimeout (loop t : Nat)
  /-- `DWELL_END` (R403): DWELL_ZERO elapsed ends the dwell at zero. Operands: loop, time. -/
  | dwellEnd (loop t : Nat)
  /-- `STOP_TIMEOUT` (R411): A loop still STOPPING after TMP_STOP_TIMEOUT is forced IDLE. Operands: loop, time. -/
  | stopTimeout (loop t : Nat)
  /-- `STEP_TIME_EXPIRY` (R423): A recipe step reaching T_MAX ends or aborts with STEP_TIMEOUT. Operands: string. -/
  | stepTimeExpiry (string : Nat)
  /-- `PULSE_PHASE_END` (R422): A PULSE step's T_ON or T_OFF elapses and the set-point switches. Operands: string, time. -/
  | pulsePhaseEnd (string t : Nat)
  /-- `DISPATCH_SET` (R418): Sets the block power set-point P_set. Opcode 0x0500. -/
  | dispatchSet (r : Req)
  /-- `DISPATCH_GET` (R437): Returns the dispatch state. Opcode 0x0501. -/
  | dispatchGet (r : Req)
  /-- `TMP_SP_SET` (R436): Sets the host set-point of a general loop. Opcode 0x0502. -/
  | tmpSpSet (r : Req)
  /-- `TMP_LOOP_GET` (R439): Returns a loop's state. Opcode 0x0503. -/
  | tmpLoopGet (r : Req)
  /-- `TMP_LOOP_LOAD` (R395): Writes the loop table setting from bulk pages. Opcode 0x0504. -/
  | tmpLoopLoad (r : Req)
  /-- `TMP_LOOP_TABLE_GET` (R436): Returns the loop table in force. Opcode 0x0505. -/
  | tmpLoopTableGet (r : Req)
  /-- `FORM_RECIPE_LOAD` (R430): Writes a string's recipe setting from bulk pages. Opcode 0x0506. -/
  | formRecipeLoad (r : Req)
  /-- `FORM_RECIPE_GET` (R436): Returns a string's recipe. Opcode 0x0507. -/
  | formRecipeGet (r : Req)
  /-- `FORM_START` (R429): Starts named sequences at a step. Opcode 0x0508. -/
  | formStart (r : Req)
  /-- `FORM_PAUSE` (R427): Pauses named sequences. Opcode 0x0509. -/
  | formPause (r : Req)
  /-- `FORM_RESUME` (R427): Resumes named paused sequences. Opcode 0x050A. -/
  | formResume (r : Req)
  /-- `FORM_ABORT` (R429): Aborts named sequences. Opcode 0x050B. -/
  | formAbort (r : Req)
  /-- `FORM_STATUS_GET` (R438): Returns sequencer status per string. Opcode 0x050C. -/
  | formStatusGet (r : Req)
  /-- `DRAFT_TASK_COMMIT` (R461): A task completes its cycle and commits its output image. Operands: task; what it computed: its output values, execution time in µs, and what it did to its data, in order. -/
  | draftTaskCommit (task : Nat) (vals : List Nat) (us : Nat) (acts : List DraftAct)
  /-- `DRAFT_EXEC_LIMIT` (R464): A task executing beyond 4 × WCET is halted and the engine stops. Operands: task. -/
  | draftExecLimit (task : Nat)
  /-- `DRAFT_TRAP` (R465): A run-time error halts the task and stops the engine. Operands: task, trap code, code offset. -/
  | draftTrap (task code offset : Nat)
  /-- `DRAFT_SEND` (R466): SEND sets an event latch or releases the lowest waiting task. Operands: task and event. -/
  | draftSend (task event : Nat)
  /-- `DRAFT_WAIT` (R466): WAIT clears a set latch or suspends the task. Operands: task, event, timeout in µs, time. -/
  | draftWait (task event : Nat) (timeout : Option Nat) (t : Nat)
  /-- `DRAFT_WAIT_TIMEOUT` (R466): A timed wait elapses and returns FALSE. Operands: task, time. -/
  | draftWaitTimeout (task t : Nat)
  /-- `DRAFT_CELL_READ` (R471): CELL_READ returns cell output records from the complete buffer. Operands: task, first cell and count. -/
  | draftCellRead (task first n : Nat)
  /-- `DRAFT_RETAIN_SAVE` (R457): The RETAIN area is saved to flash every DRF_RETAIN_PERIOD. -/
  | draftRetainSave
  /-- `DRAFT_TIME_ADJUST` (R468): Once a second the draft time rate is corrected towards plant time. Operands: busy share of the last second in 0.1 %, time. -/
  | draftTimeAdjust (busy t : Nat)
  /-- `DRF_STATUS_GET` (R476): Returns draft engine status. Opcode 0x0600. -/
  | drfStatusGet (r : Req)
  /-- `DRF_LOAD` (R452): Checks and stores a program image. Opcode 0x0601. -/
  | drfLoad (r : Req)
  /-- `DRF_UNLOAD` (R476): Erases the stored image. Opcode 0x0602. -/
  | drfUnload (r : Req)
  /-- `DRF_START` (R455): Starts the engine COLD or WARM. Opcode 0x0603. -/
  | drfStart (r : Req)
  /-- `DRF_STOP` (R455): Stops the engine. Opcode 0x0604. -/
  | drfStop (r : Req)
  /-- `DRF_HOLD` (R455): Holds the running engine. Opcode 0x0605. -/
  | drfHold (r : Req)
  /-- `DRF_RESUME` (R455): Resumes from HOLD. Opcode 0x0606. -/
  | drfResume (r : Req)
  /-- `DRF_STEP` (R476): Runs one cycle of one task from HOLD. Opcode 0x0607. -/
  | drfStep (r : Req)
  /-- `DRF_TASKS_GET` (R476): Returns task states. Opcode 0x0608. -/
  | drfTasksGet (r : Req)
  /-- `DRF_VAR_GET` (R476): Returns exchange variables. Opcode 0x0609. -/
  | drfVarGet (r : Req)
  /-- `DRF_VAR_SET` (R473): Writes an exchange variable not owned by another writer. Opcode 0x060A. -/
  | drfVarSet (r : Req)
  /-- `REQUEST_MALFORMED` (R486): A malformed request is dropped without reply and counted. Operands: UDP payload as received. -/
  | requestMalformed (datagram : List Byte) (fragmented : Bool)
  /-- `BAD_OPCODE` (R503): A request with an unknown opcode completes with BAD_OPCODE. Operands: opcode. -/
  | badOpcode (op : Nat) (r : Req)
  /-- `SYS_IDENT_GET` (R529): Returns module identity. Opcode 0x0000. -/
  | sysIdentGet (r : Req)
  /-- `CTX_OPEN` (R490): Opens a context with a role and returns the module nonce. Opcode 0x0001. -/
  | ctxOpen (r : Req)
  /-- `CTX_AUTH` (R492): Checks the host proof and grants the role's privilege. Opcode 0x0002. -/
  | ctxAuth (r : Req)
  /-- `CTX_AUTH_TIMEOUT` (R492): A keyed context without CTX_AUTH in 10 s is closed. Operands: the context. -/
  | ctxAuthTimeout (ctx : Nat)
  /-- `CTX_CLOSE` (R496): Closes the context at the module. Opcode 0x0003. -/
  | ctxClose (r : Req)
  /-- `CTX_IDLE_TIMEOUT` (R496): A context with no request for CTX_IDLE_TIME is closed. Operands: the context. -/
  | ctxIdleTimeout (ctx : Nat)
  /-- `CMD_ABORT` (R502): Withdraws or stops a command of the context by TAG. Opcode 0x0004. -/
  | cmdAbort (r : Req)
  /-- `EVT_SUBSCRIBE` (R506): Replaces the context's event subscription. Opcode 0x0005. -/
  | evtSubscribe (r : Req)
  /-- `EVENT_PACKET_SEND` (R508): Waiting event records are sent in an event packet at least 1 ms after the previous. Operands: the context. -/
  | eventPacketSend (ctx : Nat)
  /-- `CMD_LOAD_HIGH` (R505): Command load above 90 % for 1 s raises event 488. Operands: load of the last second, 0.1 %. -/
  | cmdLoadHigh (load : Nat)
  /-- `REG_RD` (R510): Reads registers, clearing RC fields and using the high-half shadow. Opcode 0x0120. -/
  | regRd (r : Req)
  /-- `REG_WR` (R17): Writes a register that has no row of its own, or is refused as DENIED. Opcode 0x0121. -/
  | regWr (r : Req)
  /-- `REG_RD64` (R510): Reads two consecutive registers in one access. Opcode 0x0122. -/
  | regRd64 (r : Req)
  /-- `SET_READ` (R512): Reads a setting in force, in the shadow or by default. Opcode 0x0100. -/
  | setRead (r : Req)
  /-- `SET_WRITE` (R513): Writes a scalar setting to the shadow or commits it alone. Opcode 0x0101. -/
  | setWrite (r : Req)
  /-- `TXN_BEGIN` (R515): Opens the transaction. Opcode 0x0110. -/
  | txnBegin (r : Req)
  /-- `TXN_COMMIT` (R516): Checks the shadow and accepts the commit. Opcode 0x0111. -/
  | txnCommit (r : Req)
  /-- `TXN_APPLY` (R517): At the apply boundary the shadow comes into force as a new generation. -/
  | txnApply
  /-- `TXN_ROLLBACK` (R519): Rolls back the open transaction. Opcode 0x0112. -/
  | txnRollback (r : Req)
  /-- `TXN_IDLE_TIMEOUT` (R519): 120 s without activity from the owner rolls back the transaction. -/
  | txnIdleTimeout
  /-- `TXN_STATUS_GET` (R515): Returns transaction status. Opcode 0x0113. -/
  | txnStatusGet (r : Req)
  /-- `SETTINGS_SAVE` (R521): The applied generation is written to the older flash copy. -/
  | settingsSave
  /-- `BULK_STATUS_GET` (R525): Returns bulk window status. Opcode 0x0A00. -/
  | bulkStatusGet (r : Req)
  /-- `BULK_GIVE` (R525): Gives HOST pages to the context for output. Opcode 0x0A01. -/
  | bulkGive (r : Req)
  /-- `BULK_RECLAIM` (R525): Returns the context's given pages to HOST. Opcode 0x0A02. -/
  | bulkReclaim (r : Req)
  /-- `BULK_WRITE` (R523): Writes data into a HOST page. Opcode 0x0A10. -/
  | bulkWrite (r : Req)
  /-- `BULK_READ` (R523): Reads data from a HOST page. Opcode 0x0A11. -/
  | bulkRead (r : Req)
  /-- `BULK_OUTPUT_BATCH` (R526): Given pages are filled with the next batch of output and CONTINUE or the final reply sent. Operands: the command whose output it is. -/
  | bulkOutputBatch (ctx tag : Nat)
  /-- `BULK_PAGE_WAIT_TIMEOUT` (R526): No pages given within 120 s ends bulk output with TIMEOUT. Operands: the command whose output waits. -/
  | bulkPageWaitTimeout (ctx tag : Nat)
  /-- `RING_BLOCK_LOCK_CHANGE` (R537): A ring port's PCS gains or loses block lock or error-rate state. Operands: port (0 RA, 1 RB); block lock with no high bit error rate; time. -/
  | ringBlockLockChange (port : Nat) (ok : Bool) (t : Nat)
  /-- `HELLO_SEND` (R537): Each ring port sends a HELLO every 100 µs. Operands: port and its turn-round time in ns. -/
  | helloSend (port turn : Nat)
  /-- `HELLO_RX` (R537): A HELLO from the peer counts towards link up, measures delay and detects miswiring. Operands: the frame, the round-trip time of the HELLO exchange in ns, time. -/
  | helloRx (f : RFrame) (trip : Nat) (t : Nat)
  /-- `HELLO_TIMEOUT` (R537): No HELLO for 300 µs takes the link down and the module wraps. Operands: port and time. -/
  | helloTimeout (port t : Nat)
  /-- `RING_UNWRAP` (R544): A port up for 100 ms is unwrapped at the next HELLO exchange. Operands: port and time. -/
  | ringUnwrap (port t : Nat)
  /-- `PATH_HOLD_END` (R543): Frames held 500 µs after a path change are released. Operands: the destination. -/
  | pathHoldEnd (dst : Nat)
  /-- `ANNOUNCE_SEND` (R539): Every 100 ms the module broadcasts ANNOUNCE. Operands: transmit load of RA and RB over the last 100 ms in 0.1 %, time. -/
  | announceSend (loadA loadB t : Nat)
  /-- `ANNOUNCE_RX` (R549): An ANNOUNCE updates the topology, paths and duplicate-address state. Operands: the frame, whether its sender announces host link up, time. -/
  | announceRx (f : RFrame) (hostUp : Bool) (t : Nat)
  /-- `MODULE_ANNOUNCE_TIMEOUT` (R550): A module unannounced for 300 ms leaves the head's table and its commands get LOST answers. Operands: serial number of the module. -/
  | moduleAnnounceTimeout (serial : Nat)
  /-- `RING_FRAME_FORWARD` (R540): A frame for another module is forwarded cut-through after its HCRC checks. Operands: the frame, and whether the queue of the outgoing port is full. -/
  | ringFrameForward (f : RFrame) (full : Bool)
  /-- `REPLY_FRAME_RX` (R550): The head forwards a REPLY frame to the host endpoint. Operands: the frame. -/
  | replyFrameRx (f : RFrame)
  /-- `EVENT_FRAME_RX` (R539): The head forwards an EVENT frame to the host. Operands: the frame. -/
  | eventFrameRx (f : RFrame)
  /-- `BULK_FRAME_RX` (R548): A bulk frame moves hop by hop against credit. Operands: the frame. -/
  | bulkFrameRx (f : RFrame)
  /-- `CREDIT_RX` (R548): A CREDIT frame grants room for bulk frames on a port. Operands: the frame. -/
  | creditRx (f : RFrame)
  /-- `TIME_FRAME_SEND` (R552): The head sends a TIME frame every 10 ms. Operands: time. -/
  | timeFrameSend (t : Nat)
  /-- `TIME_FRAME_RX` (R554): A TIME frame sets or corrects plant time and delivers the grid index pair. Operands: the frame, its residence time in this module in ns, time of its arrival. -/
  | timeFrameRx (f : RFrame) (residence t : Nat)
  /-- `TIME_HOLDOVER` (R554): No TIME frame for 10 s puts plant time in holdover. Operands: time. -/
  | timeHoldover (t : Nat)
  /-- `ADDR_ASSIGN_RX` (R549): An unassigned module named by ADDR_ASSIGN takes the ring address. Operands: the frame. -/
  | addrAssignRx (f : RFrame)
  /-- `HOST_DATAGRAM_RX` (R550): The head forwards a host UDP packet to its module or answers NOT_PRESENT. Operands: source address and port, destination port, whether sent to a broadcast address, the UDP payload. -/
  | hostDatagramRx (ip port dport : Nat) (bcast : Bool) (d : List Byte)
  /-- `HOST_ARP_RX` (R556): The head answers an ARP request for HOST_IP. Operands: sender address and MAC address, address asked for, time. -/
  | hostArpRx (ip mac target t : Nat)
  /-- `HOST_ICMP_ECHO` (R556): The head answers an ICMP echo request within rate. Operands: source address, time, data. -/
  | hostIcmpEcho (ip t : Nat) (d : List Byte)
  /-- `HOST_LINK_CHANGE` (R557): Cage H gains or loses link, entering or leaving local mode. Operands: whether cage H has link, time. -/
  | hostLinkChange (up : Bool) (t : Nat)
  /-- `CAGE_OPTIC_CHANGE` (R535): An optic inserted or removed is identified and accepted or refused. Operands: cage (0 H, 1 RA, 2 RB); optic: 0 none, 1 10GBASE-SR, 2 10GBASE-LR, 3 1000BASE-X, 4 another type, 5 identity not readable. -/
  | cageOpticChange (cage kind : Nat)
  /-- `GRATUITOUS_ARP_SEND` (R563): A new head sends three gratuitous ARP replies 100 ms apart. -/
  | gratuitousArpSend
  /-- `HEAD_HOLD_RELEASE_SENSED` (R561): The arbiter senses HEAD_HOLD released for 0.5 ms and starts the guard. Operands: time. -/
  | headHoldReleaseSensed (t : Nat)
  /-- `ARB_GUARD_END` (R561): After the 20 ms guard the arbiter stores a new epoch, sends CLAIM_OPEN and starts the probe. Operands: time. -/
  | arbGuardEnd (t : Nat)
  /-- `ARB_PROBE_PHASE_END` (R561): A 2 ms probe phase ends and ARB_GRANT changes polarity. Operands: time. -/
  | arbProbePhaseEnd (t : Nat)
  /-- `ARB_WINDOW_CLOSE` (R563): The claim window closes and the arbiter refuses claims and grants one. Operands: time. -/
  | arbWindowClose (t : Nat)
  /-- `ARB_GRANT_HOLD_TIMEOUT` (R563): HEAD_HOLD not asserted 20 ms after a grant makes the arbiter drive zero. Operands: time. -/
  | arbGrantHoldTimeout (t : Nat)
  /-- `ARB_REOPEN` (R561): A round with no grant reopens 1 s later. Operands: time. -/
  | arbReopen (t : Nat)
  /-- `ARB_HOLD_NO_HEAD` (R566): HEAD_HOLD asserted with no head announced for 1 s makes the arbiter fault. Operands: time. -/
  | arbHoldNoHead (t : Nat)
  /-- `CLAIM_OPEN_RX` (R560): A candidate samples its side and sends HEAD_CLAIM in the window. Operands: the frame; the side seen during the probe it opens: 0 none, 1 P, 2 N. -/
  | claimOpenRx (f : RFrame) (side : Nat)
  /-- `HEAD_CLAIM_RX` (R562): The arbiter collects a claim within the window. Operands: the frame. -/
  | headClaimRx (f : RFrame)
  /-- `HEAD_GRANTED_RX` (R563): The granted candidate asserts HEAD_HOLD and becomes head. Operands: the frame, time. -/
  | headGrantedRx (f : RFrame) (t : Nat)
  /-- `ARB_GRANT_CHANGE` (R559): A change on ARB_GRANT sets or clears the candidate's grant latch. Operands: ARB_GRANT as read: 0 zero, 1 positive, 2 negative. -/
  | arbGrantChange (level : Nat)
  /-- `ARB_BEACON_SEND` (R539): The arbiter broadcasts ARB_BEACON every 100 ms. -/
  | arbBeaconSend
  /-- `ARB_BEACON_RX` (R566): An ARB_BEACON is heard; two arbiters stop arbitrating. Operands: the frame. -/
  | arbBeaconRx (f : RFrame)
  /-- `ARB_BEACON_TIMEOUT` (R566): No ARB_BEACON for 1 s raises event 403. -/
  | arbBeaconTimeout
  /-- `HEAD_HOST_LOSS_TIMEOUT` (R565): Cage H without link for HEAD_HOST_LOSS releases the head. Operands: time. -/
  | headHostLossTimeout (t : Nat)
  /-- `HEAD_RING_LOSS_TIMEOUT` (R565): Both ring ports down for 200 ms releases the head. Operands: time. -/
  | headRingLossTimeout (t : Nat)
  /-- `HEAD_RELEASE_EXECUTE` (R565): 10 ms after HEAD_RELEASE's reply the head releases HEAD_HOLD. Operands: time. -/
  | headReleaseExecute (t : Nat)
  /-- `RING_STATUS_GET` (R569): Returns ring registers. Opcode 0x0D00. -/
  | ringStatusGet (r : Req)
  /-- `RING_TOPOLOGY_GET` (R570): Returns the ring topology. Opcode 0x0D01. -/
  | ringTopologyGet (r : Req)
  /-- `RING_ADDR_ASSIGN` (R549): The head assigns a ring address to an unassigned module. Opcode 0x0D02. -/
  | ringAddrAssign (r : Req)
  /-- `HEAD_RELEASE` (R565): Asks the head to release headship. Opcode 0x0D03. -/
  | headRelease (r : Req)
  /-- `RING_COUNTERS_GET` (R569): Reads and clears the ring counters. Opcode 0x0D04. -/
  | ringCountersGet (r : Req)
  /-- `RELAY_PIECE_SEND` (R686): The relay source sends PIECE messages at UPD_RELAY_RATE. -/
  | relayPieceSend
  /-- `RELAY_PIECE_RX` (R686): A target stores a relayed piece that passes R683. Operands: the frame, whether this module is a target of the relay, time. -/
  | relayPieceRx (f : RFrame) (target : Bool) (t : Nat)
  /-- `RELAY_NEED_RX` (R686): The source records the pieces a target still needs. Operands: the frame. -/
  | relayNeedRx (f : RFrame)
  /-- `RELAY_DONE_RX` (R686): The source records a target as done. Operands: the frame. -/
  | relayDoneRx (f : RFrame)
  /-- `RELAY_ROUND_END` (R686): 200 ms after a round the source starts the next round or ends the relay. -/
  | relayRoundEnd
  /-- `CAN_FRAME_RX` (R588): A received CAN frame is filtered and stored in a mailbox or the HPB. Operands: controller; identifier with IDE, FDF and BRS; ESI, RTR, data; times of the SOF edge and of the end. -/
  | canFrameRx (n word : Nat) (esi rtr : Bool) (data : List Byte) (sof t : Nat)
  /-- `CAN_FRAME_ACKED` (R592): A transmitted frame is acknowledged and the next pending frame offered. Operands: controller, times of the SOF edge and of the end. -/
  | canFrameAcked (n sof t : Nat)
  /-- `CAN_BUS_ERROR` (R579): A bus error changes the error counters and may change controller state. Operands: controller, error counters after it, kind, in the data phase, time. -/
  | canBusError (n tec recv err : Nat) (inData : Bool) (t : Nat)
  /-- `CAN_BUSOFF_DELAY_END` (R579): CAN_BUSOFF_DELAY elapses and recovery monitoring starts. Operands: controller, time. -/
  | canBusoffDelayEnd (n t : Nat)
  /-- `CAN_BUSOFF_RECOVERED` (R579): 128 sequences of 11 recessive bits return the controller to ERROR_ACTIVE. Operands: controller. -/
  | canBusoffRecovered (n : Nat)
  /-- `CAN_SIGNAL_PERIOD` (R593): A transmit mailbox's PERIOD elapses and its frame is queued. Operands: controller, mailbox, time. -/
  | canSignalPeriod (n mailbox t : Nat)
  /-- `CAN_SIGNAL_TIMEOUT` (R591): A receive signal older than TIMEOUT becomes invalid. Operands: receive signal, time. -/
  | canSignalTimeout (sig t : Nat)
  /-- `CAN_LOCK_TIMEOUT` (R589): A mailbox lock held 10 ms is released. Operands: controller, mailbox (64 the HPB), time. -/
  | canLockTimeout (n box t : Nat)
  /-- `CAN_RATE_TRY_END` (R582): A rate detection try of 500 ms ends and the next code or end follows. Operands: controller, time. -/
  | canRateTryEnd (n t : Nat)
  /-- `CAN_TIME_SYNC_SEND` (R599): A master sends SYNC at each 100 ms multiple of plant time. Operands: controller, time. -/
  | canTimeSyncSend (n t : Nat)
  /-- `CAN_TIME_FOLLOW_SEND` (R599): After the SYNC is acknowledged the master sends FOLLOW. Operands: controller, time. -/
  | canTimeFollowSend (n t : Nat)
  /-- `CAN_TIME_HOLDOVER` (R600): No used pair for 10 s puts a slave in HOLDOVER. Operands: controller, time. -/
  | canTimeHoldover (n t : Nat)
  /-- `CAN_SEND_TIMEOUT` (R604): A CAN_SEND frame unacknowledged in 100 ms is withdrawn. Operands: the waiting command, time. -/
  | canSendTimeout (ctx tag t : Nat)
  /-- `CAN_MB_WORD0_READ` (R589): Reading word 0 of a mailbox or the HPB locks it. Operands: controller, mailbox (64 the HPB), time. -/
  | canMbWord0Read (n box t : Nat)
  /-- `CAN_MB_WORD19_READ` (R589): Reading word 19 consumes the frame and unlocks the mailbox. Operands: controller, mailbox (64 the HPB), time. -/
  | canMbWord19Read (n box t : Nat)
  /-- `CAN_STATUS_GET` (R603): Returns controller registers. Opcode 0x0B00. -/
  | canStatusGet (r : Req)
  /-- `CAN_MAP_LOAD` (R587): Writes the CAN map setting from bulk pages. Opcode 0x0B01. -/
  | canMapLoad (r : Req)
  /-- `CAN_MAP_GET` (R603): Returns the CAN map in force. Opcode 0x0B02. -/
  | canMapGet (r : Req)
  /-- `CAN_SIGNALS_GET` (R603): Returns signal values. Opcode 0x0B03. -/
  | canSignalsGet (r : Req)
  /-- `CAN_SEND` (R603): Sends one host frame on a controller. Opcode 0x0B04. -/
  | canSend (r : Req)
  /-- `CAN_RATE_DETECT` (R582): Starts bit rate detection on a controller. Opcode 0x0B05. -/
  | canRateDetect (r : Req)
  /-- `CAN_RESTART` (R579): Restarts a controller from BUS_OFF_HELD. Opcode 0x0B06. -/
  | canRestart (r : Req)
  /-- `CAN_COUNTERS_GET` (R603): Reads and clears the CAN counters. Opcode 0x0B07. -/
  | canCountersGet (r : Req)
  /-- `SVC_WRITE_TRANSFER` (R615): An I²C write sets the pointer and writes bytes, WIN_OFFSET taking effect at its highest byte. Operands: bytes after the address; whether a STOP ends the transfer. -/
  | svcWriteTransfer (data : List Byte) (stop : Bool)
  /-- `SVC_READ_TRANSFER` (R617): An I²C read returns map bytes from the pointer, latching multi-byte values. Operands: bytes read; whether a STOP ends the transfer. -/
  | svcReadTransfer (n : Nat) (stop : Bool)
  /-- `SVC_WIN_DATA_READ` (R621): Reading the lowest byte of WIN_DATA reads two registers in one access. Operands: bytes read from 0x88 on. -/
  | svcWinDataRead (n : Nat)
  /-- `SVC_BUS_STUCK` (R619): A line low for 30 ms makes the port release, abandon the transfer and recover. -/
  | svcBusStuck
  /-- `SVC_BUS_RECOVERED` (R619): Both lines high for 50 µs end recovery. -/
  | svcBusRecovered
  /-- `SVC_NOTIFY` (R622): With the bus free the port writes the 3-byte notify as controller. Operands: time; 0 acknowledged, 1 not acknowledged, 2 arbitration lost, 3 lost to its own address. -/
  | svcNotify (t outcome : Nat)
  /-- `SVC_NOTIFY_RETRY` (R624): After SVC_NOTIFY_GAP a failed notify is retried or given up. Operands: as SVC_NOTIFY. -/
  | svcNotifyRetry (t outcome : Nat)
  /-- `BEAM_SNAPSHOT_START` (R635): A beam snapshot starts 10 s after the previous one's first slice. Operands: pick instant of the step. -/
  | beamSnapshotStart (t : Nat)
  /-- `FREEZE_CAPTURE_END` (R640): The capture ends CLO_POST after the trigger. -/
  | freezeCaptureEnd
  /-- `FREEZE_SLOT_WRITTEN` (R643): A captured span is written to a slot and its valid mark written. -/
  | freezeSlotWritten
  /-- `REPLAY_PASS_END` (R647): A replay pass ends and the next sets are loaded. Operands: last pick replayed; divergence pick, set and cell (0xFFFF unknown); steps per second; the final cell output records of the pass's cells. -/
  | replayPassEnd (last : Nat) (div : Option (Nat × Nat × Nat)) (rate : Nat) (outs : List (Nat × List Byte))
  /-- `REPLAY_END` (R649): A replay ends with its result. Operands: result of R649. -/
  | replayEnd (result : Nat)
  /-- `CLO_STATUS_GET` (R661): Returns cloth record status. Opcode 0x0700. -/
  | cloStatusGet (r : Req)
  /-- `CLO_FREEZE` (R639): Triggers a freeze by command. Opcode 0x0701. -/
  | cloFreeze (r : Req)
  /-- `CLO_SLOTS_GET` (R661): Returns the frozen slot headers. Opcode 0x0702. -/
  | cloSlotsGet (r : Req)
  /-- `CLO_SLOT_EXPORT` (R661): Exports a frozen slot through the bulk window. Opcode 0x0703. -/
  | cloSlotExport (r : Req)
  /-- `CLO_SLOT_RELEASE` (R642): Clears KEEP on a slot. Opcode 0x0704. -/
  | cloSlotRelease (r : Req)
  /-- `CLO_SLOT_ERASE` (R665): Erases a slot. Opcode 0x0705. -/
  | cloSlotErase (r : Req)
  /-- `REP_START` (R646): Starts an in-module replay on pool tiles. Opcode 0x0710. -/
  | repStart (r : Req)
  /-- `REP_STATUS_GET` (R663): Returns replay status. Opcode 0x0711. -/
  | repStatusGet (r : Req)
  /-- `REP_ABORT` (R649): Aborts the running replay. Opcode 0x0712. -/
  | repAbort (r : Req)
  /-- `REP_CELLS_GET` (R661): Returns cell outputs from the last replay. Opcode 0x0713. -/
  | repCellsGet (r : Req)
  /-- `BOLT_SECOND` (R652): Each operating second adds counts to the histograms. -/
  | boltSecond
  /-- `BOLT_FLUSH_DUE` (R656): A periodic or prompt QUICK or FULL flush falls due. Operands: FULL or QUICK; periodic, or prompted by a stamp. -/
  | boltFlushDue (full periodic : Bool)
  /-- `BOLT_FLUSH_WRITTEN` (R657): A flush's valid mark is written. -/
  | boltFlushWritten
  /-- `BOLT_STAMP_HOLD_END` (R655): 60 s after a LAST update a held stamp is applied. Operands: the code. -/
  | boltStampHoldEnd (code : Nat)
  /-- `BOLT_FLUSH_DEFER_END` (R656): A flush deferred for load starts after at most 10 min. -/
  | boltFlushDeferEnd
  /-- `BLT_READ` (R664): Returns a bolt section. Opcode 0x0720. -/
  | bltRead (r : Req)
  /-- `BLT_EXPORT` (R661): Exports the bolt through the bulk window. Opcode 0x0721. -/
  | bltExport (r : Req)
  /-- `BLT_FLUSH_NOW` (R656): Requests a QUICK or FULL flush. Opcode 0x0722. -/
  | bltFlushNow (r : Req)
  /-- `BLT_CELL_RESET` (R659): Zeroes H2 and H3 of a range of cells. Opcode 0x0723. -/
  | bltCellReset (r : Req)
  /-- `UPD_STATUS_GET` (R696): Returns update status. Opcode 0x0800. -/
  | updStatusGet (r : Req)
  /-- `UPD_BEGIN` (R682): Opens or resumes delivery of an image. Opcode 0x0801. -/
  | updBegin (r : Req)
  /-- `UPD_PIECE` (R683): Checks and stores one image piece. Opcode 0x0802. -/
  | updPiece (r : Req)
  /-- `UPD_MISSING_GET` (R696): Lists missing piece indices. Opcode 0x0803. -/
  | updMissingGet (r : Req)
  /-- `UPD_VERIFY` (R687): Starts verification and copy of a complete staged image. Opcode 0x0804. -/
  | updVerify (r : Req)
  /-- `UPD_VERIFY_COMPLETE` (R687): Verification ends READY or with VERIFY_FAIL. Operands: the slot reads back as written. -/
  | updVerifyComplete (copyOk : Bool)
  /-- `UPD_SCHEDULE` (R688): Sets the activation grid index. Opcode 0x0805. -/
  | updSchedule (r : Req)
  /-- `UPD_ACTIVATE` (R688): Sets activation at the next treadle cycle. Opcode 0x0806. -/
  | updActivate (r : Req)
  /-- `UPD_CANCEL` (R688): Returns SCHEDULED or DEFERRED to READY. Opcode 0x0807. -/
  | updCancel (r : Req)
  /-- `UPD_DISCARD` (R696): Empties staging and withdraws a READY image. Opcode 0x0808. -/
  | updDiscard (r : Req)
  /-- `UPD_RELAY` (R686): Starts relaying pieces to target modules. Opcode 0x0809. -/
  | updRelay (r : Req)
  /-- `UPD_KEY_REVOKE` (R694): Burns the revoke fuse of a key hash slot. Opcode 0x080A. -/
  | updKeyRevoke (r : Req)
  /-- `SUPPLY_LOST` (R705): A supply judged lost switches source or, with both lost, begins hold-up. Operands: J2, else J1. -/
  | supplyLost (j2 : Bool)
  /-- `SUPPLY_RESTORED` (R705): A supply judged present again changes source or ends hold-up. Operands: J2, else J1; J1 is DC. -/
  | supplyRestored (j2 dc : Bool)
  /-- `HOLDUP_EXHAUSTED` (R706): The hold-up store below 36 V resets the module with outputs off. -/
  | holdupExhausted
  /-- `HK_ROUND` (R715): Every 100 ms housekeeping reads sensor and rails and applies thresholds. Operands: diode reading in 0.01 °C before the offset, rail readings, time. -/
  | hkRound (raw : Int) (rails : List Nat) (t : Nat)
  /-- `HK_STATUS_GET` (R725): Returns housekeeping status. Opcode 0x0C00. -/
  | hkStatusGet (r : Req)
  /-- `HK_RAILS_GET` (R725): Returns rail readings. Opcode 0x0C01. -/
  | hkRailsGet (r : Req)
  /-- `CAL_GET` (R725): Returns factory and user calibration. Opcode 0x0C02. -/
  | calGet (r : Req)
  /-- `RESTORE_FACTORY_CAL` (R724): Returns user calibration to defaults as a committed transaction. Opcode 0x0C03. -/
  | restoreFactoryCal (r : Req)
  /-- `HK_COUNTERS_GET` (R725): Reads and clears the housekeeping counters. Opcode 0x0C04. -/
  | hkCountersGet (r : Req)
  /-- `SEAL_CONTACT_CHANGE` (R370): The seal contact on J8 opens or closes, starting or stopping the 20 ms break timer and updating SLV_SWITCH.SEAL_CLOSED. Operands: lane, contact seen closed. -/
  | sealContactChange (lane : Nat) (closed : Bool)
  /-- `FUSE_BURN_COMPLETE` (R356): The burn of a fuse group ends with its valid bit burnt and FUSE_PROGRAM completes DONE, or with a read-back mismatch and the group SPOILED. Operands: the burnt value reads back. -/
  | fuseBurnComplete (ok : Bool)
  /-- `ENUM_REPLY_TIMEOUT` (R125): An IDENT_REQ, ECHO_REQ or CONFIG_READ sent during enumeration gets no reply in time, so the device counts as not answering, and as FOREIGN_DEVICE where it took an ENUM address. Operands: chain, port and address asked. -/
  | enumReplyTimeout (chain port addr : Nat)
deriving DecidableEq, Repr

end Sys2Proof
end

