-- ==== Sys2Proof/Decode.lean ====
section
/-! DEFINITION. Decode.lean: reading a command from a word. The table of the manual's steps gives no row any bits: a request
arrives in a packet (R485), an event on a pin or a timer, so no word spells a command. -/
namespace Sys2Proof

/-- The command that a word spells by the table's bits: none, for no row of the table has any. -/
def decodeTableWord (_nbits _w : Nat) : Option Instr := none

end Sys2Proof
end

