-- ==== Sys2Proof/Config.lean ====
section
/-! DEFINITION. Config.lean: the values the manual leaves open, as constants with no body (nothing in Lean can evaluate
them or prove a value of them), and the named algorithms whose arithmetic the manual does not give. -/
namespace Sys2Proof.Config

/-- HMAC-SHA-256 of a key and a message, 32 bytes (R491, R493). -/
opaque hmac : (key msg : Bytes) → Bytes

/-- A fresh 16-byte module nonce; the index is the state's counter of free values (R491). -/
opaque nonce : Nat → BitVec 128

/-- Opening of an AES-256-GCM envelope under the module's DEVICE_KEY: nonce, additional data, ciphertext, tag; none
where the tag fails (R376, R675). -/
opaque deviceOpen : (nonce aad ct tag : Bytes) → Option Bytes

/-- Opening of an AES-256-GCM envelope under a given key; none where the tag fails (R674). -/
opaque gcmOpen : (key nonce aad ct tag : Bytes) → Option Bytes

/-- SHA-384, 48 bytes (R676). -/
opaque sha384 : Bytes → Bytes

/-- Verification of an ECDSA P-384 signature over a SHA-384 digest: public key, digest, signature (R676). -/
opaque ecdsaVerify : (key digest sig : Bytes) → Bool

/-- exp and ln of the tile microcode's own routines (R199). -/
opaque fexp : F32 → F32
opaque fln : F32 → F32

/-- Sine and cosine; how they are computed is not stated (R236, R401). -/
opaque fsin : F32 → F32
opaque fcos : F32 → F32

/-- A value the manual does not state; the index is the state's counter of free values. -/
opaque freeNat : Nat → Nat

/-- A free FP32 value. -/
opaque freeF32 : Nat → F32

end Sys2Proof.Config
end

