-- ==== Sys2Proof/Machine/CmdTypes.lean ====
section
/-! DEFINITION. Machine/CmdTypes.lean: the state of the command interface, the settings store, the transaction, the
bulk window and the events (R484 to R533), and what leaves the module. -/
namespace Sys2Proof.Machine

/-- The six device modes (R29). -/
inductive Mode where
  | boot | commission | standby | dispatch | formation | safeHold
deriving DecidableEq, Repr

/-- Privileges in rank order (R488). -/
inductive Priv where
  | none | observe | operate | engineer | safety
deriving DecidableEq, Repr

/-- The status codes (R503). -/
inductive Status where
  | done | accepted | continued | busy | queueFull | badOpcode | badParam | badLength | denied | wrongMode
  | txnConflict | safetyLocked | pageNotOwned | timeout | internal
deriving DecidableEq, Repr

/-- A reply packet as sent (R487): its number in the context (R495), status, MORE and payload. -/
structure Reply where
  tag : Nat
  opcode : Nat
  seq : Nat
  status : Status
  more : Bool
  payload : Bytes
  /-- MAC trailer of an authenticated context (R493) -/
  trailer : Option Bytes := none
deriving DecidableEq, Repr

/-- A completed command kept for repeats (R494). -/
structure DoneCmd where
  seq : Nat
  tag : Nat
  opcode : Nat
  replies : List Reply
deriving DecidableEq, Repr

/-- A waiting event record (R507, R508). -/
structure EvtRec where
  event : Nat
  count : Nat
  pick : Nat
  time : Nat
deriving DecidableEq, Repr

/-- The half shadow of a context (R510): the high half's offset, its value, and when it was latched. -/
structure Shadow where
  offset : Nat
  value : Nat
  time : Nat
deriving DecidableEq, Repr

/-- An open context at this module (R490 to R510). -/
structure Ctx where
  priv : Priv := .none
  /-- role 0 OBSERVE to 3 SAFETY; none for role 0xFF -/
  role : Option Nat := none
  /-- CTX_AUTH has completed with DONE -/
  authed : Bool := false
  moduleNonce : Bytes := []
  hostNonce : Bytes := []
  sessionKey : Bytes := []
  replyMax : Nat := 1472
  /-- highest request SEQUENCE accepted (R494) -/
  highSeq : Nat := 0
  /-- the last 64 commands completed, newest first (R494) -/
  done : List DoneCmd := []
  /-- reply packets numbered so far (R495) -/
  replySeq : Nat := 0
  /-- event packets numbered so far (R495) -/
  evtSeq : Nat := 0
  /-- consecutive drops under R493 -/
  macFails : Nat := 0
  /-- subscription mask, 512 bits (R506) -/
  subs : Nat := 0
  waiting : List EvtRec := []
  shadow : Option Shadow := none
  /-- pages given to the context, in the order given (R525) -/
  given : List Nat := []
  /-- clock at the last request (R496) -/
  lastReq : Nat := 0
deriving DecidableEq, Repr

/-- A command accepted and not yet completed (R498). -/
structure Outst where
  /-- the model's own number of the acceptance -/
  id : Nat
  ctx : Nat
  tag : Nat
  opcode : Nat
  seq : Nat
  urgent : Bool
  payload : Bytes
  /-- data read from the bulk window at acceptance, or other data held for the effect -/
  data : Bytes := []
  /-- window pages the command holds (R524) -/
  pages : List Nat := []
  /-- accepted effect that CMD_ABORT cannot stop (R502, result 4) -/
  fixed : Bool := false
  /-- its context has not closed since (R497) -/
  live : Bool := true
  replies : List Reply := []
deriving DecidableEq, Repr

/-- Output being delivered through the bulk window (R526). -/
structure BulkOut where
  /-- the outstanding command it completes -/
  id : Nat
  ctx : Nat
  status : Status
  data : Bytes
  offset : Nat := 0
  /-- waiting for pages: CONTINUE with PAGES_NEEDED has been sent -/
  needed : Bool := false
  /-- the frozen slot it reads (R642) -/
  slot : Option Nat := none
deriving DecidableEq, Repr

/-- The open transaction (R515). -/
structure Txn where
  owner : Nat
  /-- committed alone: a transaction of one write (R513) -/
  single : Bool := false
  gen0 : Nat
  /-- scalar settings written to the shadow -/
  writes : Tab (Option Nat) := []
  /-- bulk settings written to the shadow -/
  bulk : Tab (Option Bytes) := []
  /-- the outstanding command whose commit is accepted (R516) -/
  committing : Option Nat := none
  /-- clock of the owner's last settings write, load or transaction command (R519) -/
  last : Nat := 0
deriving DecidableEq, Repr

/-- A flash copy of the settings store (R514). -/
structure SetCopy where
  valid : Bool := false
  format : Nat := 3
  gen : Nat := 0
  scalars : Tab (Option Nat) := []
  bulk : Tab (Option Bytes) := []
deriving DecidableEq, Repr

/-- The settings store (R511 to R521). A setting with no entry is at its default. -/
structure Settings where
  scalars : Tab (Option Nat) := []
  bulk : Tab (Option Bytes) := []
  /-- generation in force (R514) -/
  gen : Nat := 1
  format : Nat := 3
  copyA : SetCopy := {}
  copyB : SetCopy := {}
  /-- the generation in force is not yet in flash (R521) -/
  unsaved : Bool := false
  /-- BOOT loaded an older generation than the newest power-loss record names (R521) -/
  reverted : Bool := false
  txn : Option Txn := none
deriving DecidableEq, Repr

/-- The owner of a page of the bulk window (R522, R525): HOST, held by one command, or given to one context. -/
inductive PageOwner where
  | host
  | command (id : Nat)
  | given (ctx : Nat)
deriving DecidableEq, Repr

/-- The bulk window (R522): its size in force, page owners, and its bytes (page × 65,536 + offset; a byte nothing
has written since BOOT is zero). -/
structure Bulk where
  pages : Nat := 256
  owner : Tab PageOwner := []
  mem : List Host.Cell := []
deriving DecidableEq, Repr

/-- Contexts, outstanding commands and counters of the command interpreter. -/
structure Cmd where
  ctxs : Tab (Option Ctx) := []
  outst : List Outst := []
  nextId : Nat := 0
  bulkOut : List BulkOut := []
  /-- command load of the last second and its largest value, 0.1 % (R531) -/
  loadLast : Nat := 0
  loadMax : Nat := 0
deriving DecidableEq, Repr

/-- Events (R506, R532): raised-since-read mask, the newest event, and the once-per-cycle events already raised in
this treadle cycle. The counters EVT_CNTe are in the counter table. -/
structure Evt where
  raised : Nat := 0
  last : Nat := 0
  once : List Nat := []
deriving DecidableEq, Repr

/-- An accepted mode transition not yet in effect (R38, R45): its target, and the command that asked, or none for a
local reset on SI7. -/
structure PendMode where
  target : Mode
  /-- the outstanding command; none for the local reset -/
  cmd : Option Nat
  ctx : Nat
  /-- asked by SAFEHOLD_RESET or the local reset, not by MODE_REQUEST -/
  reset : Bool
  /-- asked by the local reset, alone or with SAFEHOLD_RESET (R381) -/
  local_ : Bool := false
deriving DecidableEq, Repr

/-- Modes and identity (R29 to R48). -/
structure Sys where
  mode : Mode := .boot
  prev : Mode := .boot
  pending : Option PendMode := none
  /-- SYS_MODE_CAUSE.CAUSE (R46) -/
  cause : Nat := 0
  causeCtx : Option Nat := none
  /-- pick index at entry into the current mode (R44) -/
  entryPick : Nat := 0
  /-- conditions seen since the last pick boundary (R30) -/
  tripSeen : Bool := false
  lanesSeen : Bool := false
  dieSeen : Bool := false
  sealSeen : Bool := false
  /-- module oscillator time, units of 0.25 ns (R59, R62) -/
  clock : Nat := 0
  /-- a draft program is stored (R295); kept here for the power policy -/
  draftLoaded : Bool := false
  draftStopped : Bool := true
  /-- serial number (R529) -/
  serial : Nat := 0
  /-- release of the running firmware (R529): 1.3 -/
  release : Nat := 0x00010003
deriving DecidableEq, Repr

/-- What leaves the module, in order: the model's own record of its outputs. -/
inductive Out where
  /-- a reply to a context (R487) -/
  | reply (ctx : Nat) (r : Reply)
  /-- an event packet (R508) -/
  | events (ctx seq : Nat) (recs : List EvtRec) (trailer : Option Bytes)
  /-- a warp frame body on chain `chain`, from Wn-A (port 0) or Wn-B (port 1) (R113) -/
  | warp (chain port : Nat) (body : Bytes)
  /-- the control symbol MARK, sent immediately before a TRIGGER frame (R111) -/
  | mark (chain port : Nat)
  /-- a ring frame from RA (0) or RB (1) (R538) -/
  | ring (port : Nat) (f : RFrame)
  /-- a CAN frame on controller `n`: identifier word, data (R584) -/
  | can (n id : Nat) (data : Bytes)
  /-- what the head sends from the host port (R550, R556): a UDP datagram to an address and port, from a port -/
  | udp (ip port from_ : Nat) (data : Bytes)
  /-- an ARP reply from the host port: to an address, or gratuitous; the address and the MAC address it gives (R556) -/
  | arp (dest : Option Nat) (ip mac : Nat)
  /-- an ICMP echo reply -/
  | icmp (ip : Nat) (data : Bytes)
  /-- bytes returned to, or written on, the two-wire bus (R617, R622) -/
  | svc (data : Bytes)
  /-- the error a master receives for an access to a bank (R283, R293) -/
  | bankError (bank : Nat)
deriving DecidableEq, Repr

end Sys2Proof.Machine
end

