-- ==== Sys2Proof/Machine/AngTypes.lean ====
section
/-! DEFINITION. Machine/AngTypes.lean: the state of the angle unit, the treadle scheduler and the pick engine
(R55 to R107). Angles carry a 32-bit fraction below the AU: 2^48 units make a cycle. Times are in 0.25 ns. -/
namespace Sys2Proof.Machine

/-- States of the angle unit (R101). -/
inductive AngState where
  | acquiring | locked | extrapolating | slewing | holdover
deriving DecidableEq, Repr

/-- What the angle unit keeps of one watched source, tooth or mains sense (R62 to R70). -/
structure Tracker where
  /-- frequency estimate as a cycle time; none before the first one (R62) -/
  cycle : Option Nat := none
  /-- predicted cycle time, corrected for the last measured rate of change -/
  pred : Nat := 0
  /-- rate of change of frequency, mHz/s -/
  rocof : Int := 0
  /-- time of the latest update of the estimate -/
  upd : Nat := 0
  /-- time of the last accepted or confirmed tooth, and of the edge before the latest -/
  last : Option Nat := none
  prev : Option Nat := none
  /-- teeth since the last accepted or reference index, or wrap -/
  count : Nat := 0
  /-- time of the tooth edge of the last accepted or reference index or wrap -/
  index : Option Nat := none
  /-- the reference index has been taken (R65) -/
  ref : Bool := false
  /-- the cycle holds a synthesised tooth, an extrapolated stretch or an index mismatch -/
  dirty : Bool := false
  /-- consecutive index mismatches -/
  missRun : Nat := 0
  /-- start of the first measurement and edges since (R62) -/
  meas : Option Nat := none
  measCount : Nat := 0
  valid : Bool := false
  /-- accepted teeth in a row, and clean cycles in a row (R69) -/
  goodTeeth : Nat := 0
  goodCycles : Nat := 0
  /-- updates in a row whose estimate lies out of range (R70) -/
  outRun : Nat := 0
  /-- angle of tooth 0 (R61, R66) -/
  base : Nat := 0
  /-- the latest RMS voltage reached MAINS_MIN_RMS (R68) -/
  rmsOk : Bool := false
  /-- index edges that wait for the tooth edge after them, oldest first (R65) -/
  idxWait : List Nat := []
  /-- the crossing being judged is the rising one (R67) -/
  rising : Bool := false
deriving DecidableEq, Repr

/-- An ANGLE_SOURCE_FORCE that waits for its source (R94), with the outstanding command. -/
structure Force where
  source : Nat
  cmd : Nat
deriving DecidableEq, Repr

structure Ang where
  state : AngState := .acquiring
  /-- active source: 0 none, 1 tooth, 2 mains sense, 3 free-run (R57) -/
  active : Nat := 0
  tooth : Tracker := {}
  mains : Tracker := {}
  /-- tracked and treadle angle at time `at_` -/
  tracked : Nat := 0
  treadle : Nat := 0
  at_ : Nat := 0
  /-- cycle time of the frequency estimate, by which the tracked angle runs (R61); 0 before any -/
  cycle : Nat := 0
  /-- frequency estimate, mHz -/
  freq : Nat := 0
  rocof : Int := 0
  /-- the treadle angle is held (R76) -/
  held : Bool := false
  /-- difference still to be closed by a slew (R74) -/
  slew : Nat := 0
  gridIndex : Nat := 0
  gridLocal : Bool := false
  lossCause : Nat := 0
  corr : Int := 0
  corrKind : Nat := 0
  /-- the source a force holds (R94) -/
  force : Option Nat := none
  /-- the force that waits -/
  waitForce : Option Force := none
  /-- treadle cycle starts in a row at which S_P was valid (R73): one more than the whole cycles it has stayed valid -/
  revert : Nat := 0
  /-- pairs adopted at least once (R82) -/
  adopted : Bool := false
  /-- time at which the present treadle cycle began -/
  cycleStart : Nat := 0
  /-- a forward jump has passed angle 0, and the cycle it begins has not been counted (R77) -/
  passedZero : Bool := false
  /-- the present cycle began by a forward jump: what falls at its angle 0 fires LATE (R77) -/
  startLate : Bool := false
deriving DecidableEq, Repr

/-- A pick placed by its first trigger frame (R87). -/
structure Placed where
  instant : Nat
  slot : Nat
  late : Bool
  /-- passed by a forward jump (R77) -/
  jumped : Bool
  held : Bool
  /-- slot 0 of a new schedule (R90) -/
  fresh : Bool := false
deriving DecidableEq, Repr

structure Pck where
  running : Bool := false
  index : Nat := 0
  flags : Nat := 0
  slot : Nat := 0
  position : Nat := 0
  angle : Nat := 0
  /-- plant time of the latest pick, 0 if not acquired -/
  time : Nat := 0
  generation : Nat := 0
  spacing : Nat := 0
  /-- clock of the latest pick instant -/
  instant : Nat := 0
  /-- clock of the pick instant before it -/
  prevInstant : Nat := 0
  nextSlot : Nat := 0
  /-- slots passed by a forward jump, not yet fired (R77) -/
  late : List Nat := []
  /-- the next pick carries HELD (R76) -/
  heldNext : Bool := false
  placed : Option Placed := none
  /-- DCI raw codes of the latest pick (R88) -/
  dci : List Nat := []
  /-- the latest pick has been released to its consumers (R136) -/
  released : Bool := false
  /-- the latest pick was passed by a forward jump: what fires with it is LATE (R77) -/
  jumped : Bool := false
  /-- the latest pick is slot 0 of the new schedule that a commit waits to bring into force (R90) -/
  fresh : Bool := false
deriving DecidableEq, Repr

end Sys2Proof.Machine
end

