-- ==== Sys2Proof/Machine/CanTypes.lean ====
section
/-! DEFINITION. Machine/CanTypes.lean: the state of the CAN controllers (R577 to R612). -/
namespace Sys2Proof.Machine

/-- Controller states (R579, R607). -/
inductive CanState where
  | off | errorActive | errorPassive | busOff | busOffHeld | listen | detecting
deriving DecidableEq, Repr

/-- A frame as stored (R611): word 0 holds the identifier with IDE, FDF and BRS; FILTER that matched; STAMP. -/
structure BoxFrame where
  word0 : Nat
  esi : Bool := false
  rtr : Bool := false
  overrun : Bool := false
  filter : Nat := 0
  stamp : Nat := 0
  data : Bytes := []
deriving DecidableEq, Repr

/-- A receive mailbox or the HPB (R588, R589). -/
structure Box where
  frame : Option BoxFrame := none
  new : Bool := false
  locked : Bool := false
  /-- clock at which it was locked -/
  lockAt : Nat := 0
  pend : Option BoxFrame := none
  /-- OVERRUN goes into the next frame stored -/
  ovr : Bool := false
deriving DecidableEq, Repr

/-- What a queued frame is. -/
inductive TxKind where
  | stop
  | ref (channel : Nat)
  | signal (mailbox : Nat)
  | sync
  | follow
  /-- a CAN_SEND frame and its outstanding command -/
  | host (cmd : Nat)
deriving DecidableEq, Repr

/-- A queued frame: identifier with IDE in bit 29, FDF in bit 30 and BRS in bit 31, and clock of the queueing. -/
structure Tx where
  kind : TxKind
  word0 : Nat
  data : Bytes
  at_ : Nat
deriving DecidableEq, Repr

/-- A rate detection that runs (R582). -/
structure Detect where
  /-- the command that waits -/
  cmd : Nat
  /-- the state before DETECTING -/
  before : CanState
  start : Nat
  /-- code being tried, at the data rate once the nominal rate is found -/
  code : Nat := 3
  dataPhase : Bool := false
  /-- frames received without error in a row -/
  good : Nat := 0
deriving DecidableEq, Repr

structure Can where
  state : CanState := .off
  tec : Nat := 0
  rec_ : Nat := 0
  lastErr : Nat := 0
  lastInData : Bool := false
  /-- clocks of the latest bus-offs (R579) -/
  offs : List Nat := []
  /-- clock at which CAN_BUSOFF_DELAY started; it has elapsed -/
  delayAt : Nat := 0
  monitor : Bool := false
  hpb : Box := {}
  boxes : Tab Box := []
  queue : List Tx := []
  detect : Option Detect := none
  /-- CANn_RATE_DET: codes found -/
  nom : Option Nat := none
  dataRate : Option Nat := none
  /-- time (R597 to R600): state, LAST_SEQ -/
  timeState : Nat := 0
  lastSeq : Nat := 0
  /-- master: plant time at the SOF edge of the acknowledged SYNC that has no FOLLOW yet -/
  syncAt : Option Nat := none
  /-- slave: SEQ, SOURCE_LOCKED and SOF clock of the last SYNC received -/
  sync : Option (Nat × Bool × Nat) := none
  pairs : Nat := 0
  /-- clock of the last used pair -/
  pairAt : Nat := 0
  offset : Int := 0
deriving DecidableEq, Repr

/-- A receive signal (R591): value, clock of its last update, validity; how often it has been updated. -/
structure RxSig where
  value : F32 := 0
  at_ : Nat := 0
  valid : Bool := false
  count : Nat := 0
deriving DecidableEq, Repr

structure Cans where
  c0 : Can := {}
  c1 : Can := {}
  rx : Tab RxSig := []
  /-- transmit signals as written -/
  tx : Tab (Option F32) := []
deriving DecidableEq, Repr

end Sys2Proof.Machine
end

