-- ==== Sys2Proof/Machine/CloTypes.lean ====
section
/-! DEFINITION. Machine/CloTypes.lean: the state of the cloth record, freezes, replay and the bolt recorder
(R628 to R670). -/
namespace Sys2Proof.Machine

/-- One entry of the cloth record (R629). -/
structure CloEntry where
  type : Nat
  flags : Nat := 0
  pick : Nat
  body : Bytes
  /-- clock of the latest pick instant at which it was appended; of a SNAP_HEAD, of its first slice -/
  at_ : Nat := 0
deriving DecidableEq, Repr

/-- A freeze trigger with what was merged into it (R639 to R641, R644). -/
structure Freeze where
  /-- cause of the first trigger: 1 trip, 2 command, 3 draft -/
  cause : Nat
  mask : Nat
  triggers : Nat := 1
  pick : Nat
  time : Nat
  opSeconds : Nat
  cycles : Nat
  preShort : Bool := false
  postShort : Bool := false
  /-- first pick of the span -/
  first : Nat := 0
  /-- clock of the trigger -/
  at_ : Nat := 0
  /-- CLO_PRE and CLO_POST at the trigger, s (R660), and whether a trip under CLO_TRIP_KEEP is in it (R642) -/
  pre : Nat := 10
  post : Nat := 5
  keep : Bool := false
  /-- the buffer is full: nothing more is taken (R640) -/
  full : Bool := false
  /-- last pick of the span, once captured -/
  last : Nat := 0
  seq : Nat := 0
  /-- entries of the span, newest first -/
  entries : List CloEntry := []
  /-- CLO_FREEZE commands that wait for the capture -/
  waiters : List Nat := []
deriving DecidableEq, Repr

/-- A frozen slot in flash (R642, R644): 0 EMPTY, 1 WRITING, 2 VALID. -/
structure Slot where
  state : Nat := 0
  keep : Bool := false
  freeze : Option Freeze := none
  /-- release of the recording module -/
  release : Nat := 0
deriving DecidableEq, Repr

/-- A beam snapshot being taken (R635): the sets still to come and whether one had no tile (R638). -/
structure Snap where
  first : Nat
  sets : List Nat
  incomplete : Bool := false
deriving DecidableEq, Repr

/-- The cloth record writer and the frozen slots. -/
structure Clo where
  /-- entries held, newest first -/
  ring : List CloEntry := []
  running : Bool := false
  headPick : Nat := 0
  tailPick : Nat := 0
  snapPick : Nat := 0
  snapIncomplete : Bool := false
  snap : Option Snap := none
  /-- clock of the newest snapshot's first slice (R635) -/
  snapAt : Option Nat := none
  appendLast : Nat := 0
  appendMax : Nat := 0
  /-- picks of the entries that found the queue full, first and last (R634) -/
  gap : Option (Nat × Nat) := none
  /-- capture running -/
  capture : Option Freeze := none
  /-- span in the buffer, being written or HELD -/
  buffer : Option Freeze := none
  /-- slot being written -/
  target : Option Nat := none
  queued : Option Freeze := none
  /-- freezes written since manufacture (flash) -/
  seq : Nat := 0
  slots : Tab Slot := []
  /-- CLO_SLOT_ERASE commands that wait for the write window: command and slot (R716) -/
  erasing : List (Nat × Nat) := []
deriving DecidableEq, Repr

/-- In-module replay (R646 to R650, R663). -/
structure Rep where
  /-- 0 IDLE, 1 LOADING, 2 RUNNING, 3 ENDED -/
  state : Nat := 0
  result : Nat := 0
  /-- tiles in use -/
  tiles : List Nat := []
  pass : Nat := 0
  passes : Nat := 0
  stringsChecked : Bool := false
  cellKnown : Bool := false
  stopAtFirst : Bool := false
  source : Nat := 0xFF
  /-- sets requested, by first group -/
  sets : List Nat := []
  start : Nat := 0
  finish : Nat := 0
  progress : Nat := 0
  divPick : Nat := 0
  divSet : Nat := 0xFFFF
  divCell : Nat := 0xFFFF
  rate : Nat := 0
  /-- a replay has ended since BOOT -/
  ended : Bool := false
  /-- output records of the last replay's cells, 32 bytes each (R647) -/
  outputs : Tab (Option Bytes) := []
  /-- REP_ABORT commands that wait for the end -/
  aborters : List Nat := []
  /-- pool tiles the replay powered -/
  used : Nat := 0
deriving DecidableEq, Repr

/-- A stamp: operating seconds and power-cycle count (R651). -/
structure Stamp where
  secs : Nat := 0
  cycles : Nat := 0
deriving DecidableEq, Repr

/-- A bolt counter (R654, R655). -/
structure BoltCode where
  count : Nat := 0
  first : Stamp := {}
  last : Stamp := {}
  /-- less than 60 s since LAST was updated -/
  closed : Bool := false
  /-- the latest held occurrence -/
  held : Option Stamp := none
deriving DecidableEq, Repr

/-- An extreme record (R653). -/
structure Extreme where
  value : Int
  stamp : Stamp
  string : Nat := 0xFF
  cell : Nat := 0xFFFF
  serial : Nat := 0
deriving DecidableEq, Repr

/-- The sections of the bolt (R656). -/
structure BoltData where
  stamp : Stamp := {}
  codes : Tab BoltCode := []
  extremes : Tab (Option Extreme) := []
  /-- histogram counts; the index of bin b of scope x of histogram h is (h × 8,192 + x) × 32 + b -/
  hist : Tab Nat := []
deriving DecidableEq, Repr

/-- A valid flush in the flash log (R657). -/
structure BoltFlush where
  full : Bool
  seq : Nat
  data : BoltData
deriving DecidableEq, Repr

/-- The power-loss record (R658). -/
structure PowerLoss where
  stamp : Stamp
  gen : Nat
  unsaved : Bool
deriving DecidableEq, Repr

/-- The bolt recorder. -/
structure Blt where
  data : BoltData := {}
  /-- newest valid flushes in flash, of each kind -/
  newestQuick : Option BoltFlush := none
  newestFull : Option BoltFlush := none
  /-- a flush being written: FULL or QUICK, with what it writes -/
  flush : Option BoltFlush := none
  deferred : Bool := false
  /-- a further flush requested: FULL or QUICK -/
  pending : Option Bool := none
  /-- a prompt QUICK flush is due within 1 s (R656) -/
  prompt : Bool := false
  /-- the log ends in a flush without its valid mark -/
  torn : Bool := false
  power : Option PowerLoss := none
  /-- BLT_FLUSH_NOW commands that wait for the flush being written, and for the further one -/
  waiters : List Nat := []
  waitersNext : List Nat := []
  /-- a second has passed whose pick is not released yet: its histogram counts come with the release (R652) -/
  histDue : Bool := false
deriving DecidableEq, Repr

end Sys2Proof.Machine
end

