-- ==== Sys2Proof/Machine/ComTypes.lean ====
section
/-! DEFINITION. Machine/ComTypes.lean: fuses, safety parameter blocks, role keys, switches and seal (R354 to R388). -/
namespace Sys2Proof.Machine

/-- A role key (R375): the key bytes while present; the version is kept after the key is retired. -/
structure RoleKey where
  key : Option Bytes := none
  version : Nat := 0
deriving DecidableEq, Repr

/-- State of a fuse group (R355, R388). -/
inductive FuseState where
  | blank | programmed | spoiled
deriving DecidableEq, Repr

structure Fuse where
  state : FuseState := .blank
  value : Bytes := []
deriving DecidableEq, Repr

/-- The armed block (R364, R383): its 512 bytes, its profile, and the pick at which it was armed. -/
structure Armed where
  block : Bytes
  profile : Nat := 0
  pick : Nat := 0
deriving DecidableEq, Repr

/-- A flash copy of the armed block, with its sequence number (R372). -/
structure BlockCopy where
  ok : Bool := true
  seq : Nat := 0
  armed : Option Armed := none
deriving DecidableEq, Repr

/-- A flash copy of the profile set (R368, R372). -/
structure ProfCopy where
  ok : Bool := true
  seq : Nat := 0
  set : List Bytes := []
deriving DecidableEq, Repr

/-- An arming that runs (R364): its command, block and profile. -/
structure Arming where
  cmd : Nat
  block : Bytes
  profile : Nat
deriving DecidableEq, Repr

/-- A fuse burn that runs (R356, R694): its command, group and value; group 8 + n is the revoke fuse of key hash slot n. -/
structure Burn where
  cmd : Nat
  group : Nat
  value : Bytes
deriving DecidableEq, Repr

structure Com where
  keys : Tab RoleKey := []
  fuses : Tab Fuse := []
  /-- revoke fuses burnt, by key hash slot (R694) -/
  revoked : Nat := 0
  /-- the FUSE_EN contact of J9 is asserted -/
  fuseEn : Bool := false
  staged : Option Bytes := none
  /-- the block in force; `held` is armed but not present (R371) -/
  armed : Option Armed := none
  held : Option Armed := none
  profiles : Option (List Bytes) := none
  copyA : BlockCopy := {}
  copyB : BlockCopy := {}
  profA : ProfCopy := {}
  profB : ProfCopy := {}
  /-- a seal break is recorded (flash, R370) -/
  sealBroken : Bool := false
  /-- SW1 to SW8 as read by lanes A and B, and whether each sees the seal contact closed -/
  swA : Nat := 0
  swB : Nat := 0
  sealA : Bool := false
  sealB : Bool := false
  /-- the contact is open and the 20 ms run (R370) -/
  sealTimer : Bool := false
  arming : Option Arming := none
  /-- SAFETY_DISARM that waits for its pick boundary -/
  disarming : Option Nat := none
  burn : Option Burn := none
deriving DecidableEq, Repr

end Sys2Proof.Machine
end

