-- ==== Sys2Proof/Machine/DrfTypes.lean ====
section
/-! DEFINITION. Machine/DrfTypes.lean: the state of the draft engine (R449 to R483). -/
namespace Sys2Proof.Machine

/-- Engine states (R454). -/
inductive DrfState where
  | stop | run | hold | step
deriving DecidableEq, Repr

/-- Task states (R482); UNUSED is any task the image does not have. -/
inductive TaskState where
  | idle | ready | executing | waiting
deriving DecidableEq, Repr

/-- The input image of a task (R469, R471): CYCLE_TIME, CYCLE_DT, pick index of the cycle start, and the values latched, in
the order of R471's table. -/
structure InImage where
  time : Nat
  dt : Nat
  pick : Nat
  values : List Nat
deriving DecidableEq, Repr

structure Task where
  state : TaskState := .idle
  late : Bool := false
  event : Nat := 0
  timed : Bool := false
  /-- clock at which a timed wait elapses -/
  until_ : Nat := 0
  overRun : Nat := 0
  last : Nat := 0
  max : Nat := 0
  /-- largest execution since the start of the engine -/
  maxStart : Nat := 0
  cycles : Nat := 0
  /-- the pick and clock of its cycle start; its image is latched -/
  pick : Nat := 0
  startAt : Nat := 0
  latched : Bool := false
  image : Option InImage := none
  /-- CYCLE_TIME of its previous cycle -/
  prevTime : Option Nat := none
  /-- TRUE from the last WAIT that returned: the latch or a SEND; FALSE: the timeout -/
  waitOk : Bool := false
  /-- records returned by its last CELL_READ -/
  read : Bytes := []
deriving DecidableEq, Repr

/-- A flash copy of the RETAIN area (R457). -/
structure Retain where
  progId : Nat
  crc : Nat
  seq : Nat
  data : Bytes
deriving DecidableEq, Repr

structure Drf where
  state : DrfState := .stop
  stopCause : Nat := 0
  holdCause : Nat := 0
  /-- the stored image (flash) -/
  image : Option Bytes := none
  /-- data area of the running program -/
  data : Bytes := []
  copyA : Option Retain := none
  copyB : Option Retain := none
  /-- a save waits for the write window -/
  saveDue : Bool := false
  retainValid : Bool := true
  tasks : Tab Task := []
  /-- latches of the task events -/
  latches : Nat := 0
  stopTask : Option Nat := none
  trap : Nat := 0
  trapOffset : Nat := 0
  deadlock : Nat := 0
  /-- largest busy share over a whole second, 0.1 % -/
  measMax : Nat := 0
  /-- draft time in 0.25 ns at a clock instant, and its rate correction in ppb (R468) -/
  time : Nat := 0
  timeAt : Nat := 0
  adj : Int := 0
  adjLimit : Bool := false
  /-- clock at which event 328 was last raised -/
  limitAt : Option Nat := none
  /-- exchange variables, and how often each has been written (R473) -/
  vars : Tab F32 := []
  writes : Tab Nat := []
  /-- last committed values of the declared outputs, by position in OUTPUT_DECL -/
  outs : Tab F32 := []
  /-- the stepped task, with the waiting command -/
  stepTask : Option (Nat × Nat) := none
  stepStarted : Bool := false
  /-- the latest pick at which cycles started, and the highest task whose start has fired at it (R78) -/
  started : Option (Nat × Nat) := none
  /-- the RETAIN data prepared before is of this session (R456) -/
  session : Bool := false
deriving DecidableEq, Repr

end Sys2Proof.Machine
end

