-- ==== Sys2Proof/Machine/EstTypes.lean ====
section
/-! DEFINITION. Machine/EstTypes.lean: the state of the weft estimator and of the learned data (R172 to R260). Voltages are
in V, currents in A, temperatures in °C as FP32 inside a cell; accumulated times are in 0.25 ns. -/
namespace Sys2Proof.Machine

/-- A hypothesis block (R207): nine states in the order of R174, and the 45 terms of the upper triangle. -/
structure Hyp where
  x : List F32 := []
  p : List F32 := []
deriving DecidableEq, Repr

/-- The record of a configured cell (R206) and what the step keeps beside it. -/
structure Cell where
  /-- it has been initialised (R200); else it waits for its cold start -/
  init : Bool := false
  /-- cell flags (R209) -/
  flags : Nat := 0
  steps : Nat := 0
  lastPick : Nat := 0
  prob : List F32 := []
  hyps : List Hyp := []
  imp : List F32 := []
  q : F32 := 0
  /-- i_cell of the last step; it has been stepped, started or not (R176) -/
  iPrev : F32 := 0
  ran : Bool := false
  nis : F32 := 0
  /-- condition timers SHORT_WATCH, MICRO_SHORT, RES_HIGH, FADE, s -/
  timers : List F32 := [0, 0, 0, 0]
  /-- time below 0.001 per hypothesis -/
  reseed : List Nat := [0, 0, 0, 0]
  /-- SOC, plating margin in mV, charge limit, discharge limit -/
  out : List F32 := [0, 0, 0, 0]
  clamps : Nat := 0
  reinits : Nat := 0
  /-- accumulated time without a voltage update (R186) -/
  noV : Nat := 0
  /-- VALID at one step since ESTIMATOR_NOT_READY was last set (R202) -/
  seen : Bool := false
  /-- LEARN work area (R227) -/
  vPre : F32 := 0
  dv : List F32 := [0, 0, 0, 0, 0, 0]
  dftRe : F32 := 0
  dftIm : F32 := 0
  capAh : F32 := 0
  capZ : Nat := 0
  /-- lowest and highest valid NTC reading of the run; none before the first -/
  capTmin : Option Int := none
  capTmax : Option Int := none
  stepBin : Nat := 0xFF
  capExcl : Bool := false
  ripAge : Nat := 0
  /-- true elapsed times of the check times reached, s (R228) -/
  dvT : List F32 := []
  /-- it still contributes to the span (R229) -/
  contrib : Bool := false
  /-- it balanced at k0; slope of OCV and capacity at k0 (R229, R232) -/
  bal0 : Bool := false
  slope0 : F32 := 0
  q0 : F32 := 0
  /-- accepted Rser of the span and the weight of its fit (R232, R233) -/
  fit : Option (F32 × F32) := none
  /-- primary reading, GUARD_SHORT and SKEW_WIDE of the last step, for R228, R229 and R239 -/
  vLast : Option F32 := none
  guardLast : Bool := false
  skewLast : Bool := false
  balLast : Bool := false
deriving DecidableEq, Repr

/-- One NTC input (R185): the value last reported, none if invalid, and the time without a valid reading. -/
structure Ntc where
  last : Option Int := none
  noT : Nat := 0
deriving DecidableEq, Repr

/-- A load-step span of a string (R225, R226). -/
structure Span where
  /-- clock of k0 -/
  t0 : Nat
  iPre : F32
  iPost : F32
  /-- sampling mode and window length at k0 (R231) -/
  window : Bool
  w : F32
  /-- clock of the pick at which it ended -/
  ended : Option Nat := none
  /-- estimator steps since it ended (R232) -/
  steps : Nat := 0
deriving DecidableEq, Repr

/-- String currents of one window (R176, R225): of valid picks, their sum in A, the others in mA. -/
structure Win where
  n : Nat := 0
  sum : F32 := 0
  first : Int := 0
  lo : Int := 0
  hi : Int := 0
  /-- clock of its first pick -/
  at_ : Nat := 0
  /-- a pick had no valid current -/
  bad : Bool := false
  picks : Nat := 0
deriving DecidableEq, Repr

/-- What the estimator keeps per string. -/
structure Str where
  /-- published limits (R196), A -/
  limChg : F32 := 0
  limDis : F32 := 0
  /-- published limits in mA, and the aggregate record of the latest step (R210) -/
  chgmA : Int := 0
  dismA : Int := 0
  agg : Bytes := []
  /-- string current lost (R187): steps of the loss, hold ended, last valid current in A -/
  lost : Bool := false
  lostRun : Nat := 0
  lostEnded : Bool := false
  lastI : F32 := 0
  /-- string current of the latest pick, and of the pick before it, mA -/
  cur : Option Int := none
  prev : Option Int := none
  /-- picks since the chain's first returned pick (R200) -/
  picks : Nat := 0
  /-- clock and current of the latest picks, newest first (R225) -/
  hist : List (Nat × Option Int) := []
  span : Option Span := none
  /-- running, closed and earlier windows -/
  win : Win := {}
  closed : Win := {}
  before : Win := {}
  /-- string current of the previous step, A (R225) -/
  prevStep : Option F32 := none
  ixRe : F32 := 0
  ixIm : F32 := 0
  /-- capacity run (R239): 0 IDLE, 1 ARMED, 2 RUNNING -/
  cap : Nat := 0
  capEnd : Nat := 0
  capStart : Nat := 0
  capStop : Nat := 0
  capCells : Nat := 0
  capOk : Nat := 0
  capStrAh : F32 := 0
  rest : Nat := 0
  /-- pick at which the charge current fell below Q_RATED / 20 since the last step -/
  fell : Option Nat := none
  /-- accepted capacities that wait for rest (R242): cell and mAh -/
  pendQ : List (Nat × Nat) := []
  stampS : Nat := 0
  stampC : Nat := 0
deriving DecidableEq, Repr

/-- An output buffer (R211, R282, R286): what one completed step left for its readers. -/
structure OutBuf where
  /-- pick index of the step -/
  pick : Option Nat := none
  cells : Tab (Option Cell) := []
  /-- cells that were stepped -/
  lived : List Nat := []
  /-- string aggregate records, by string; empty where none is written -/
  aggs : Tab Bytes := []
  reinits : Nat := 0
  clamps : Nat := 0
deriving DecidableEq, Repr

structure Est where
  cells : Tab (Option Cell) := []
  /-- NTC inputs, by 8 × (32 × string + monitor − 1) + input -/
  ntc : Tab Ntc := []
  strs : Tab Str := []
  /-- picks of the running and of the closed window at which a cell balanced, by cell (R175) -/
  bal : Tab Nat := []
  balClosed : Tab Nat := []
  /-- ESTIMATOR_NOT_READY (R202) -/
  notReady : Bool := true
  /-- pick index and instant of the latest completed step -/
  stepPick : Option Nat := none
  stepAt : Option Nat := none
  /-- output buffers of even and of odd picks (R282); that of the parity of `stepPick` is complete -/
  even : OutBuf := {}
  odd : OutBuf := {}
  reinits : Nat := 0
  clamps : Nat := 0
  /-- grading records of the last COMPLETE runs (R243) -/
  grade : Tab (Option Bytes) := []
  fitsOk : Nat := 0
  fitsBad : Nat := 0
  /-- frames of the latest pick that a bank error made missing for the estimator and the cloth record (R283) -/
  badFrames : List Nat := []
  /-- strings whose limits restart from 0 at the next step (R196) -/
  restart : List Nat := []
deriving DecidableEq, Repr

/-- Learned data of a cell: the working copy (R218, R246). -/
structure Learn where
  /-- mAh; 0 none -/
  q : Nat := 0
  stampS : Nat := 0
  stampC : Nat := 0
  tauS : Nat := 0xFFFF
  imp : Tab Nat := []
  binN : Tab Nat := []
  suspect : Bool := false
  run : Nat := 0
deriving DecidableEq, Repr

/-- A flash record of a cell (R246): the learned data and the swept counters. -/
structure LRec where
  epoch : Nat := 0
  data : Learn := {}
  ahChg : Nat := 0
  ahDis : Nat := 0
  efc : Nat := 0
deriving DecidableEq, Repr

/-- The two alternate flash slots of a cell (R246): none where the record's CRC is wrong. -/
structure LSlots where
  a : Option LRec := none
  b : Option LRec := none
deriving DecidableEq, Repr

/-- The record BOOT loads (R246): the higher EPOCH of those whose CRC is correct. -/
def LSlots.newest (s : LSlots) : Option LRec :=
  match s.a, s.b with
  | some x, some y => if x.epoch < y.epoch then some y else some x
  | some x, none => some x
  | none, y => y

/-- Throughput accumulators of a cell in DRAM (R244): µAh charged, discharged, and for the cycle count; RESET_COUNTERS is
due at the next sweep (R253). -/
structure Acc where
  chg : Nat := 0
  dis : Nat := 0
  cyc : Nat := 0
  reset : Bool := false
deriving DecidableEq, Repr

/-- One entry of a sweep's vector with its snapshot (R247, R248). -/
structure SwEntry where
  cell : Nat
  reset : Bool
  dChg : Nat
  dDis : Nat
  dEfc : Nat
  snap : Learn
deriving DecidableEq, Repr

structure Sweep where
  epoch : Nat
  secs : Nat
  cycles : Nat
  entries : List SwEntry
  /-- its header: 0 unwritten, 1 being written since `at_`, 2 written (R251) -/
  header : Nat := 2
  at_ : Nat := 0
  /-- found without its valid mark at BOOT: its snapshots are lost (R249) -/
  recovered : Bool := false
deriving DecidableEq, Repr

structure Lrn where
  work : Tab Learn := []
  acc : Tab Acc := []
  /-- the records in flash (R246) -/
  recs : Tab LSlots := []
  /-- the frozen sweep whose mark is not written -/
  sweep : Option Sweep := none
  /-- 0 idle, 1 running, 2 paused, 3 deferred -/
  state : Nat := 0
  /-- last epoch written, and the last valid mark with its operating seconds (flash) -/
  epoch : Nat := 0
  mark : Nat := 0
  markSecs : Nat := 0
  /-- a sweep is requested and not yet frozen (R250); clock of the last freeze, and of a deferral's begin (R251) -/
  again : Bool := false
  frozenAt : Nat := 0
  deferAt : Nat := 0
  /-- LEARN_SWEEP_NOW commands served by the running sweep, and by the next, with their times -/
  waiters : List (Nat × Nat) := []
  waitersNext : List (Nat × Nat) := []
deriving DecidableEq, Repr

end Sys2Proof.Machine
end

