-- ==== Sys2Proof/Machine/RngTypes.lean ====
section
/-! DEFINITION. Machine/RngTypes.lean: the state of the shuttle ring and the head (R534 to R575). -/
namespace Sys2Proof.Machine

/-- States of a ring port (R573). -/
inductive PortState where
  | disabled | down | up | wrapped | miswired
deriving DecidableEq, Repr

structure RPort where
  state : PortState := .disabled
  /-- block lock and no high bit error rate (R537) -/
  pcs : Bool := false
  /-- consecutive HELLO frames received, up to 16 -/
  hellos : Nat := 0
  peerAddr : Nat := 0
  peerKnown : Bool := false
  peerPort : Nat := 0
  /-- transmit load over the last 100 ms, 0.1 % -/
  load : Nat := 0
  /-- link delay in ns and the clock of its update (R537) -/
  delay : Option Nat := none
  delayAt : Nat := 0
  /-- the link has been up since BOOT -/
  everUp : Bool := false
  /-- clock at which the link came up (R544) -/
  upAt : Nat := 0
  /-- bulk credit granted by the peer, bytes, and the bulk frames that wait for it (R548) -/
  credit : Nat := 0
  bulkQ : List RFrame := []
deriving DecidableEq, Repr

/-- What the module keeps of another module's ANNOUNCE (R539). -/
structure Ann where
  /-- ring address, or 0xFE -/
  addr : Nat
  role : Nat
  stateA : Nat
  stateB : Nat
  /-- its RNG_HEAD -/
  head : Nat
  hostUp : Bool
  /-- hops its latest ANNOUNCE passed, and whether it arrived wrapped (R541, R542) -/
  hops : Nat
  wrapped : Bool
deriving DecidableEq, Repr

/-- States of a candidate (R575); LOCAL is a view of local mode. -/
inductive HeadState where
  | member | candidate | claiming | head | holdoff
deriving DecidableEq, Repr

/-- States of the arbiter (R575). -/
inductive ArbState where
  | notArbiter | held | guard_ | probe | window | granting | noHead | fault
deriving DecidableEq, Repr

/-- A claim collected in a window (R560). -/
structure Claim where
  serial : Nat
  addr : Nat
  capable : Bool
  plantFused : Bool
  side : Nat
  plant : Nat
deriving DecidableEq, Repr

/-- A request that the head has forwarded and whose final reply has not passed back (R550). -/
structure Fwd where
  dst : Nat
  ctx : Nat
  tag : Nat
  opcode : Nat
  ip : Nat
  port : Nat
deriving DecidableEq, Repr

/-- A context bound to a host endpoint at the head (R489), and the modules that hold it open. -/
structure Binding where
  ip : Nat
  port : Nat
  open_ : List Nat := []
deriving DecidableEq, Repr

/-- A RING_ADDR_ASSIGN that waits (R549, R571). -/
structure Assign where
  cmd : Nat
  serial : Nat
  addr : Nat
  at_ : Nat
deriving DecidableEq, Repr

structure Rng where
  /-- ring address in force: 0 to 63, or 255 unassigned -/
  addr : Nat := 255
  /-- role in force (R558) -/
  role : Nat := 0
  /-- plant time in ns at a clock instant; none until acquired (R554) -/
  plant : Option (Nat × Nat) := none
  /-- plant time still to be slewed out from that instant on, ns (R554) -/
  slew : Int := 0
  timeFrames : Nat := 0
  timeHoldover : Bool := false
  timeOffset : Int := 0
  portA : RPort := {}
  portB : RPort := {}
  /-- the announced modules, by serial number -/
  ann : Tab (Option Ann) := []
  /-- serial numbers of modules that left the table and have not come back -/
  missing : List Nat := []
  /-- this module has announced itself -/
  announced : Bool := false
  dup : Bool := false
  /-- optics of cages H, RA and RB as read: 0 none, 1 SR, 2 LR, 3 1000BASE-X, 4 another type, 5 not readable -/
  cageH : Nat := 0
  cageA : Nat := 0
  cageB : Nat := 0
  /-- cage H has link -/
  hostUp : Bool := false
  local_ : Bool := false
  epoch : Nat := 0
  headAddr : Option Nat := none
  /-- highest HEAD_EPOCH seen on the ring -/
  epochSeen : Nat := 0
  msgId : Nat := 0
  /-- messages being received in fragments, by sender's serial number × 256 + TYPE: fragments so far, their bytes -/
  parts : Tab (Option (Nat × Bytes)) := []
  /-- direction in use to a destination, and the frames held after a change of it (R543) -/
  dirs : Tab Nat := []
  holds : Tab (Option (List RFrame)) := []
  /-- candidate and head -/
  head : HeadState := .member
  side : Nat := 0
  grantIn : Nat := 0
  holdOut : Bool := false
  /-- another module is known to assert HEAD_HOLD -/
  holdLine : Bool := false
  latch : Bool := false
  arbiterSeen : Bool := false
  lastRefuse : Nat := 0
  releasing : Bool := false
  arpLeft : Nat := 0
  /-- arbiter -/
  arb : ArbState := .notArbiter
  drive : Nat := 0
  granted : Option Nat := none
  arbFault : Nat := 0
  /-- epoch stored in flash, and the round's epoch -/
  arbEpoch : Nat := 0
  claims : List Claim := []
  /-- head's tables -/
  fwd : List Fwd := []
  bind : Tab (Option Binding) := []
  assign : List Assign := []
  /-- ARP entries: address, MAC address, clock -/
  arp : List (Nat × Nat × Nat) := []
  /-- start of the ICMP second and echoes answered in it (R556) -/
  icmpAt : Nat := 0
  icmpCount : Nat := 0
deriving DecidableEq, Repr

end Sys2Proof.Machine
end

