-- ==== Sys2Proof/Machine/SlvTypes.lean ====
section
/-! DEFINITION. Machine/SlvTypes.lean: the state of the selvedge: lanes, voters, safety outputs and inputs (R311 to R353). -/
namespace Sys2Proof.Machine

/-- State of a lane (R345). -/
inductive LaneState where
  | notLoaded | healthy | failed
deriving DecidableEq, Repr

/-- A lane (R311, R316, R318, R326). -/
structure Lane where
  state : LaneState := .notLoaded
  cause : Nat := 0
  /-- functions it votes trip on (R346) -/
  votes : Nat := 0
  /-- consecutive evaluations at which a condition held, by function × 65,536 + item -/
  counts : Tab Nat := []
  /-- trip latch (R323) -/
  latch : Bool := false
  /-- it missed the 200 µs deadline at the latest pick, and at how many in a row -/
  late : Bool := false
  lateRun : Nat := 0
  latePick : Option Nat := none
  /-- pick whose evaluation it completed last -/
  evalPick : Option Nat := none
  /-- it alone declares another lane failed -/
  dispute : Bool := false
  /-- lanes it declares failed, each with the cause it finds -/
  decl : List (Nat × Nat) := []
  /-- instant of the last pick at which a value was present, by kind × 65,536 + item; a value never present is listed
  at the first pick at which it is configured -/
  pres : Tab (Option Nat) := []
  /-- values missing for half their blind time, and for all of it -/
  half : List Nat := []
  blind : List Nat := []
  /-- latest valid value of each NTC input -/
  ntc : Tab (Option Int) := []
deriving DecidableEq, Repr

/-- A safety output (R328, R331, R352). -/
structure Out1 where
  /-- stuck faults held, bit c for code c of R331, and the one shown -/
  stuck : Nat := 0
  shown : Nat := 0
  ovr : Bool := false
  openLoad : Bool := false
  /-- the later of OVERLOAD and OPEN_LOAD, by code -/
  soft : Nat := 0
  /-- the next pulse test turns off the low side -/
  lowNext : Bool := false
deriving DecidableEq, Repr

/-- A pulse test that runs (R332): output, side, and whether its switch is back on. -/
structure Pulse where
  so : Nat
  low : Bool
  back : Bool := false
deriving DecidableEq, Repr

/-- A safety input (R335, R336). -/
structure Sin where
  a : Bool := false
  b : Bool := false
  discrep : Bool := false
  /-- the active combination has been shown since the discrepancy was found -/
  activeSeen : Bool := false
  /-- clock at which the channels came into neither combination -/
  mixed : Option Nat := none
deriving DecidableEq, Repr

structure Slv where
  laneA : Lane := {}
  laneB : Lane := {}
  laneC : Lane := {}
  /-- 0 NONE, 1 TWO_OF_THREE, 2 ONE_OF_TWO -/
  voting : Nat := 0
  /-- a voted trip exists, as last read at the voters -/
  tripOn : Bool := false
  /-- one lane votes trip alone -/
  lone : Bool := false
  tripFunc : Nat := 0
  tripString : Nat := 0
  tripLanes : Nat := 0
  tripValid : Bool := false
  tripAll : Nat := 0
  tripCell : Nat := 0xFFFF
  tripSi : Option Nat := none
  tripPick : Nat := 0
  /-- degraded timer, s; its saved value in flash while it counts; event 132 raised -/
  degraded : Nat := 0
  degSaved : Option Nat := none
  degWarned : Bool := false
  evalLast : Nat := 0
  evalMax : Nat := 0
  /-- DCI calibration as the lanes hold it: factory gain and user scale of each input, ppm (R366) -/
  gains : List Nat := []
  scales : List Nat := []
  /-- outputs conducting; requests and blocks of the host and of the draft program, bit x for SOx -/
  on : Nat := 0
  reqHost : Nat := 0
  reqDraft : Nat := 0
  blockHost : Nat := 0
  blockDraft : Nat := 0
  outs : Tab Out1 := []
  pulse : Option Pulse := none
  ptSo : Nat := 0
  ptLow : Bool := false
  ptResult : Nat := 0
  sins : Tab Sin := []
  /-- clock at which SI7 became active -/
  si7At : Option Nat := none
deriving DecidableEq, Repr

end Sys2Proof.Machine
end

