-- ==== Sys2Proof/Machine/SvcTypes.lean ====
section
/-! DEFINITION. Machine/SvcTypes.lean: the state of the service port (R613 to R627). -/
namespace Sys2Proof.Machine

/-- Port states (R627). -/
inductive SvcState where
  | idle | target | controller | recovering
deriving DecidableEq, Repr

structure Svc where
  /-- ADDR pins sampled at the release of power-on reset (R614) -/
  addr : Nat := 0
  state : SvcState := .idle
  pointer : Nat := 0
  /-- latched values of the transfer: the pointer of each lowest byte, and its bytes (R617) -/
  latches : List (Nat × Bytes) := []
  /-- bytes of WIN_OFFSET held until its highest byte is written (R617) -/
  held : Tab (Option Byte) := []
  winOffset : Nat := 0
  winStatus : Nat := 0
  cause : Nat := 0
  seq : Nat := 0
  pending : Bool := false
  failed : Bool := false
  /-- attempts made for the pending notify (R624) -/
  attempts : Nat := 0
  /-- clock of the latest successful notify (R624) -/
  sentAt : Option Nat := none
deriving DecidableEq, Repr

end Sys2Proof.Machine
end

