-- ==== Sys2Proof/Machine/Tab.lean ====
section
/-! DEFINITION. Machine/Tab.lean: sparse tables (`Tab`). Every numbered set of the manual (monitors, cells, loops,
counters, settings, pages) is held as one: a read of an unlisted index gives the table's default, and a write keeps
the canonical form, so that equal contents are equal data. -/
namespace Sys2Proof.Machine

/-- What index `i` holds; `d` where the table lists nothing. -/
def tabGet {α : Type} (d : α) : Tab α → Nat → α
  | [], _ => d
  | (k, v) :: t, i => if k = i then v else tabGet d t i

/-- The table without index `i`. -/
def tabErase {α : Type} (t : Tab α) (i : Nat) : Tab α := t.filter fun p => p.1 ≠ i

/-- Insert into a table that does not list `i`. -/
def tabInsert {α : Type} (i : Nat) (v : α) : Tab α → Tab α
  | [] => [(i, v)]
  | (k, w) :: t => if i < k then (i, v) :: (k, w) :: t else (k, w) :: tabInsert i v t

/-- Write `v` at `i`; the default is stored by listing nothing. -/
def tabPut {α : Type} [DecidableEq α] (d : α) (t : Tab α) (i : Nat) (v : α) : Tab α :=
  if v = d then tabErase t i else tabInsert i v (tabErase t i)

/-- Change what index `i` holds. -/
def tabUpd {α : Type} [DecidableEq α] (d : α) (t : Tab α) (i : Nat) (f : α → α) : Tab α :=
  tabPut d t i (f (tabGet d t i))

/-- The indices strictly rise. -/
def tabSorted {α : Type} : Tab α → Bool
  | [] => true
  | [_] => true
  | (k, _) :: (l, w) :: t => decide (k < l) && tabSorted ((l, w) :: t)

/-- The canonical form: indices strictly rising, no entry equal to the default. -/
def tabWf {α : Type} [DecidableEq α] (d : α) (t : Tab α) : Bool :=
  tabSorted t && t.all fun p => decide (p.2 ≠ d)

end Sys2Proof.Machine
end

