-- ==== Sys2Proof/Machine/TmpTypes.lean ====
section
/-! DEFINITION. Machine/TmpTypes.lean: the state of the temple engine: loops, dispatch and formation sequencers (R391 to
R448). FP32 values are in the units of the loop's role (R393). -/
namespace Sys2Proof.Machine

/-- States of a loop (R417). -/
inductive LoopState where
  | disabled | idle | run | fbHold | fbFallback | stopping
deriving DecidableEq, Repr

structure Loop where
  state : LoopState := .disabled
  /-- a start under R407 is due at its next tick; it is due in the tick in progress, with u0 -/
  due : Bool := false
  startNow : Option F32 := none
  /-- u0 given for the start (R428) -/
  u0 : Option F32 := none
  /-- requested set-point, ramp state, set-point used, feedback before and after the notches -/
  req : F32 := 0
  rr : F32 := 0
  r : F32 := 0
  raw : F32 := 0
  y : F32 := 0
  p : F32 := 0
  i : F32 := 0
  d : F32 := 0
  lo : F32 := 0
  hi : F32 := 0
  /-- output computed and not yet applied; output computed last; output applied -/
  next : Option F32 := none
  computed : F32 := 0
  applied : F32 := 0
  /-- the bound or charge bound it has written and that lasts (R400) -/
  wrote : Option F32 := none
  /-- host set-point (R436) -/
  host : F32 := 0
  /-- instant at which the dwell started, and the side rr came from (R403) -/
  dwell : Option Nat := none
  side : Int := 0
  ramping : Bool := false
  clamped : Bool := false
  satHi : Bool := false
  satLo : Bool := false
  lateClamp : Bool := false
  stale : Bool := false
  age : Nat := 0
  /-- feedback lost, or frozen with the value it froze at (R415, R416); fresh ticks in a row -/
  lost : Bool := false
  frozen : Option F32 := none
  freshRun : Nat := 0
  /-- fresh values and unsaturated outputs of the latest ticks, newest first (R416) -/
  hist : List (F32 × F32) := []
  /-- production number of the feedback value taken last (R415) -/
  seen : Nat := 0
  /-- notch states, and whether they are set afresh at the next value (R401) -/
  notch : List F32 := [0, 0, 0, 0]
  settle : Bool := true
  /-- pick index and instant of the latest tick, and the instant of the tick before it -/
  tickPick : Nat := 0
  tickAt : Nat := 0
  prevAt : Nat := 0
  /-- instant of entry into FB_HOLD; clock at which STOPPING began -/
  holdAt : Nat := 0
  stopAt : Nat := 0
deriving DecidableEq, Repr

/-- The sequencer of a string (R429). -/
structure Seq where
  /-- 0 IDLE, 1 RUNNING, 2 PAUSED, 3 DONE, 4 ABORTED -/
  state : Nat := 0
  step : Nat := 0
  cause : Nat := 0
  lastEnd : Nat := 0
  /-- pass counts of the GOTO steps (R424) -/
  passes : Tab Nat := []
  /-- PULSE: repetitions remaining, on phase, instant at which the phase began -/
  pulses : Nat := 0
  on : Bool := false
  phaseAt : Nat := 0
  startPick : Nat := 0
  startAt : Nat := 0
  /-- instant at which step time stands still -/
  stoppedAt : Option Nat := none
  /-- step charge and charge since FORM_START, mA × 0.25 ns -/
  ah : Int := 0
  ahAll : Int := 0
deriving DecidableEq, Repr

/-- What the temple engine takes of a string at the latest released pick. -/
structure TStr where
  cur : Option Int := none
  volt : Option Nat := none
  /-- highest and lowest valid primary reading, µV, at the latest pick with cell data -/
  hi : Option Int := none
  lo : Option Int := none
  /-- of the latest allocation: part in it, its full limit -/
  inAlloc : Bool := false
  full : Bool := false
  alloc : Int := 0
  /-- reference last sent, mA -/
  ref : Int := 0
deriving DecidableEq, Repr

structure Tmp where
  loops : Tab Loop := []
  seqs : Tab Seq := []
  strs : Tab TStr := []
  /-- P_set in force, W -/
  pSet : Int := 0
  /-- power allocated and shortfall, W; none before the first allocation (R19) -/
  pAlloc : Option Int := none
  short : Option Int := none
  /-- pick of the latest allocation -/
  allocPick : Nat := 0
  /-- the latest tick applied R406 -/
  stale : Bool := false
  tickLast : Nat := 0
  tickMax : Nat := 0
  /-- COUNTER of the channel's previous frame (R432) -/
  counters : Tab Nat := []
  /-- TMP_EVT_CAUSEg -/
  causes : Tab Nat := []
  /-- picks whose ticks have been applied, and whose outputs have been computed, last -/
  appliedPick : Option Nat := none
  computedPick : Option Nat := none
deriving DecidableEq, Repr

end Sys2Proof.Machine
end

