-- ==== Sys2Proof/Machine/UpdTypes.lean ====
section
/-! DEFINITION. Machine/UpdTypes.lean: the state of boot, firmware update, supply, housekeeping and calibration
(R671 to R728). -/
namespace Sys2Proof.Machine

/-- An image as delivered (R672): header, key record and encrypted pieces. -/
structure Image where
  /-- the 1,024-byte header (R673) -/
  header : Bytes
  /-- the 80-byte key record (R675) -/
  keyRec : Bytes
  /-- ciphertext and tag of each stored piece -/
  pieces : Tab (Option Bytes) := []
  /-- written at the factory: authentic as delivered, its content not given by the manual -/
  factory : Bool := false
deriving DecidableEq, Repr

/-- Update states (R681). -/
inductive UpdState where
  | idle | receiving | verifying | ready | scheduled | deferred | activating
deriving DecidableEq, Repr

/-- A relay that runs from this module (R686). -/
structure Relay where
  imageId : Nat
  round : Nat
  /-- targets still in the relay, and those that answered DONE -/
  targets : List Nat
  doneBy : List Nat := []
  /-- targets that answered in this round -/
  answered : List Nat := []
  /-- indices still to send in this round -/
  queue : List Nat
  /-- indices needed in the next round -/
  need : List Nat := []
  cmd : Nat
deriving DecidableEq, Repr

/-- A relay heard from another module (R686): source, image, clock of its latest PIECE, and whether this module is a
target that still owes its answer for the round. -/
structure Heard where
  src : Nat
  imageId : Nat
  at_ : Nat
  owes : Bool
deriving DecidableEq, Repr

/-- The image a module leaves the factory with: release 1.3, settings format 3, key slot 0. -/
def factoryImage : Image :=
  { header := [0x53, 0x43, 0x49, 0x4D, 1, 0, 3, 0, 3, 0, 1, 0], keyRec := [], factory := true }

structure Upd where
  state : UpdState := .idle
  /-- boot record (R672): the active slot is B; TRIAL; TRIED -/
  activeB : Bool := false
  trial : Bool := false
  tried : Bool := false
  slotA : Option Image := some factoryImage
  slotB : Option Image := none
  staging : Option Image := none
  downgrade : Bool := false
  deferCause : Nat := 0
  verifyFail : Nat := 0
  /-- activation instant, grid index; 0 none (R688) -/
  schedG : Nat := 0
  /-- grid index of the cycle at whose start a deferral of cause 1 is carried out (R690) -/
  autoG : Option Nat := none
  /-- key slot of the running image -/
  runKey : Nat := 0
  bootMs : Nat := 0
  source : Nat := 0
  settingsReset : Bool := false
  /-- no authentic image was found: the module stays in BOOT (R678) -/
  dead : Bool := false
  relay : Option Relay := none
  relayLeft : Nat := 0
  heard : Option Heard := none
  /-- UPD_VERIFY that waits -/
  verifier : Option Nat := none
deriving DecidableEq, Repr

/-- Supply, housekeeping and calibration (R705, R715 to R727). Temperatures are in 0.1 °C. -/
structure Hk where
  windowOpen : Bool := false
  shedZone : Bool := false
  critical : Bool := false
  sensorFault : Bool := false
  factoryBad : Bool := false
  holdup : Bool := false
  /-- HK_DIE_TEMP.LAST; none before the first round -/
  dieLast : Option Int := none
  /-- HK_DIE_TEMP.MAX since the last read -/
  dieMax : Option Int := none
  /-- MAX has been read, and no round has come since (R16) -/
  maxRead : Bool := false
  /-- rounds in a row within −18.0 to +98.0 °C while the window is closed (R716) -/
  inWindow : Nat := 0
  /-- rounds in a row with a reading R717 does not accept, and the previous reading -/
  badRun : Nat := 0
  prevRaw : Option Int := none
  /-- J1 and J2 present (R705); J1 is a DC supply -/
  j1 : Bool := true
  j1dc : Bool := false
  j2 : Bool := true
  rails : List Nat := []
  railFault : Nat := 0
  /-- factory page (R721): DCI gains in ppm (nominal where not listed), mains gain and delay, diode offset -/
  dciGain : Tab Nat := []
  mainsGain : Nat := 1000000
  mainsDelay : Nat := 0
  diodeOffset : Int := 0
  factoryId : Nat := 0
deriving DecidableEq, Repr

end Sys2Proof.Machine
end

