-- ==== Sys2Proof/Machine/WftTypes.lean ====
section
/-! DEFINITION. Machine/WftTypes.lean: the state of the weft array, the banks and the power domains (R261 to R310). -/
namespace Sys2Proof.Machine

/-- States of a tile (R261). -/
inductive TileState where
  | off | starting | idle | live | spare | replay | fault | shed
deriving DecidableEq, Repr

structure Tile where
  state : TileState := .off
  cause : Nat := 0
  /-- groups assigned, ascending (R264) -/
  groups : List Nat := []
  /-- measured cycles of the latest step -/
  cycles : Nat := 0
  /-- the role it takes once started: spare, or pool -/
  toSpare : Bool := false
deriving DecidableEq, Repr

/-- A takeover that runs (R275): faulted tile, replacement, and whether the replacement is ready. -/
structure Takeover where
  faulted : Nat
  repl : Nat
  groups : List Nat
  ready : Bool
  /-- pick of the step in which the fault was declared (R274) -/
  pick : Nat
deriving DecidableEq, Repr

/-- Ownership of a bank or an exchange bank's two ports (R289, R291, R306); 0x3F where there is no port B. -/
structure Bank where
  owner : Nat
  ownerB : Nat
  /-- new owners while DRAINING, of port A and port B -/
  dest : Option Nat := none
  toB : Option Nat := none
  /-- what REQ and REQ_B read where it is not the owner (R290) -/
  req : Option Nat := none
  reqB : Option Nat := none
  refused : Bool := false
deriving DecidableEq, Repr

/-- A power domain (R309): state 0 OFF, 1 ON, 2 RETENTION; the state it changes to; REQ; REFUSE. -/
structure Dom where
  state : Nat := 0
  dest : Option Nat := none
  req : Nat := 0
  refuse : Nat := 0
deriving DecidableEq, Repr

/-- The pick data of X0 or X1 (R285): the stamp, DCIs, masks, and the slots of head and monitor frames, by chain, and by
32 × chain + monitor − 1. -/
structure PickBank where
  stamp : Bytes := []
  dci : List Nat := []
  masks : List Nat := []
  heads : Tab Bytes := []
  mons : Tab Bytes := []
deriving DecidableEq, Repr

structure Wft where
  tiles : Tab Tile := []
  lead : Nat := 0
  shed : Bool := false
  /-- groups left unassigned (R273) -/
  unassigned : List Nat := []
  take : List Takeover := []
  stepLast : Nat := 0
  stepMax : Nat := 0
  /-- by bank 0 to 67; a bank not listed has its owner of R305 -/
  banks : Tab (Option Bank) := []
  /-- exchange banks X0 and X1: pick data of even and of odd picks (R284) -/
  x0 : PickBank := {}
  x1 : PickBank := {}
  lastBank : Nat := 0
  lastPortB : Bool := false
  lastMaster : Nat := 0
  lastCause : Nat := 0
  doms : Tab Dom := []
  /-- the REPLAY domain is kept on from a replay request until 10 s after the last replay ends (R295) -/
  replayKeep : Bool := false
deriving DecidableEq, Repr

end Sys2Proof.Machine
end

