-- ==== Sys2Proof/Machine/WrpTypes.lean ====
section
/-! DEFINITION. Machine/WrpTypes.lean: the state of the warp engine (R108 to R171). -/
namespace Sys2Proof.Machine

/-- Chain states (R129, R168). -/
inductive ChainState where
  | off | training | enumerating | loop | broken | partial_ | fault | down
deriving DecidableEq, Repr

/-- What the module knows of one device of a chain (R121 to R126, R129). -/
structure Dev where
  /-- DEVICE_TYPE of its IDENT_REPLY; none while not found -/
  type : Option Nat := none
  hwRev : Nat := 0
  fw : Nat := 0
  serial : Nat := 0
  /-- it answered IDENT_REQ from Wn-A, from Wn-B -/
  onA : Bool := false
  onB : Bool := false
  /-- echo round trips measured from each port, 0.25 ns -/
  echoA : List Nat := []
  echoB : List Nat := []
  /-- latencies L_A and L_B, 0.25 ns -/
  latA : Option Nat := none
  latB : Option Nat := none
  /-- parameters as read back: PARAM to VALUE -/
  params : Tab Nat := []
  /-- consecutive expected returns missed, and consecutive valid ones -/
  missRun : Nat := 0
  goodRun : Nat := 0
  /-- it answers (R171) -/
  answering : Bool := false
  /-- STATUS of its latest valid frame -/
  status : Nat := 0
  /-- port its latest valid frame arrived on; before one, the port it is assigned to -/
  port : Nat := 0
  /-- TRIG_DELAY_A, TRIG_DELAY_B have been written since the enumeration (R124, R144) -/
  delayA : Bool := false
  delayB : Bool := false
deriving DecidableEq, Repr

structure Chain where
  state : ChainState := .off
  cause : Nat := 0
  lockA : Bool := false
  lockB : Bool := false
  breakAfter : Nat := 0x3F
  split : Nat := 0x3F
  rosterChanged : Bool := false
  healing : Bool := false
  /-- lead, 0.25 ns -/
  lead : Nat := 0
  maxHops : Nat := 0
  returnLast : Nat := 0
  returnMax : Nat := 0
  present : Nat := 0
  skewWide : Nat := 0
  /-- the ENUM sent from Wn-A came back (R124), and the addresses it gave out -/
  closed : Option Bool := none
  count : Nat := 0
  /-- addresses that did not answer IDENT_REQ: port and address -/
  silent : List (Nat × Nat) := []
  devs : Tab Dev := []
  /-- serial numbers by address, in flash; none before the first enumeration (R127) -/
  roster : Option (Tab Nat) := none
  /-- RESTORE_SPLIT goes out in the next TRIGGER (R144) -/
  restore : Bool := false
  /-- a lead that has risen at healing, in force from the boundary of R90 (R144) -/
  leadNext : Option Nat := none
  /-- a break is declared, and takes effect at the next pick boundary (R141) -/
  breakDue : Bool := false
  /-- the return window of the latest pick has closed (R135) -/
  shut : Bool := false
  /-- what WRP_CHn_STATE shows since the latest pick boundary (R129): STATE, FAULT_CAUSE, BREAK_AFTER, SPLIT -/
  shown : ChainState × Nat × Nat × Nat := (.off, 0, 0x3F, 0x3F)
  /-- changes of state not yet shown -/
  changes : Nat := 0
deriving DecidableEq, Repr

/-- A BALANCE sent for a pick to come (R145): CELL_MASK, DURATION, START and source. -/
structure BalCmd where
  mask : Nat
  dur : Nat
  start : Nat
  source : Nat
deriving DecidableEq, Repr

/-- The balance commands of one monitor (R145, R156). -/
structure Bal where
  mask : Nat := 0
  remaining : Nat := 0
  /-- 0 none, 1 host, 2 automatic -/
  source : Nat := 0
  start : Nat := 0
  /-- sent for picks to come, oldest first -/
  next : List BalCmd := []
  /-- DIE_HOT has been seen, and 60 s have not passed since it cleared (R149) -/
  warm : Bool := false
  /-- stopped for DIE_HOT (R149), with what was left -/
  hot : Bool := false
  heldMask : Nat := 0
  heldRemaining : Nat := 0
  heldSource : Nat := 0
  watchdog : Bool := false
deriving DecidableEq, Repr

/-- A BALANCE_SET that waits (R158): targets by chain × 64 + address. -/
structure BalReq where
  cmd : Nat
  start : Nat
  /-- key, mask and duration of each target -/
  targets : List (Nat × Nat × Nat)
  acked : List Nat := []
deriving DecidableEq, Repr

structure Wrp where
  chains : Tab Chain := []
  /-- frames of the pick being gathered as received, by chain × 64 + their ADDR, in order of arrival (R137) -/
  frames : Tab (List WFrame) := []
  /-- MON_WINDOW frames held for the closing pick (R138) -/
  held : Tab (List WFrame) := []
  /-- position of the latest pick in its window; none before the first window start -/
  winPos : Option Nat := none
  /-- the latest pick closes a window -/
  winClose : Bool := false
  /-- position of the placed pick -/
  nextPos : Option Nat := none
  releaseLast : Nat := 0
  releaseMax : Nat := 0
  bal : Tab Bal := []
  balReqs : List BalReq := []
  /-- WARP_REENUMERATE commands that wait: command and chain mask -/
  reenum : List (Nat × Nat) := []
deriving DecidableEq, Repr

end Sys2Proof.Machine
end

