-- ==== Sys2Proof/Machine/State.lean ====
section
/-! DEFINITION. Machine/State.lean: the state of the module and of the block: every block's state as plain data, the
counters, what has left the module, and the queue of waiting commands. The default of every field is its value after
power-on reset; `INVENTORY.md` lists each with its rule. -/
namespace Sys2Proof.Machine

/-- The module: one field per block of R28. -/
structure Module where
  sys : Sys := {}
  cmd : Cmd := {}
  set : Settings := {}
  bulk : Bulk := {}
  evt : Evt := {}
  ang : Ang := {}
  pck : Pck := {}
  wrp : Wrp := {}
  est : Est := {}
  lrn : Lrn := {}
  wft : Wft := {}
  com : Com := {}
  slv : Slv := {}
  tmp : Tmp := {}
  drf : Drf := {}
  can : Cans := {}
  rng : Rng := {}
  clo : Clo := {}
  rep : Rep := {}
  blt : Blt := {}
  svc : Svc := {}
  upd : Upd := {}
  hk : Hk := {}
  /-- the counter registers, by register offset; each saturates at 0xFFFF_FFFF -/
  cnt : Tab Nat := []
  /-- what has left the module, newest first -/
  out : List Out := []
  /-- free values used so far (the model's own) -/
  free : Nat := 0
deriving DecidableEq, Repr

/-- The block: the module and the commands that wait, first in, first out. -/
structure State where
  m : Module
  pending : List Instr
deriving DecidableEq, Repr

/-- Reasons to stop with a fault. -/
inductive Fault where
  /-- never raised: every command of the table has an effect the manual gives (safe) -/
  | none
deriving DecidableEq, Repr

/-- Reasons to refuse a command. -/
inductive Refusal where
  /-- the command has no meaning in the model yet; raised by `exec`'s arms only (safe) -/
  | notModelled (mnemonic : String)
deriving DecidableEq, Repr

/-- The block after power-on reset (R19, R30): the module in BOOT, nothing waiting. -/
def State.reset : State := { m := {}, pending := [] }

end Sys2Proof.Machine
end

