-- ==== Sys2Proof/Machine/On.lean ====
section
/-! DEFINITION. Machine/On.lean: one updater per part of the module; every meaning changes the state through these. -/
namespace Sys2Proof.Machine

/-- Change the `sys` part of the module. -/
def Module.onSys (m : Module) (f : Sys → Sys) : Module := { m with sys := f m.sys }
/-- Change the `cmd` part of the module. -/
def Module.onCmd (m : Module) (f : Cmd → Cmd) : Module := { m with cmd := f m.cmd }
/-- Change the `set` part of the module. -/
def Module.onSet (m : Module) (f : Settings → Settings) : Module := { m with set := f m.set }
/-- Change the `bulk` part of the module. -/
def Module.onBulk (m : Module) (f : Bulk → Bulk) : Module := { m with bulk := f m.bulk }
/-- Change the `evt` part of the module. -/
def Module.onEvt (m : Module) (f : Evt → Evt) : Module := { m with evt := f m.evt }
/-- Change the `ang` part of the module. -/
def Module.onAng (m : Module) (f : Ang → Ang) : Module := { m with ang := f m.ang }
/-- Change the `pck` part of the module. -/
def Module.onPck (m : Module) (f : Pck → Pck) : Module := { m with pck := f m.pck }
/-- Change the `wrp` part of the module. -/
def Module.onWrp (m : Module) (f : Wrp → Wrp) : Module := { m with wrp := f m.wrp }
/-- Change the `est` part of the module. -/
def Module.onEst (m : Module) (f : Est → Est) : Module := { m with est := f m.est }
/-- Change the `lrn` part of the module. -/
def Module.onLrn (m : Module) (f : Lrn → Lrn) : Module := { m with lrn := f m.lrn }
/-- Change the `wft` part of the module. -/
def Module.onWft (m : Module) (f : Wft → Wft) : Module := { m with wft := f m.wft }
/-- Change the `com` part of the module. -/
def Module.onCom (m : Module) (f : Com → Com) : Module := { m with com := f m.com }
/-- Change the `slv` part of the module. -/
def Module.onSlv (m : Module) (f : Slv → Slv) : Module := { m with slv := f m.slv }
/-- Change the `tmp` part of the module. -/
def Module.onTmp (m : Module) (f : Tmp → Tmp) : Module := { m with tmp := f m.tmp }
/-- Change the `drf` part of the module. -/
def Module.onDrf (m : Module) (f : Drf → Drf) : Module := { m with drf := f m.drf }
/-- Change the `can` part of the module. -/
def Module.onCan (m : Module) (f : Cans → Cans) : Module := { m with can := f m.can }
/-- Change the `rng` part of the module. -/
def Module.onRng (m : Module) (f : Rng → Rng) : Module := { m with rng := f m.rng }
/-- Change the `clo` part of the module. -/
def Module.onClo (m : Module) (f : Clo → Clo) : Module := { m with clo := f m.clo }
/-- Change the `rep` part of the module. -/
def Module.onRep (m : Module) (f : Rep → Rep) : Module := { m with rep := f m.rep }
/-- Change the `blt` part of the module. -/
def Module.onBlt (m : Module) (f : Blt → Blt) : Module := { m with blt := f m.blt }
/-- Change the `svc` part of the module. -/
def Module.onSvc (m : Module) (f : Svc → Svc) : Module := { m with svc := f m.svc }
/-- Change the `upd` part of the module. -/
def Module.onUpd (m : Module) (f : Upd → Upd) : Module := { m with upd := f m.upd }
/-- Change the `hk` part of the module. -/
def Module.onHk (m : Module) (f : Hk → Hk) : Module := { m with hk := f m.hk }
/-- Change the `cnt` part of the module. -/
def Module.onCnt (m : Module) (f : Tab Nat → Tab Nat) : Module := { m with cnt := f m.cnt }
/-- Change the `out` part of the module. -/
def Module.onOut (m : Module) (f : List Out → List Out) : Module := { m with out := f m.out }
/-- Change the `free` part of the module. -/
def Module.onFree (m : Module) (f : Nat → Nat) : Module := { m with free := f m.free }

/-- A meaning that always answers a next state: the module changed by `f`, the queue as it was. -/
def State.go (s : State) (f : Module → Module) : Host.Outcome State Fault Refusal := .next { s with m := f s.m }

end Sys2Proof.Machine
end

