-- ==== Sys2Proof/Machine/Bytes.lean ====
section
/-! DEFINITION. Machine/Bytes.lean: little-endian fields (R12), bit fields, two's complement (R13), saturation
(R14) and the two cyclic redundancy checks (R113, R361). -/
namespace Sys2Proof.Machine

/-- `n` bytes of `v`, the least significant first (R12). -/
def leBytes : Nat → Nat → Bytes
  | 0, _ => []
  | n + 1, v => BitVec.ofNat 8 v :: leBytes n (v / 256)

/-- The number little-endian bytes spell (R12). -/
def leNat : Bytes → Nat
  | [] => 0
  | b :: bs => b.toNat + 256 * leNat bs

/-- The `n`-byte field at offset `o` of a byte string; bytes past its end count as zero. -/
def field (b : Bytes) (o n : Nat) : Nat := leNat ((b.drop o).take n)

/-- The byte at offset `o`, zero past the end. -/
def byteAt (b : Bytes) (o : Nat) : Nat := (b.getD o 0).toNat

/-- Two's complement of an `n`-bit pattern (R13). -/
def sInt (n v : Nat) : Int := if v % 2 ^ n < 2 ^ (n - 1) then (v % 2 ^ n : Nat) else (v % 2 ^ n : Nat) - (2 ^ n : Nat)

/-- The `n`-bit two's complement pattern of an integer (R13). -/
def ofInt (n : Nat) (v : Int) : Nat := (v % ((2 ^ n : Nat) : Int)).toNat

/-- A 32-bit two's complement pattern saturated to the valid extremes of a quantity (R14). -/
def sat32s (v : Int) : Int := max (-2147483647) (min 2147483647 v)

/-- Saturation of a counter at 0xFFFF_FFFF. -/
def satU32 (v : Nat) : Nat := min v 0xFFFFFFFF

/-- Saturation at the largest 16-bit value. -/
def satU16 (v : Nat) : Nat := min v 0xFFFF

/-- Bits [hi:lo] of a number. -/
def bits (v hi lo : Nat) : Nat := (v >>> lo) % 2 ^ (hi + 1 - lo)

/-- A truth value as one bit. -/
def bit (b : Bool) : Nat := if b then 1 else 0

/-- The numbers below `n` whose bit is set in a mask, ascending. -/
def maskList (n mask : Nat) : List Nat := (List.range n).filter fun i => mask.testBit i

/-- The mask whose bit i is `p i`, for the numbers below `n`. -/
def maskOf (n : Nat) (p : Nat → Bool) : Nat :=
  (List.range n).foldl (fun a i => if p i then a + 2 ^ i else a) 0

/-- One reflected CRC step over a bit. -/
def crcBit (poly c : Nat) : Nat := if c % 2 = 1 then (c >>> 1) ^^^ poly else c >>> 1

/-- One reflected CRC step over a byte. -/
def crcByte (poly c : Nat) (b : Byte) : Nat :=
  let c := c ^^^ b.toNat
  crcBit poly (crcBit poly (crcBit poly (crcBit poly (crcBit poly (crcBit poly (crcBit poly (crcBit poly c)))))))

/-- CRC-32C: polynomial 0x1EDC_6F41 reflected (0x82F6_3B78), initial value and final XOR 0xFFFF_FFFF (R113). -/
def crc32c (b : Bytes) : Nat := (b.foldl (crcByte 0x82F63B78) 0xFFFFFFFF) ^^^ 0xFFFFFFFF

/-- CRC-32 of IEEE 802.3: polynomial 0x04C1_1DB7 reflected (0xEDB8_8320), initial value and final XOR
0xFFFF_FFFF (R361). -/
def crc32 (b : Bytes) : Nat := (b.foldl (crcByte 0xEDB88320) 0xFFFFFFFF) ^^^ 0xFFFFFFFF

/-- A frame body whose last four bytes are the CRC-32C of all earlier bytes (R113). -/
def crcOk (b : Bytes) : Bool := decide (4 ≤ b.length ∧ field b (b.length - 4) 4 = crc32c (b.take (b.length - 4)))

/-- A body with its CRC-32C appended (R113). -/
def withCrc (b : Bytes) : Bytes := b ++ leBytes 4 (crc32c b)

/-- `n` zero bytes (reserved fields are sent as zero, R15). -/
def zeros (n : Nat) : Bytes := List.replicate n 0

/-- Replace the bytes from offset `o` on by `d`, keeping the length. -/
def splice (b : Bytes) (o : Nat) (d : Bytes) : Bytes := b.take o ++ d ++ b.drop (o + d.length)

/-- The ceiling of a quotient. -/
def ceilDiv (a b : Nat) : Nat := (a + b - 1) / b

end Sys2Proof.Machine
end

