-- ==== Sys2Proof/Machine/Fp.lean ====
section
/-! DEFINITION. Machine/Fp.lean: FP32 (R13) with the arithmetic R199 fixes: round to nearest even, subnormal results
flushed to zero, NaN as the quiet NaN 0x7FC0_0000. Every operation computes an exact integer and rounds once. -/
namespace Sys2Proof.Machine

def fNaN : F32 := 0x7FC00000#32
def fZero : F32 := 0#32
def fOne : F32 := 0x3F800000#32
def fInf (s : Bool) : F32 := if s then 0xFF800000#32 else 0x7F800000#32

def fSign (x : F32) : Bool := x.toNat.testBit 31
def fExp (x : F32) : Nat := bits x.toNat 30 23
def fFrac (x : F32) : Nat := x.toNat % 0x800000
def fIsNaN (x : F32) : Bool := decide (fExp x = 255 ∧ fFrac x ≠ 0)
def fIsInf (x : F32) : Bool := decide (fExp x = 255 ∧ fFrac x = 0)
def fIsZero (x : F32) : Bool := decide (x.toNat % 0x80000000 = 0)
/-- A finite value: neither NaN nor infinite (R14, estimator internals). -/
def fFinite (x : F32) : Bool := decide (fExp x ≠ 255)

/-- Significand of a finite value; the value is ± significand · 2^(fPow x). -/
def fMant (x : F32) : Nat := if fExp x = 0 then fFrac x else fFrac x + 0x800000
def fPow (x : F32) : Int := if fExp x = 0 then -149 else (fExp x : Int) - 150

/-- Signed significand. -/
def fSMant (x : F32) : Int := if fSign x then -(fMant x : Int) else fMant x

def fZeroS (s : Bool) : F32 := if s then 0x80000000#32 else 0#32

/-- Round the exact value ± m · 2^e to nearest even; results below the normal range flush to zero (R199). -/
def fRound (s : Bool) (m : Nat) (e : Int) : F32 :=
  if m = 0 then fZeroS s
  else
    let len := Nat.log2 m + 1
    let q0 := if len ≤ 24 then m <<< (24 - len) else
      let sh := len - 24
      let q := m >>> sh
      let r := m % 2 ^ sh
      if r > 2 ^ (sh - 1) ∨ (r = 2 ^ (sh - 1) ∧ q % 2 = 1) then q + 1 else q
    let e0 : Int := e + (len : Int) - 24
    let q := if q0 = 0x1000000 then 0x800000 else q0
    let e1 := if q0 = 0x1000000 then e0 + 1 else e0
    let b : Int := e1 + 150
    if b ≥ 255 then fInf s
    else if b ≤ 0 then fZeroS s
    else BitVec.ofNat 32 ((if s then 0x80000000 else 0) + b.toNat * 0x800000 + (q - 0x800000))

/-- Round an exact signed value m · 2^e. -/
def fRoundI (m : Int) (e : Int) : F32 := fRound (decide (m < 0)) m.natAbs e

/-- The value with the opposite sign. -/
def fNeg (x : F32) : F32 := x ^^^ 0x80000000#32
def fAbs (x : F32) : F32 := x &&& 0x7FFFFFFF#32

/-- Exact sum of two finite values, rounded once. -/
def fAddFin (x y : F32) : F32 :=
  let e := min (fPow x) (fPow y)
  let s := fSMant x * (2 ^ (fPow x - e).toNat : Nat) + fSMant y * (2 ^ (fPow y - e).toNat : Nat)
  if s = 0 then fZeroS (fSign x && fSign y) else fRoundI s e

def fAdd (x y : F32) : F32 :=
  if fIsNaN x || fIsNaN y then fNaN
  else if fIsInf x then (if fIsInf y && (fSign x != fSign y) then fNaN else x)
  else if fIsInf y then y
  else fAddFin x y

def fSub (x y : F32) : F32 := if fIsNaN y then fNaN else fAdd x (fNeg y)

def fMul (x y : F32) : F32 :=
  if fIsNaN x || fIsNaN y then fNaN
  else
    let s := fSign x != fSign y
    if fIsInf x || fIsInf y then (if fIsZero x || fIsZero y then fNaN else fInf s)
    else fRound s (fMant x * fMant y) (fPow x + fPow y)

/-- Quotient: 64 extra quotient bits and a sticky bit decide the rounding exactly. -/
def fDiv (x y : F32) : F32 :=
  if fIsNaN x || fIsNaN y then fNaN
  else
    let s := fSign x != fSign y
    if fIsInf x then (if fIsInf y then fNaN else fInf s)
    else if fIsInf y then fZeroS s
    else if fIsZero y then (if fIsZero x then fNaN else fInf s)
    else
      let n := fMant x <<< 64
      let q := n / fMant y
      let r := n % fMant y
      fRound s (2 * q + (if r = 0 then 0 else 1)) (fPow x - fPow y - 65)

/-- Integer square root by bits: `n` bits decided from the top. -/
def isqrtGo : Nat → Nat → Nat → Nat
  | 0, _, r => r
  | k + 1, v, r => let c := r + 2 ^ k; isqrtGo k v (if c * c ≤ v then c else r)

/-- Square root, rounded to nearest even. -/
def fSqrt (x : F32) : F32 :=
  if fIsNaN x then fNaN
  else if fIsZero x then x
  else if fSign x then fNaN
  else if fIsInf x then x
  else
    let p := fPow x
    let odd := p % 2 = 1
    let m := (if odd then 2 * fMant x else fMant x) <<< 64
    let e : Int := ((if odd then p - 1 else p) - 64) / 2
    let r := isqrtGo 48 m 0
    fRound false (2 * r + (if r * r = m then 0 else 1)) (e - 1)

/-- Order key of a value that is no NaN. -/
def fKey (x : F32) : Int := if fSign x then -((x.toNat % 0x80000000 : Nat) : Int) else (x.toNat : Int)

def fLt (x y : F32) : Bool := !fIsNaN x && !fIsNaN y && decide (fKey x < fKey y)
def fLe (x y : F32) : Bool := !fIsNaN x && !fIsNaN y && decide (fKey x ≤ fKey y)
def fEq (x y : F32) : Bool := !fIsNaN x && !fIsNaN y && decide (fKey x = fKey y)
def fMin (x y : F32) : F32 := if fLt y x then y else x
def fMax (x y : F32) : F32 := if fLt x y then y else x
/-- clamp(x, lo, hi); where lo lies above hi the result is lo (R400). -/
def fClamp (x lo hi : F32) : F32 := fMax (fMin x hi) lo

/-- The FP32 nearest to a quotient of integers. -/
def fOfRat (n : Int) (d : Nat) : F32 :=
  if d = 0 then fNaN
  else
    let m := n.natAbs <<< 64
    let q := m / d
    fRound (decide (n < 0)) (2 * q + (if m % d = 0 then 0 else 1)) (-65)

def fOfInt (n : Int) : F32 := fRoundI n 0
def fOfNat (n : Nat) : F32 := fRoundI (n : Int) 0

/-- The value times a rational k/d, as the integer nearest to it (ties to even); 0 for a value that is not finite. -/
def fToInt (x : F32) (k : Nat) (d : Nat) : Int :=
  if !fFinite x || d = 0 then 0
  else
    let p := fPow x
    let n := fMant x * k * (if p ≥ 0 then 2 ^ p.toNat else 1)
    let m := d * (if p ≥ 0 then 1 else 2 ^ (-p).toNat)
    let q := n / m
    let r := n % m
    let a : Nat := if 2 * r > m ∨ (2 * r = m ∧ q % 2 = 1) then q + 1 else q
    if fSign x then -(a : Int) else a

/-- The value times k/d, rounded towards minus infinity. -/
def fFloor (x : F32) (k : Nat) (d : Nat) : Int :=
  if !fFinite x || d = 0 then 0
  else
    let p := fPow x
    let n := fMant x * k * (if p ≥ 0 then 2 ^ p.toNat else 1)
    let m := d * (if p ≥ 0 then 1 else 2 ^ (-p).toNat)
    if fSign x then -((ceilDiv n m : Nat) : Int) else ((n / m : Nat) : Int)

/-- The value times k/d, truncated towards zero. -/
def fTrunc (x : F32) (k : Nat) (d : Nat) : Int :=
  if fSign x then -(fFloor (fAbs x) k d) else fFloor x k d

/-- The four bytes of an FP32 field (R12, R13). -/
def fBytes (x : F32) : Bytes := leBytes 4 x.toNat

/-- The FP32 field at offset `o` of a byte string. -/
def fField (b : Bytes) (o : Nat) : F32 := BitVec.ofNat 32 (field b o 4)

end Sys2Proof.Machine
end

