-- ==== Sys2Proof/Machine/SetTable.lean ====
section
/-! DEFINITION. Machine/SetTable.lean: the settings of every chapter (R511): number, range, default and commit rule
(R92, R155, R212, R254, R298, R435, R475, R528, R568, R601, R625, R660, R695, R723). Every scalar range of the
manual is unsigned. -/
namespace Sys2Proof.Machine

/-- When a setting may be committed (R516, check 1). -/
inductive CommitRule where
  /-- any mode but BOOT -/
  | any
  | commission
  | commissionStandby
  /-- TMP_LOOP_TABLE (R396) -/
  | loopTable
  /-- FORM_RECIPE_n (R430) -/
  | recipe
deriving DecidableEq, Repr

/-- One setting: a bulk setting has its length in `bulk`, a scalar one has 0 there. -/
structure SetSpec where
  id : Nat
  lo : Nat := 0
  hi : Nat := 0
  dflt : Nat := 0
  rule : CommitRule := .any
  bulk : Nat := 0
deriving DecidableEq, Repr

def setSpecsA : List SetSpec := [
  { id := 0x0001, lo := 10, hi := 86400, dflt := 3600 },
  { id := 0x0200, lo := 0, hi := 0xFFFF, dflt := 0, rule := .commission },
  { id := 0x0202, lo := 0, hi := 1, dflt := 0, rule := .commissionStandby },
  { id := 0x0203, lo := 0, hi := 3, dflt := 1, rule := .commissionStandby },
  { id := 0x0204, lo := 50, hi := 800, dflt := 100, rule := .commissionStandby },
  { id := 0x0205, lo := 0, hi := 2, dflt := 1 },
  { id := 0x0206, lo := 1, hi := 16, dflt := 8 },
  { id := 0x0207, lo := 10, hi := 1000, dflt := 100 },
  { id := 0x0208, lo := 100, hi := 65535, dflt := 4000 },
  { id := 0x0209, lo := 1, hi := 60, dflt := 10 },
  { id := 0x0310, lo := 100, hi := 20000, dflt := 800 },
  { id := 0x0311, lo := 500, hi := 50000, dflt := 3000 },
  { id := 0x0312, lo := 1, hi := 100, dflt := 10 },
  { id := 0x0313, lo := 10, hi := 10000, dflt := 200 },
  { id := 0x0314, lo := 1, hi := 256, dflt := 16 },
  { id := 0x0315, lo := 0, hi := 100000, dflt := 1000 },
  { id := 0x0316, lo := 10, hi := 3600, dflt := 60 },
  { id := 0x0317, lo := 500, hi := 999, dflt := 900 },
  { id := 0x0318, lo := 10, hi := 86400, dflt := 300 },
  { id := 0x0319, lo := 1, hi := 1000, dflt := 10 },
  { id := 0x031A, lo := 0, hi := 1000, dflt := 200 },
  { id := 0x031B, lo := 1, hi := 60, dflt := 10 },
  { id := 0x031C, lo := 1, hi := 10000, dflt := 50 },
  { id := 0x031D, lo := 0, hi := 500, dflt := 0 },
  { id := 0x031E, lo := 1, hi := 100, dflt := 10 },
  { id := 0x031F, lo := 4, hi := 1000, dflt := 25 },
  { id := 0x0320, lo := 0, hi := 1000, dflt := 10 },
  { id := 0x0321, lo := 0, hi := 1000, dflt := 1 },
  { id := 0x0322, lo := 0, hi := 1000, dflt := 100 }]

def setSpecsB : List SetSpec := [
  { id := 0x0330, lo := 0, hi := 7, dflt := 7 },
  { id := 0x0331, lo := 50, hi := 2000, dflt := 200 },
  { id := 0x0332, lo := 5, hi := 200, dflt := 20 },
  { id := 0x0333, lo := 1, hi := 600, dflt := 30 },
  { id := 0x0334, lo := 5, hi := 500, dflt := 50 },
  { id := 0x0335, lo := 1, hi := 500, dflt := 50 },
  { id := 0x0336, lo := 10, hi := 1000, dflt := 100 },
  { id := 0x0337, lo := 1, hi := 500, dflt := 10 },
  { id := 0x0338, lo := 1, hi := 50, dflt := 10 },
  { id := 0x0339, lo := 50, hi := 95, dflt := 80 },
  { id := 0x033A, lo := 60, hi := 86400, dflt := 3600 },
  { id := 0x0340, lo := 0, hi := 4, dflt := 0, rule := .commissionStandby },
  { id := 0x0341, lo := 0, hi := 3, dflt := 0 },
  { id := 0x0500, rule := .loopTable, bulk := 32800 },
  { id := 0x0501, lo := 0, hi := 2, dflt := 0 },
  { id := 0x0502, lo := 0, hi := 10000, dflt := 500 },
  { id := 0x0503, lo := 0, hi := 0xFFFF, dflt := 0 },
  { id := 0x0504, lo := 1, hi := 60, dflt := 10 },
  { id := 0x0505, lo := 0, hi := 100000, dflt := 1000 },
  { id := 0x0600, lo := 0, hi := 1, dflt := 0 },
  { id := 0x0601, lo := 10, hi := 3600, dflt := 60 },
  { id := 0x0700, lo := 1, hi := 20, dflt := 10 },
  { id := 0x0701, lo := 0, hi := 10, dflt := 5 },
  { id := 0x0702, lo := 0, hi := 1, dflt := 1 },
  { id := 0x0800, lo := 0, hi := 1, dflt := 0 },
  { id := 0x0801, lo := 100, hi := 1000, dflt := 500 }]

def setSpecsC : List SetSpec := [
  { id := 0x0900, lo := 1, hi := 3, dflt := 2, rule := .commissionStandby },
  { id := 0x0901, lo := 0, hi := 3, dflt := 3, rule := .commissionStandby },
  { id := 0x0902, lo := 0, hi := 1, dflt := 1, rule := .commissionStandby },
  { id := 0x0903, lo := 2, hi := 255, dflt := 50, rule := .commissionStandby },
  { id := 0x0904, lo := 1, hi := 4096, dflt := 64, rule := .commissionStandby },
  { id := 0x0905, lo := 0, hi := 1, dflt := 1, rule := .commissionStandby },
  { id := 0x0906, lo := 0, hi := 65535, dflt := 0, rule := .commissionStandby },
  { id := 0x0907, lo := 4000, hi := 7000, dflt := 4500, rule := .commissionStandby },
  { id := 0x0908, lo := 4000, hi := 7000, dflt := 5500, rule := .commissionStandby },
  { id := 0x0909, lo := 40000, hi := 70000, dflt := 50000, rule := .commissionStandby },
  { id := 0x090A, lo := 20, hi := 200, dflt := 40, rule := .commissionStandby },
  { id := 0x090B, lo := 0, hi := 65535, dflt := 0, rule := .commissionStandby },
  { id := 0x0910, lo := 0, hi := 9, dflt := 9, rule := .commissionStandby },
  { id := 0x0911, lo := 0, hi := 65535, dflt := 0, rule := .commissionStandby },
  { id := 0x0A00, lo := 256, hi := 4096, dflt := 256 },
  { id := 0x0B60, rule := .commissionStandby, bulk := 11296 },
  { id := 0x0B80, lo := 0, hi := 0x77, dflt := 0x10 },
  { id := 0x0B81, lo := 0, hi := 0xFF, dflt := 0x0F },
  { id := 0x0B82, lo := 0, hi := 2, dflt := 0 },
  { id := 0x0B83, lo := 0, hi := 15, dflt := 3 },
  { id := 0x0B84, lo := 1, hi := 1000, dflt := 10 },
  { id := 0x0D00, lo := 0, hi := 255, dflt := 255, rule := .commission },
  { id := 0x0D01, lo := 0, hi := 2, dflt := 0, rule := .commission },
  { id := 0x0D02, lo := 0, hi := 0xFFFFFFFF, dflt := 0 },
  { id := 0x0D03, lo := 0, hi := 0xFFFFFFFF, dflt := 0xFFFFFF00 },
  { id := 0x0D04, lo := 0, hi := 0xFFFFFFFF, dflt := 0 },
  { id := 0x0D05, lo := 1, hi := 60, dflt := 2 }]

/-- Controller settings of CAN controller `n` (R601). -/
def setSpecsCan (n : Nat) : List SetSpec :=
  let b := 0x0B00 + 0x10 * n
  [{ id := b, lo := 0, hi := 2, dflt := if n = 0 then 1 else 0, rule := .commissionStandby },
   { id := b + 1, lo := 0, hi := 1, dflt := 1, rule := .commissionStandby },
   { id := b + 2, lo := 0, hi := 3, dflt := 3, rule := .commissionStandby },
   { id := b + 3, lo := 0, hi := 3, dflt := 3, rule := .commissionStandby },
   { id := b + 4, lo := 0, hi := 2, dflt := 0, rule := .commissionStandby },
   { id := b + 5, lo := 0x010, hi := 0x7FE, dflt := 0x010, rule := .commissionStandby },
   { id := b + 6, lo := 0, hi := 10000, dflt := 0, rule := .commissionStandby },
   { id := b + 7, lo := 0, hi := 0xF, dflt := 0, rule := .commissionStandby },
   { id := b + 8, lo := 10, hi := 10000, dflt := 100, rule := .commissionStandby }]

/-- The numbered sets: WARP_MONITORS_n, EST_PACK_n, EST_PACK_SLOT_k, FORM_RECIPE_n, CAN_REF_CH_c, SHUNT_SCALE_n,
DCI_SCALE_n. -/
def setSpecsN : List SetSpec :=
  ((List.range 16).map fun n => { id := 0x0210 + n, lo := 1, hi := 32, dflt := 16, rule := .commission })
  ++ ((List.range 16).map fun n => { id := 0x0300 + n, lo := 0, hi := 3, dflt := 0, rule := .commissionStandby })
  ++ ((List.range 4).map fun k => { id := 0x03F0 + k, rule := .commissionStandby, bulk := 2048 })
  ++ ((List.range 16).map fun n => { id := 0x0510 + n, rule := .recipe, bulk := 2080 })
  ++ setSpecsCan 0 ++ setSpecsCan 1
  ++ ((List.range 4).map fun c =>
      { id := 0x0B40 + c, lo := 0, hi := 0xFFFFFFFF, dflt := 0x80000100 + c, rule := .commissionStandby })
  ++ ((List.range 16).map fun n =>
      { id := 0x0C00 + n, lo := 900000, hi := 1100000, dflt := 1000000, rule := .commission })
  ++ ((List.range 16).map fun n =>
      { id := 0x0C10 + n, lo := 900000, hi := 1100000, dflt := 1000000, rule := .commissionStandby })

/-- Every setting of the manual (R511). -/
def setSpecs : List SetSpec := setSpecsA ++ setSpecsB ++ setSpecsC ++ setSpecsN

/-- The row of a setting; none for an unknown one. -/
def setSpec? (id : Nat) : Option SetSpec := setSpecs.find? fun s => s.id = id

/-- A contiguous network mask from /8 to /30 (R568). -/
def isNetmask (v : Nat) : Bool := (List.range 23).any fun k => v = 0x100000000 - 2 ^ (24 - k)

/-- The value lies in the setting's range. -/
def setInRange (id v : Nat) : Bool :=
  match setSpec? id with
  | none => false
  | some s =>
    s.bulk = 0 && decide (s.lo ≤ v ∧ v ≤ s.hi) &&
    (if id = 0x0D00 then decide (v ≤ 63 ∨ v = 255)
     else if id = 0x0D03 then isNetmask v
     else if id = 0x0B80 then decide (v = 0 ∨ (8 ≤ v ∧ ¬ (0x58 ≤ v ∧ v ≤ 0x5F)))
     else true)

end Sys2Proof.Machine
end

