-- ==== Sys2Proof/Machine/Ops.lean ====
section
/-! DEFINITION. Machine/Ops.lean: the operations every family shares: time, settings in force, counters, events, the bolt
counters they feed, memory of the bulk window, and replies to the host. -/
namespace Sys2Proof.Machine

/-! ### Time, mode, settings, counters -/

def nsec (n : Nat) : Nat := 4 * n
def usec (n : Nat) : Nat := 4000 * n
def msec (n : Nat) : Nat := 4000000 * n
def secs (n : Nat) : Nat := 4000000000 * n

/-- The module's clock never runs backward. -/
def Module.tick (t : Nat) (m : Module) : Module := m.onSys fun y => { y with clock := max y.clock t }

/-- Mode codes (R29). -/
def modeCode : Mode → Nat
  | .boot => 0 | .commission => 1 | .standby => 2 | .dispatch => 3 | .formation => 4 | .safeHold => 5

/-- The mode a code names (R29). -/
def modeOf : Nat → Option Mode
  | 0 => some .boot | 1 => some .commission | 2 => some .standby | 3 => some .dispatch
  | 4 => some .formation | 5 => some .safeHold | _ => none

/-- The latest pick has been taken and not yet released to its consumers: its pick boundary (R23, R30, R205). -/
def Module.atBoundary (m : Module) : Bool := m.pck.running && !m.pck.released

def Module.inBoot (m : Module) : Bool := decide (m.sys.mode = .boot)

/-- What a slew of at most 100 ppm has taken out of `rest` after `ns` nanoseconds (R554). -/
def slewed (rest : Int) (ns : Nat) : Int :=
  let k : Int := (min rest.natAbs (ns / 10000) : Nat)
  if rest < 0 then -k else k

/-- Plant time at clock instant `t`, ns; 0 while not acquired (R14, R554). -/
def Module.plantAt (t : Nat) (m : Module) : Nat :=
  match m.rng.plant with
  | none => 0
  | some (v, at_) =>
    if at_ ≤ t then (((v + (t - at_) / 4 : Nat) : Int) + slewed m.rng.slew ((t - at_) / 4)).toNat % 2 ^ 64
    else v - (at_ - t) / 4

def Module.plantNow (m : Module) : Nat := m.plantAt m.sys.clock

/-- A flash write may start (R706, R716): the write window is open and no hold-up is in force. -/
def Module.flashOk (m : Module) : Bool := m.hk.windowOpen && !m.hk.holdup

/-- The value of a fuse group that is programmed (R355). -/
def Module.fuse? (g : Nat) (m : Module) : Option Bytes :=
  let f := tabGet ({} : Fuse) m.com.fuses g
  if f.state = .programmed then some f.value else none

/-- HEAD_CAPABLE is fused (R355). -/
def Module.headCapable (m : Module) : Bool := (m.fuse? 2).isSome

/-- The module is the head of its ring group (R563). -/
def Module.isHead (m : Module) : Bool := decide (m.rng.head = .head)

/-- The fused PLANT_ID, or 0 (R355). -/
def Module.plantId (m : Module) : Nat := ((m.fuse? 3).map leNat).getD 0

/-- The default of a scalar setting (R511); that of HEAD_ROLE depends on the fuse (R568). -/
def Module.settingDflt (id : Nat) (m : Module) : Nat :=
  if id = 0x0D01 then bit m.headCapable else
  match setSpec? id with
  | some s => s.dflt
  | none => 0

/-- The scalar setting in force. -/
def Module.setting (id : Nat) (m : Module) : Nat :=
  match tabGet none m.set.scalars id with
  | some v => v
  | none => m.settingDflt id

/-- The value of a scalar setting in a set of writes laid over the settings in force. -/
def Module.settingIn (w : Tab (Option Nat)) (id : Nat) (m : Module) : Nat :=
  match tabGet none w id with
  | some v => v
  | none => m.setting id

/-- The settings with a transaction's writes laid over them (R515). -/
def Module.withShadow (w : Tab (Option Nat)) (b : Tab (Option Bytes)) (m : Module) : Module :=
  m.onSet fun s => { s with scalars := w.foldl (fun t p => tabPut none t p.1 p.2) s.scalars
                            bulk := b.foldl (fun t p => tabPut none t p.1 p.2) s.bulk }

/-- Angle and pick settings, WINDOW_FORCE and WINDOW_LEN: their changes take effect at a boundary of R90 (R517). -/
def slotSetting (id : Nat) : Bool := decide (0x0900 ≤ id ∧ id ≤ 0x0911) || decide (id = 0x0202 ∨ id = 0x0203)

/-- A transaction changes one of the scalar settings `p`. -/
def Module.changesOf (p : Nat → Bool) (w : Tab (Option Nat)) (m : Module) : Bool :=
  w.any fun x => p x.1 && decide (x.2 ≠ some (m.setting x.1))

/-- The accepted commit that waits for a boundary of R90, by its writes (R517). -/
def Module.slotCommit (m : Module) : Option (Tab (Option Nat)) :=
  match m.set.txn with
  | some t => if t.committing.isSome && m.changesOf slotSetting t.writes then some t.writes else none
  | none => none

/-- A commit is due at the latest pick's boundary. -/
def Module.txnDue (m : Module) : Bool :=
  m.set.txn.any (·.committing.isSome) && (m.slotCommit.isNone || m.pck.fresh)

/-- The place of a boundary command in the order of R205, after the settings: EST_FLAGS_CLEAR, EST_REINIT, learned-data changes; 0 for
a command R205 does not order. -/
def boundaryRank (opcode : Nat) : Nat :=
  if opcode = 0x0304 then 1 else if opcode = 0x0305 then 2 else if opcode = 0x0315 ∨ opcode = 0x0316 then 3 else 0

/-- Nothing that R205 applies before place `r` is still due at this boundary. -/
def Module.rankFree (r : Nat) (m : Module) : Bool :=
  r = 0 || (!m.txnDue && m.cmd.outst.all fun o => boundaryRank o.opcode = 0 || decide (r ≤ boundaryRank o.opcode))

def Module.counter (off : Nat) (m : Module) : Nat := tabGet 0 m.cnt off
/-- A counter register counts `n`, saturating. -/
def Module.bumpBy (off n : Nat) (m : Module) : Module := m.onCnt fun c => tabUpd 0 c off fun v => satU32 (v + n)
def Module.bump (off : Nat) (m : Module) : Module := m.bumpBy off 1
def Module.clearCounter (off : Nat) (m : Module) : Module := m.onCnt fun c => tabPut 0 c off 0

/-- The next free value's index, and the state that has used it. -/
def Module.useFree (m : Module) : Module := m.onFree (· + 1)

/-- Record what leaves the module. -/
def Module.emit (o : Out) (m : Module) : Module := m.onOut (o :: ·)

/-! ### Bolt counters (R654, R655) -/

/-- Whether a LAST update of the code is prompt (R654). -/
def boltPrompt (c : Nat) : Bool := decide (512 ≤ c ∧ c ≠ 548)

/-- Count an occurrence of a code (R654, R655): FIRST at the first, LAST at most once per 60 s, else held. A FIRST
stamp, or a prompt LAST, makes a QUICK flush due (R656). -/
def boltStep (now : Stamp) (b : BoltCode) : BoltCode :=
  let b1 := { b with count := satU32 (b.count + 1), first := if b.count = 0 then now else b.first }
  if b.closed then { b1 with held := some now } else { b1 with last := now, closed := true }

def Module.boltCount (c : Nat) (m : Module) : Module :=
  let b := tabGet ({} : BoltCode) m.blt.data.codes c
  let m1 := m.onBlt fun x =>
    { x with
      data := { x.data with codes := tabPut {} x.data.codes c (boltStep x.data.stamp b) }
      prompt := x.prompt || b.count = 0 || (boltPrompt c && !b.closed) }
  if b.closed then m1.bump 0x0C002C else m1

/-! ### Events (R506, R507, R532, R623) -/

/-- One waiting record per event: merge, or append at the end (R507). -/
def mergeEvt (e pick time : Nat) : List EvtRec → List EvtRec
  | [] => [{ event := e, count := 1, pick := pick, time := time }]
  | r :: rs =>
    if r.event = e then { r with count := satU16 (r.count + 1), pick := pick, time := time } :: rs
    else r :: mergeEvt e pick time rs

/-- The NOTIFY_CAUSE bit an event sets (R623). -/
def notifyBit (e : Nat) : Option Nat :=
  if e = 1 then some 0 else if e = 128 then some 1 else if e = 130 then some 2 else if e = 133 then some 3
  else if e = 242 then some 4 else if e = 388 ∨ e = 399 then some 5 else if e = 197 then some 6 else none

/-- Set a cause bit; one newly set and selected by SVC_NOTIFY_MASK calls for attention (R622). -/
def Module.notifyCause (b : Nat) (m : Module) : Module :=
  let call := !m.svc.cause.testBit b && (m.setting 0x0B81).testBit b && decide (m.setting 0x0B80 ≠ 0)
  m.onSvc fun v => { v with cause := v.cause ||| 2 ^ b, pending := v.pending || call,
                            attempts := if call && !v.pending then 0 else v.attempts }

/-- A context's queue of records takes an event it subscribes to. -/
def ctxEvent (e pick time : Nat) (c : Option Ctx) : Option Ctx :=
  c.map fun x => if x.subs.testBit e then { x with waiting := mergeEvt e pick time x.waiting } else x

/-- Raise an event: EVT_CNTe, EVT_RAISEDw, LAST, the subscribed contexts' records, the notify causes and the bolt
counter of its code. -/
def Module.raise (e : Nat) (m : Module) : Module :=
  let pick := m.pck.index
  let time := m.plantNow
  let m := m.bump (0x031000 + 4 * e)
  let m := m.onEvt fun v => { v with raised := v.raised ||| 2 ^ e, last := e }
  let m := m.onCmd fun c => { c with ctxs := c.ctxs.map fun p => (p.1, ctxEvent e pick time p.2) }
  let m := match notifyBit e with
    | some b => m.notifyCause b
    | none => m
  m.boltCount e

/-- Raise an event marked "once per cycle": a further occurrence in the treadle cycle is only counted (R533), in EVT_CNTe
(R532) and in the bolt counter (R654). -/
def Module.raiseOnce (e : Nat) (m : Module) : Module :=
  if e ∈ m.evt.once then (m.bump (0x031000 + 4 * e)).boltCount e
  else (m.raise e).onEvt fun v => { v with once := e :: v.once }

/-- Raise an event if a condition holds. -/
def Module.raiseIf (p : Bool) (e : Nat) (m : Module) : Module := if p then m.raise e else m

/-! ### The bulk window's memory (R522) -/

/-- The window byte at an address; one that nothing has written since BOOT is zero. -/
def Module.winByte (a : Nat) (m : Module) : Byte := tabGet 0 m.bulk.mem a

/-- `n` window bytes from an address. -/
def Module.winRead (a n : Nat) (m : Module) : Bytes := (List.range n).map fun i => m.winByte (a + i)

/-- Write bytes from an address on, in canonical form. -/
def memWrite (mem : List Host.Cell) : Nat → Bytes → List Host.Cell
  | _, [] => mem
  | a, b :: bs => memWrite (tabPut 0 mem a b) (a + 1) bs

def Module.winWrite (a : Nat) (d : Bytes) (m : Module) : Module := m.onBulk fun b => { b with mem := memWrite b.mem a d }

/-- The window memory's canonical form: addresses strictly rising, no zero byte listed. -/
def memWf (mem : List Host.Cell) : Bool := tabWf (0 : Byte) mem

def Module.pageOwner (p : Nat) (m : Module) : PageOwner := tabGet .host m.bulk.owner p

/-- Give pages an owner. -/
def Module.ownPages (ps : List Nat) (o : PageOwner) (m : Module) : Module :=
  m.onBulk fun b => { b with owner := ps.foldl (fun t p => tabPut .host t p o) b.owner }

/-- The pages a range of `n` bytes from page `first` takes. -/
def pageRange (first n : Nat) : List Nat := (List.range (ceilDiv n 65536)).map (first + ·)

/-- Read command data from the window (R524): BAD_PARAM past its end, PAGE_NOT_OWNED unless every page is HOST. -/
def Module.readPages (first n : Nat) (m : Module) : Except Status Bytes :=
  let ps := pageRange first n
  if first + ps.length > m.bulk.pages then .error .badParam
  else if ps.any (fun p => m.pageOwner p ≠ .host) then .error .pageNotOwned
  else .ok (m.winRead (first * 65536) n)

/-! ### Contexts and replies (R484 to R503) -/

def privRank : Priv → Nat
  | .none => 0 | .observe => 1 | .operate => 2 | .engineer => 3 | .safety => 4

/-- Status codes (R503). -/
def statusCode : Status → Nat
  | .done => 0x0000 | .accepted => 0x0001 | .continued => 0x0002 | .busy => 0x0100 | .queueFull => 0x0101
  | .badOpcode => 0x0200 | .badParam => 0x0201 | .badLength => 0x0202 | .denied => 0x0300 | .wrongMode => 0x0301
  | .txnConflict => 0x0302 | .safetyLocked => 0x0400 | .pageNotOwned => 0x0500 | .timeout => 0x0600
  | .internal => 0x0700

def Module.ctx? (c : Nat) (m : Module) : Option Ctx := tabGet none m.cmd.ctxs c

def Module.putCtx (c : Nat) (x : Option Ctx) (m : Module) : Module :=
  m.onCmd fun d => { d with ctxs := tabPut none d.ctxs c x }

def Module.updCtx (c : Nat) (f : Ctx → Ctx) (m : Module) : Module := m.putCtx c ((m.ctx? c).map f)

/-- The privilege a context holds at this module; a context that is not open holds NONE. -/
def Module.privOf (c : Nat) (m : Module) : Priv := match m.ctx? c with
  | some x => x.priv
  | none => .none

/-- The context's privilege is below the one required (R488). -/
def Module.lacks (c : Nat) (p : Priv) (m : Module) : Bool := decide (privRank (m.privOf c) < privRank p)

/-- The 32-byte packet header (R485); reserved bytes are zero (R15). -/
def pktHeader (flags addr ctx tag op status len seq : Nat) : Bytes :=
  [0x44, 0x4E, 0x01] ++ leBytes 1 flags ++ leBytes 2 (addr % 64 + ctx % 512 * 64) ++ leBytes 2 tag ++ leBytes 2 op
    ++ leBytes 2 status ++ leBytes 2 len ++ zeros 2 ++ leBytes 4 seq ++ zeros 12

/-- The MAC trailer of a packet in an authenticated context (R493). -/
def macTrailer (key header payload : Bytes) : Bytes := (Config.hmac key (header ++ payload)).take 16

/-- The trailer a request must carry: none unless the context is authenticated (R493). -/
def Module.wantTrailer (op : Nat) (r : Req) (m : Module) : Option Bytes :=
  match m.ctx? r.ctx with
  | some c =>
    if c.authed then
      some (macTrailer c.sessionKey
        (pktHeader (4 + bit r.urgent) m.rng.addr r.ctx r.tag op 0 r.payload.length r.seq) r.payload)
    else none
  | none => none

/-- The trailer of a reply or event packet the module sends. -/
def Module.sendTrailer (ctx flags tag op status seq : Nat) (payload : Bytes) (m : Module) : Option Bytes :=
  match m.ctx? ctx with
  | some c =>
    if c.authed then
      some (macTrailer c.sessionKey (pktHeader (4 + flags) m.rng.addr ctx tag op status payload.length seq) payload)
    else none
  | none => none

/-- Send one reply of a command (R487, R495); replies of a command whose context has closed are discarded and counted
(R497). A context that is not open has no reply series: the number is a free value. -/
def Module.sendReply (o : Outst) (st : Status) (more : Bool) (payload : Bytes) (m : Module) : Outst × Module :=
  if !o.live then (o, m.bump 0x000234)
  else
    let seq := match m.ctx? o.ctx with
      | some c => c.replySeq + 1
      | none => Config.freeNat m.free % 2 ^ 32
    let rep : Reply := { tag := o.tag, opcode := o.opcode, seq := seq, status := st, more := more, payload := payload,
                         trailer := m.sendTrailer o.ctx (2 * bit more) o.tag o.opcode (statusCode st) seq payload }
    let m := match m.ctx? o.ctx with
      | some _ => m.updCtx o.ctx fun c => { c with replySeq := seq }
      | none => m.useFree
    ({ o with replies := o.replies ++ [rep] }, m.emit (.reply o.ctx rep))

/-! ### Frozen slots (R642) -/

/-- A slot is IN_USE: a replay or an export reads it. -/
def Module.slotInUse (k : Nat) (m : Module) : Bool :=
  (decide (m.rep.state = 1 ∨ m.rep.state = 2) && m.rep.source = k) || m.cmd.bulkOut.any fun b => b.slot = some k

def Module.slot (k : Nat) (m : Module) : Slot := tabGet {} m.clo.slots k

/-- The slot a span is written to: the lowest EMPTY one, else the VALID one of lowest SEQ with neither KEEP nor IN_USE
(R642). -/
def Module.chooseSlot (m : Module) : Option Nat :=
  match (List.range 4).find? fun k => (m.slot k).state = 0 with
  | some k => some k
  | none =>
    let seqOf := fun k => match (m.slot k).freeze with
      | some f => f.seq
      | none => 0
    let cand := (List.range 4).filter fun k => (m.slot k).state = 2 && !(m.slot k).keep && !m.slotInUse k
    cand.foldl (fun b k => match b with
      | none => some k
      | some j => if seqOf k < seqOf j then some k else some j) none

/-- A captured span that has no slot yet takes one if it can (R642, R643 step 4); the write waits for the write window,
event 424 (R645). -/
def Module.cloPlace (m : Module) : Module :=
  match m.clo.buffer, m.clo.target with
  | some f, none => match m.chooseSlot with
    | some k =>
      let x : Slot := { state := 1, keep := f.keep, freeze := some f, release := m.sys.release }
      (m.onClo fun c => { c with target := some k, slots := tabPut {} c.slots k x }).raiseIf (!m.flashOk) 424
    | none => m
  | _, _ => m

/-- Drop a command from the outstanding ones, and return the pages it held to HOST (R524). -/
def Module.dropOutst (o : Outst) (m : Module) : Module :=
  (m.onCmd fun d => { d with outst := d.outst.filter (·.id ≠ o.id), bulkOut := d.bulkOut.filter (·.id ≠ o.id) }).ownPages
    o.pages .host |>.cloPlace

/-- Keep a completed command for repeats: the last 64 of the context (R494). -/
def Module.keepDone (o : Outst) (m : Module) : Module :=
  if o.live then
    m.updCtx o.ctx fun c =>
      { c with done := ({ seq := o.seq, tag := o.tag, opcode := o.opcode, replies := o.replies } :: c.done).take 64 }
  else m

/-- The final reply of a command. -/
def Module.finalReply (o : Outst) (st : Status) (payload : Bytes) (m : Module) : Module :=
  let (o, m) := m.sendReply o st false payload
  (m.dropOutst o).keepDone o

/-- Store or replace an outstanding command. -/
def Module.putOutst (o : Outst) (m : Module) : Module :=
  m.onCmd fun d =>
    { d with outst := if d.outst.any (·.id = o.id) then d.outst.map (fun x => if x.id = o.id then o else x)
                      else d.outst ++ [o] }

def Module.outst? (id : Nat) (m : Module) : Option Outst := m.cmd.outst.find? (·.id = id)

/-- The largest final payload that needs no bulk output (R526). -/
def Module.replyRoom (c : Nat) (m : Module) : Nat :=
  match m.ctx? c with
  | some x => x.replyMax - 32 - (if x.authed then 16 else 0)
  | none => 1440

/-- The 32-byte descriptor of bulk output (R526). -/
def bulkDescriptor (total off batch first pages flags crc : Nat) : Bytes :=
  leBytes 8 total ++ leBytes 8 off ++ leBytes 4 batch ++ leBytes 4 first ++ leBytes 2 pages ++ leBytes 2 flags
    ++ leBytes 4 crc

/-- Ask for pages: CONTINUE with PAGES_NEEDED, once per wait, and event 496 (R526). -/
def Module.askPages (b : BulkOut) (m : Module) : Module :=
  match m.outst? b.id with
  | none => m
  | some o =>
    let (o, m) := m.sendReply o .continued true (bulkDescriptor b.data.length b.offset 0 0 0 2 0)
    ((m.putOutst o).onCmd fun d =>
      { d with bulkOut := d.bulkOut.map fun x => if x.id = b.id then { x with needed := true } else x }).raise 496

/-- Deliver a command's output through the bulk window (R526); the batches follow as BULK_OUTPUT_BATCH. -/
def Module.startBulk (o : Outst) (st : Status) (data : Bytes) (slot : Option Nat) (m : Module) : Module :=
  if !o.live then m.dropOutst o
  else
    let b : BulkOut := { id := o.id, ctx := o.ctx, status := st, data := data, slot := slot }
    let m := (m.putOutst o).onCmd fun d => { d with bulkOut := d.bulkOut ++ [b] }
    match m.ctx? o.ctx with
    | some c => if c.given = [] then m.askPages b else m
    | none => m.askPages b

/-- Complete a command: one final reply, or bulk output where the payload does not fit (R526). -/
def Module.complete (o : Outst) (st : Status) (payload : Bytes) (m : Module) : Module :=
  if payload.length > m.replyRoom o.ctx then m.startBulk o st payload none else m.finalReply o st payload

/-- Complete a waiting command by its number. -/
def Module.finish (id : Nat) (st : Status) (payload : Bytes) (m : Module) : Module :=
  match m.outst? id with
  | some o => m.complete o st payload
  | none => m

def Module.finishOpt (id : Option Nat) (st : Status) (payload : Bytes) (m : Module) : Module :=
  match id with
  | some i => m.finish i st payload
  | none => m

def Module.finishAll (ids : List Nat) (st : Status) (payload : Bytes) (m : Module) : Module :=
  ids.foldl (fun m i => m.finish i st payload) m

/-! ### Transactions and closing (R496, R497, R519) -/

/-- Roll back the open transaction: its shadow is discarded, counted, event 492 (R519). -/
def Module.rollback (m : Module) : Module :=
  ((m.onSet fun s => { s with txn := none }).bump 0x000238).raise 492

/-- Close a context at the module (R496, R497): its uncommitted transaction rolls back, its accepted commands run on
unheard, its bulk output is abandoned, its pages return to HOST; event 481. -/
def Module.closeCtx (c : Nat) (m : Module) : Module :=
  match m.ctx? c with
  | none => m
  | some x =>
    let m := match m.set.txn with
      | some t => if t.owner = c && t.committing.isNone then m.rollback else m
      | none => m
    let gone := (m.cmd.bulkOut.filter (·.ctx = c)).map (·.id)
    let pages := (m.cmd.outst.filter fun o => o.id ∈ gone).flatMap (·.pages)
    let m := m.onCmd fun d =>
      { d with bulkOut := d.bulkOut.filter (·.ctx ≠ c)
               outst := (d.outst.filter fun o => !(o.id ∈ gone)).map fun o =>
                 if o.ctx = c then { o with live := false } else o }
    ((m.ownPages (x.given ++ pages) .host).putCtx c none).cloPlace.raise 481

/-! ### Taking a request (R486 to R503) -/

/-- What a command's own rules answer. -/
inductive Resp where
  /-- completes at once with DONE -/
  | done (payload : Bytes) (m : Module)
  /-- completes at once with another status -/
  | fail (st : Status) (m : Module)
  | failWith (st : Status) (payload : Bytes) (m : Module)
  /-- ACCEPTED, then DONE within the same step (a flash write, a block's step) -/
  | late (payload : Bytes) (m : Module)
  /-- ACCEPTED; the final reply comes with a later step. `data` is held for it, with window pages. -/
  | wait (data : Bytes) (pages : List Nat) (m : Module)
  /-- as `wait`, for a command CMD_ABORT cannot stop: it waits for none of the instants R502 lists under result 1, so it
  executes and answers result 4 (DEDUCED, log entry 26) -/
  | waitFixed (data : Bytes) (pages : List Nat) (m : Module)
  /-- completes at once, and then something follows the reply -/
  | doneThen (payload : Bytes) (m : Module) (after : Module → Module)
  | failThen (st : Status) (m : Module) (after : Module → Module)
  /-- as `late`, and then something follows the reply -/
  | lateThen (payload : Bytes) (m : Module) (after : Module → Module)
  /-- an export: delivered through the bulk window (R526) -/
  | export_ (data : Bytes) (slot : Option Nat) (m : Module)

/-- The opcodes taken urgently, and their conditions (R501). -/
def urgentOk (op : Nat) (p : Bytes) : Bool :=
  if op = 0x0011 then decide (byteAt p 0 = 2 ∧ 1 ≤ p.length)
  else if op = 0x040A then decide (field p 0 4 = 0 ∧ 4 ≤ p.length)
  else if op = 0x0500 then decide (field p 0 4 = 0 ∧ 4 ≤ p.length)
  else decide (op ∈ [0x0004, 0x0509, 0x050B, 0x0604, 0x0605, 0x0112, 0x0807])

/-- Bulk packets, which do not count under R498 (R523). -/
def isBulkOp (op : Nat) : Bool := decide (op = 0x0A10 ∨ op = 0x0A11)

/-- A drop under R493: counted, event 483 once per cycle, the eighth in a row closes the context. -/
def Module.macDrop (c : Nat) (m : Module) : Module :=
  let m := (m.bump 0x000224).raiseOnce 483
  match m.ctx? c with
  | some x => if x.macFails + 1 ≥ 8 then m.closeCtx c else m.updCtx c fun y => { y with macFails := y.macFails + 1 }
  | none => m

/-- No request reaches the module or is answered: it has no authentic image (R678), or, outside local mode, its ring address
clashes or it has none (R549). -/
def Module.deaf (m : Module) : Bool := m.upd.dead || (!m.rng.local_ && (m.rng.dup || decide (63 < m.rng.addr)))

/-- The checks every request meets first (R493, R494, R499), and the time it is taken up: none if it goes no further. -/
def Module.gate (op : Nat) (r : Req) (m0 : Module) : Module × Bool :=
  let m := m0.tick r.t
  if m.deaf then (m, false)
  else if m.wantTrailer op r ≠ r.trailer then (m.macDrop r.ctx, false)
  else
    let dup := m.cmd.outst.any fun o => o.ctx = r.ctx && o.tag = r.tag && o.live
    match m.ctx? r.ctx with
    | none => if dup then ((m.bump 0x00022C).raise 485, false) else (m, true)
    | some c =>
      let m := m.updCtx r.ctx fun x => { x with macFails := 0, lastReq := m.sys.clock }
      if r.seq ≤ c.highSeq then
        match c.done.find? fun d => d.seq = r.seq && d.tag = r.tag && d.opcode = op with
        | some d => (d.replies.foldl (fun m p => m.emit (.reply r.ctx p)) m, false)
        | none => ((m.bump 0x000228).raiseOnce 484, false)
      else if dup then ((m.bump 0x00022C).raise 485, false)
      else (m.updCtx r.ctx fun x => { x with highSeq := r.seq }, true)

/-- The status that the queues refuse with, if any (R498, R501). -/
def Module.queueRefusal (op : Nat) (r : Req) (m : Module) : Option Status :=
  if r.urgent then
    if !urgentOk op r.payload then some .badParam
    else if (m.cmd.outst.filter (·.urgent)).length ≥ 16 then some .queueFull
    else none
  else if isBulkOp op then none
  else if (m.cmd.outst.filter fun o => !o.urgent && o.ctx = r.ctx && o.live).length ≥ 64
      || (m.cmd.outst.filter fun o => !o.urgent).length ≥ 1024 then some .queueFull
  else none

/-- The command as the interpreter holds it. -/
def Module.newOutst (op : Nat) (r : Req) (m : Module) : Outst :=
  { id := m.cmd.nextId, ctx := r.ctx, tag := r.tag, opcode := op, seq := r.seq, urgent := r.urgent, payload := r.payload }

/-- The final reply of a command that completes as it is taken. -/
def Module.reply (o : Outst) (st : Status) (payload : Bytes) (m : Module) : Module :=
  let (o, m) := m.sendReply o st false payload
  m.keepDone o

/-- Complete a command as it is taken: one final reply, or bulk output where the payload does not fit (R526). -/
def Module.completeNow (o : Outst) (st : Status) (payload : Bytes) (m : Module) : Module :=
  if payload.length > m.replyRoom o.ctx then m.startBulk o st payload none else m.reply o st payload

/-- Reply as the command's own rules answer (R500). -/
def answerResp (o : Outst) : Resp → Module
  | .done p m => m.completeNow o .done p
  | .fail st m => m.reply o st []
  | .failWith st p m => m.reply o st p
  | .late p m => let (o, m) := m.sendReply o .accepted true []; m.completeNow o .done p
  | .wait d ps m =>
    let (o, m) := m.sendReply { o with data := d, pages := ps } .accepted true []
    (m.ownPages ps (.command o.id)).putOutst o
  | .waitFixed d ps m =>
    let (o, m) := m.sendReply { o with data := d, pages := ps, fixed := true } .accepted true []
    (m.ownPages ps (.command o.id)).putOutst o
  | .doneThen p m f => f (m.completeNow o .done p)
  | .failThen st m f => f (m.reply o st [])
  | .lateThen p m f => let (o, m) := m.sendReply o .accepted true []; f (m.completeNow o .done p)
  | .export_ d slot m => m.startBulk o .done d slot

/-- Take a request: the packet checks, the queues, then the command's own rules. From ACTIVATING on no command is taken up,
and a mode request completes with BUSY (R691, R693). -/
def Module.request (op : Nat) (body : Req → Module → Resp) (r : Req) (m0 : Module) : Module :=
  match m0.gate op r with
  | (m, false) => m
  | (m, true) =>
    let o := m.newOutst op r
    let m := m.onCmd fun d => { d with nextId := d.nextId + 1 }
    match m.queueRefusal op r with
    | some .queueFull => ((if r.urgent then m.raise 487 else m.raiseOnce 486).bump 0x000230).reply o .queueFull []
    | some st => m.reply o st []
    | none =>
      if m.upd.state ≠ .activating then answerResp o (body r m)
      else if op = 0x0011 ∨ op = 0x0012 then m.reply o .busy []
      else m.putOutst o

/-- The checks of a request with a fixed payload length: BAD_LENGTH, DENIED, then WRONG_MODE in BOOT. -/
def Module.basic (r : Req) (len : Nat) (p : Priv) (m : Module) (k : Resp) : Resp :=
  if r.payload.length ≠ len then .fail .badLength m
  else if m.lacks r.ctx p then .fail .denied m
  else if m.inBoot then .fail .wrongMode m
  else k

/-- The checks of a request in the order of R216, R440, R477 and R604: BAD_LENGTH, BAD_PARAM, DENIED, then WRONG_MODE in
BOOT. -/
def Module.checks (r : Req) (len : Nat) (ok : Bool) (p : Priv) (m : Module) (k : Resp) : Resp :=
  if r.payload.length ≠ len then .fail .badLength m
  else if !ok then .fail .badParam m
  else if m.lacks r.ctx p then .fail .denied m
  else if m.inBoot then .fail .wrongMode m
  else k

/-- Counter registers read and cleared together, u32 each. -/
def Module.readCounters (offs : List Nat) (m : Module) : Bytes × Module :=
  (offs.flatMap fun o => leBytes 4 (m.counter o), offs.foldl (fun m o => m.clearCounter o) m)

/-- The number of the command now being taken: what a waiting meaning keeps. -/
def Module.thisId (m : Module) : Nat := m.cmd.nextId - 1

end Sys2Proof.Machine
end

