-- ==== Sys2Proof/Machine/CloOps.lean ====
section
/-! DEFINITION. Machine/CloOps.lean: appending to the cloth record (R628 to R634). -/
namespace Sys2Proof.Machine

/-- Bytes an entry takes in the ring: header and padded body (R629). -/
def CloEntry.size (e : CloEntry) : Nat := 16 + ceilDiv e.body.length 8 * 8

/-- The newest entries that fit 4 GiB (R628). -/
def cloTrim : Nat → List CloEntry → List CloEntry
  | _, [] => []
  | room, e :: es => if e.size ≤ room then e :: cloTrim (room - e.size) es else []

/-- Entries of a span, from its newest back to the SNAP_HEAD of a pick (R640). -/
def spanFrom (pick : Nat) : List CloEntry → List CloEntry
  | [] => []
  | e :: es => if e.type = 4 && e.pick = pick then [e] else e :: spanFrom pick es

/-- Entries of SNAP_HEAD, newest first, of snapshots begun before an instant. -/
def headsBefore (t : Nat) (es : List CloEntry) : List CloEntry := es.filter fun e => e.type = 4 && decide (e.at_ < t)

def entriesSize (es : List CloEntry) : Nat := es.foldl (fun a e => a + e.size) 0

/-- The oldest entries, of a list oldest first, that fit a room. -/
def fitOldest : Nat → List CloEntry → List CloEntry
  | _, [] => []
  | room, e :: es => if e.size ≤ room then e :: fitOldest (room - e.size) es else []

/-- A span held to the 2 GiB of the buffer (R640): its start moves to later snapshots, never past the newest begun before
the trigger; from there it ends when the buffer is full. -/
def Freeze.fit (f : Freeze) : Freeze :=
  if entriesSize f.entries ≤ 0x80000000 then f
  else
    let heads := (headsBefore f.at_ f.entries).reverse.drop 1
    match heads.find? fun h => entriesSize (spanFrom h.pick f.entries) ≤ 0x80000000 with
    | some h => { f with first := h.pick, entries := spanFrom h.pick f.entries, preShort := true }
    | none =>
      let f := match heads.getLast? with
        | some h => { f with first := h.pick, entries := spanFrom h.pick f.entries, preShort := true }
        | none => f
      { f with entries := (fitOldest 0x80000000 f.entries.reverse).reverse, postShort := true, full := true }

/-- Event 423 for a flag newly set (R670). -/
def Module.shortEvents (old new : Freeze) (m : Module) : Module :=
  (m.raiseIf (!old.preShort && new.preShort) 423).raiseIf (!old.postShort && new.postShort) 423

/-- A running capture takes an entry (R640). -/
def Module.captureAdd (e : CloEntry) (m : Module) : Module :=
  match m.clo.capture with
  | none => m
  | some f =>
    if f.full then m
    else
      let g := { f with entries := e :: f.entries }.fit
      (m.onClo fun c => { c with capture := some g }).shortEvents f g

/-- Put an entry at the head of the ring; the oldest are overwritten (R628). -/
def Module.cloPut (e : CloEntry) (m : Module) : Module :=
  let ring := cloTrim 0x100000000 (e :: m.clo.ring)
  let tail := match ring.getLast? with
    | some x => x.pick
    | none => 0
  (m.onClo fun c => { c with ring := ring, headPick := e.pick, tailPick := tail }).captureAdd e

/-- Append an entry, after the GAP entry that is due (R634); nothing in BOOT, before pick 0 (R628). -/
def Module.cloAppendAt (t type flags pick : Nat) (body : Bytes) (m : Module) : Module :=
  if !m.clo.running || m.inBoot then m
  else
    let m := match m.clo.gap with
      | some (a, b) =>
        (m.cloPut { type := 7, pick := a, body := leBytes 8 a ++ leBytes 8 b, at_ := t }).onClo fun c => { c with gap := none }
      | none => m
    m.cloPut { type := type, flags := flags, pick := pick, body := body, at_ := t }

def Module.cloAppend (type flags pick : Nat) (body : Bytes) (m : Module) : Module :=
  m.cloAppendAt m.pck.instant type flags pick body

/-- An entry that finds the queue full is not appended: counted, event 417 once per cycle (R634). -/
def Module.cloMiss (pick : Nat) (m : Module) : Module :=
  if !m.clo.running || m.inBoot then m
  else ((m.onClo fun c => { c with gap := match c.gap with
    | some (a, b) => some (min a pick, max b pick)
    | none => some (pick, pick) }).bump 0x0B008C).raiseOnce 417

/-- An INPUT entry (R632). -/
def Module.cloInput (subtype pick : Nat) (content : Bytes) (m : Module) : Module :=
  m.cloAppend 3 0 pick (leBytes 1 subtype ++ zeros 3 ++ content)

/-- INPUT subtype 6: balance start or stop of a monitor (R152, R632). -/
def Module.cloBalance (chain addr source mask dur start pick : Nat) (m : Module) : Module :=
  m.cloInput 6 pick (leBytes 1 chain ++ leBytes 1 addr ++ leBytes 1 source ++ zeros 1 ++ leBytes 2 mask
    ++ leBytes 2 dur ++ leBytes 4 start)

end Sys2Proof.Machine
end

