-- ==== Sys2Proof/Machine/AngOps.lean ====
section
/-! DEFINITION. Machine/AngOps.lean: the angle unit and the treadle scheduler as operations: advancing the angles,
corrections, classification of edges, loss and change of source (R55 to R80). -/
namespace Sys2Proof.Machine

/-- One mains cycle in angle units with fraction. -/
def fullCycle : Nat := 2 ^ 48
/-- One AU. -/
def au : Nat := 2 ^ 32

/-- The event grid of 6.25 ns (R55): the first instant on it from `t` on. -/
def onGrid (t : Nat) : Nat := ceilDiv t 25 * 25

/-- The quotient rounded to the nearest integer; 0 by nothing. -/
def nearDiv (a b : Nat) : Nat := if b = 0 then 0 else (2 * a + b) / (2 * b)

/-- Cycle time of a frequency in mHz, and back. -/
def cycleOfFreq (mHz : Nat) : Nat := nearDiv 4000000000000 mHz
def freqOfCycle (c : Nat) : Nat := nearDiv 4000000000000 c

def Module.freqMin (m : Module) : Nat := m.setting 0x0907 * 10
def Module.freqMax (m : Module) : Nat := m.setting 0x0908 * 10
/-- Picks per cycle of a PICK_K code (R92). -/
def pickKOf (code : Nat) : Nat := [1, 2, 4, 5, 8, 10, 16, 20, 40, 80].getD code 80
def Module.pickK (m : Module) : Nat := pickKOf (m.setting 0x0910)

/-- The position of pick slot `i`, in AU (R84). -/
def slotPos (k off i : Nat) : Nat := (off + i * 65536 / k) % 65536

/-- The cycle time by which the angles run, that of the frequency estimate (R61, R64); FREE_FREQ before any (R71). -/
def Module.runCycle (m : Module) : Nat := if m.ang.cycle = 0 then cycleOfFreq (m.setting 0x0909) else m.ang.cycle

/-- Angle passed in `dt` at a cycle time. -/
def angleIn (dt c : Nat) : Nat := if c = 0 then 0 else dt * fullCycle / c

/-- Signed difference of two angles, from −half to half a cycle. -/
def angleDiff (a b : Nat) : Int :=
  let d := (a + fullCycle - b % fullCycle) % fullCycle
  if d < fullCycle / 2 then (d : Int) else (d : Int) - (fullCycle : Int)

/-- A signed angle rounded to the nearest whole AU. -/
def roundAu (d : Int) : Int := (d + (au / 2 : Nat)) / (au : Nat)

/-- Advance both angles to time `t`: the treadle angle stands while held, and runs at 98 % while slewing (R74, R76). Both
stand at 0 in ACQUIRING, which no source drives (R73). -/
def Module.angTo (t : Nat) (m : Module) : Module :=
  let a := m.ang
  let adv := if a.state = .acquiring then 0 else angleIn (t - a.at_) m.runCycle
  let adv98 := adv * 98 / 100
  (m.tick t).onAng fun a =>
    { a with
      tracked := (a.tracked + adv) % fullCycle
      treadle := if a.held then a.treadle
                 else if a.state = .slewing then (a.treadle + adv98) % fullCycle
                 else (a.treadle + adv) % fullCycle
      slew := if a.state = .slewing then a.slew - (adv - adv98) else a.slew
      at_ := max a.at_ t }

/-- The angles as they stand at the present instant (R96, R102). -/
def Module.angNow (m : Module) : Ang := (m.angTo m.sys.clock).ang

/-- The pick slots whose positions a forward jump of `d` from angle `old` passes, in angle order (R77). -/
def passedSlots (k off old d : Nat) : List Nat :=
  let dist := fun i => (slotPos k off i * au + fullCycle - old % fullCycle) % fullCycle
  ((List.range k).filter fun i => 0 < dist i && dist i ≤ d).mergeSort fun i j => dist i ≤ dist j

/-- The pick of slot `i` is not still to come as the treadle angle stands: its trigger frames have left (R87), it fired less
than half a cycle ago (R77). -/
def Module.slotTaken (i : Nat) (m : Module) : Bool :=
  m.pck.placed.any (·.slot = i) || (decide (m.pck.slot = i) && decide (2 * (m.ang.at_ - m.pck.instant) < m.runCycle))

/-- While a commit waits for R90, the schedule in force ends with slot K − 1. -/
def Module.slotEnded (i : Nat) (m : Module) : Bool := m.slotCommit.isSome && (decide (m.pck.nextSlot = 0) || decide (i < m.pck.nextSlot))

/-- The treadle angle jumps forward; the picks it passes are due at once, LATE (R77). A position within the event step of
6.25 ns at which the jump falls fires before it (R79) and is not passed. A jump past 65,535 AU passes what falls at the
start of the cycle, an activation instant among it (R83). -/
def Module.jump (d : Nat) (m : Module) : Module :=
  let step := angleIn 25 m.runCycle
  let ps := if m.pck.running && decide (step < d) then
      (passedSlots m.pickK (m.setting 0x0911) (m.ang.treadle + step) (d - step)).filter fun i => !m.slotTaken i && !m.slotEnded i
    else []
  (m.onAng fun a =>
    { a with treadle := (a.treadle + d) % fullCycle
             passedZero := a.passedZero || decide (step < d ∧ a.treadle + step < fullCycle ∧ fullCycle ≤ a.treadle + d) }).onPck fun p =>
    { p with late := p.late ++ ps.filter (fun i => !(i ∈ p.late)) }

/-- An event fires LATE (R77): counted in ANG_CNT_LATE, event 45 once per cycle. -/
def Module.lateEvent (m : Module) : Module := (m.bump 0x04005C).raiseOnce 45

/-- Event 35 is raised where LOCKED is reached after ACQUIRING, SLEWING or EXTRAPOLATING (R107). -/
def Module.nowLocked (m : Module) : Module :=
  let old := m.ang.state
  (m.onAng fun a => { a with state := .locked }).raiseIf
    (decide (old = .acquiring ∨ old = .slewing ∨ old = .extrapolating)) 35

/-- A correction of the tracked angle to `a` while not slewing (R76): the treadle angle jumps with a forward one, and
holds for a backward one until the tracked angle catches up. -/
def Module.correctTreadle (a : Nat) (d : Int) (m : Module) : Module :=
  if m.ang.held then
    let gap := angleDiff m.ang.treadle a
    let m := m.onAng fun x => { x with tracked := a }
    if gap ≤ 0 then (m.onAng fun x => { x with held := false }).jump (-gap).toNat else m
  else if 0 ≤ d then
    (m.jump d.toNat).onAng fun x => { x with tracked := a }
  else
    let m := m.onAng fun x => { x with tracked := a, held := true }
    -- a hold shorter than one event step of 6.25 ns is not counted
    if (-d).toNat * m.runCycle < 25 * fullCycle then m
    else ((m.bump 0x040060).raise 46).onPck fun p => { p with heldNext := true }

/-- A correction while slewing (R74): the difference still to be closed changes; a forward correction that brings the
tracked angle level or ahead ends the slew with a jump. -/
def Module.correctSlew (a : Nat) (d : Int) (m : Module) : Module :=
  let rest : Int := (m.ang.slew : Int) - d
  let m := m.onAng fun x => { x with tracked := a, slew := rest.toNat }
  if rest ≤ 0 then (m.jump (-rest).toNat).nowLocked else m

/-- A correction of the active source's tracked angle (R74, R76, R103). -/
def Module.correct (a kind : Nat) (m : Module) : Module :=
  let d := angleDiff a m.ang.tracked
  let m := m.onAng fun x => { x with corr := roundAu d, corrKind := kind }
  if m.ang.state = .slewing then m.correctSlew a d else m.correctTreadle a d

/-! ### Sources -/

def Module.tracker (src : Nat) (m : Module) : Tracker := if src = 1 then m.ang.tooth else m.ang.mains
def Module.updTracker (src : Nat) (f : Tracker → Tracker) (m : Module) : Module :=
  m.onAng fun a => if src = 1 then { a with tooth := f a.tooth } else { a with mains := f a.mains }

/-- Teeth per cycle of a source (R57). -/
def Module.teeth (src : Nat) (m : Module) : Nat := if src = 1 then m.setting 0x0904 else 2
/-- The source has an index that the tooth rules judge (R57, R67). -/
def Module.indexed (src : Nat) (m : Module) : Bool := src = 1 && decide (m.setting 0x0905 = 1)

/-- Angle of tooth 0 of a source with an index (R61). -/
def Module.tooth0 (src : Nat) (m : Module) : Nat :=
  ((if src = 1 then m.setting 0x0906 else 0) + m.setting 0x090B) % 65536 * au

/-- Free-run is always valid (R59). -/
def Module.sourceValid (src : Nat) (m : Module) : Bool :=
  if src = 3 then true else if src = 1 ∨ src = 2 then (m.tracker src).valid else false

/-- Angle of tooth `k` (R61). -/
def toothAngle (base k n : Nat) : Nat := (base + k % n * 65536 / n * au) % fullCycle

/-- The tracked angle of a source at time `t`: free-run keeps none of its own and takes the treadle angle (R59); a
tooth source without an index keeps the tracked angle (R66). -/
def Module.sourceAngle (src t : Nat) (m : Module) : Nat :=
  if src = 3 then m.ang.treadle
  else if src = 1 && !m.indexed 1 then m.ang.tracked
  else
    let tr := m.tracker src
    let at_ := tr.last.getD t
    (toothAngle tr.base tr.count (m.teeth src) + angleIn (t - at_) (tr.cycle.getD 0)) % fullCycle

/-- The cycle time and frequency a source gives. -/
def Module.sourceCycle (src : Nat) (m : Module) : Nat :=
  if src = 3 then cycleOfFreq (m.setting 0x0909) else (m.tracker src).cycle.getD 0
def Module.sourceFreq (src : Nat) (m : Module) : Nat :=
  if src = 3 then m.setting 0x0909 else freqOfCycle ((m.tracker src).cycle.getD 0)

/-- Make a source active: event 32 where it changes (R73). -/
def Module.activate (src t : Nat) (m : Module) : Module :=
  let c := m.sourceCycle src
  let f := m.sourceFreq src
  let m := if src = 1 && !m.indexed 1 then
      -- the phase is kept: tooth 0 is laid where the tracked angle puts it (R66)
      m.updTracker 1 fun tr =>
        let back := angleIn (t - tr.last.getD t) (tr.cycle.getD 0) + (toothAngle 0 tr.count (m.teeth 1))
        { tr with base := (m.ang.tracked + 2 * fullCycle - back % fullCycle) % fullCycle }
    else m
  let ch := m.ang.active ≠ src
  (m.onAng fun a => { a with active := src, cycle := c, freq := f,
                             rocof := if src = 3 then 0 else (if src = 1 then a.tooth else a.mains).rocof,
                             revert := 0 }).raiseIf ch 32

/-- A switch of the active source at time `t` (R74): the treadle angle stays, jumps forward, or slews. -/
def Module.switchTo (src t : Nat) (m : Module) : Module :=
  let m := m.angTo t
  let a := m.sourceAngle src t
  let da := (a + fullCycle - m.ang.treadle) % fullCycle
  let m := m.activate src t
  let m := m.onAng fun x => { x with tracked := a, held := false, corr := roundAu (angleDiff a x.treadle), corrKind := 5 }
  if da = 0 then m.nowLocked
  else if da ≤ 4096 * au then (m.jump da).nowLocked
  else m.onAng fun x => { x with state := .slewing, slew := fullCycle - da }

/-- The cycle time in HOLDOVER: that of the last estimate clamped to the range, or of FREE_FREQ without one (R71). -/
def Module.holdCycle (m : Module) : Nat :=
  cycleOfFreq (if m.ang.freq = 0 then m.setting 0x0909 else max m.freqMin (min m.freqMax m.ang.freq))

/-- HOLDOVER: no active source; the treadle angle goes on from its value (R71, R73, R75), the tracked angle with it. -/
def Module.enterHoldover (m : Module) : Module :=
  let ch := m.ang.active ≠ 0
  ((m.onAng fun a => { a with state := .holdover, active := 0, cycle := m.holdCycle, held := false, slew := 0,
                              tracked := a.treadle }).raiseIf ch 32).raise 36

/-- Leave ACQUIRING on a source: both angles start on it (R73); on free-run at 0 AU (R59). -/
def Module.acquire (src t : Nat) (m : Module) : Module :=
  let m := m.angTo t
  let a := if src = 3 then 0 else m.sourceAngle src t
  let m := m.activate src t
  (m.onAng fun x => { x with tracked := a, treadle := a, held := false }).nowLocked

/-- The first of S_P and S_F that is valid. -/
def Module.validSource (m : Module) : Option Nat :=
  if m.sourceValid (m.setting 0x0900) then some (m.setting 0x0900)
  else if m.sourceValid (m.setting 0x0901) then some (m.setting 0x0901)
  else none

/-- Complete a waiting ANGLE_SOURCE_FORCE whose source is valid: switch to it (R73, R94). -/
def Module.judgeForce (t : Nat) (m : Module) : Module :=
  match m.ang.waitForce with
  | some f =>
    if m.sourceValid f.source && m.ang.state ≠ .acquiring then
      let m := m.onAng fun a => { a with force := some f.source, waitForce := none }
      let m := if m.ang.active = f.source then m else m.switchTo f.source t
      m.finish f.cmd .done []
    else m
  | none => m

/-- Entry into DISPATCH or FORMATION (R94): a force is released; one that still waits completes with WRONG_MODE. -/
def Module.forceEnd (m : Module) : Module :=
  let id := m.ang.waitForce.map (·.cmd)
  (m.onAng fun a => { a with force := none, waitForce := none }).finishOpt id .wrongMode []

/-- What the validity of the sources decides (R73): the end of ACQUIRING on S_P, the exits of HOLDOVER, a waiting
force. -/
def Module.judgeSources (t : Nat) (m : Module) : Module :=
  let m := m.judgeForce t
  if m.ang.state = .acquiring then
    if m.sourceValid (m.setting 0x0900) then m.acquire (m.setting 0x0900) t else m
  else if m.ang.state = .holdover then
    match m.validSource with
    | some s => m.switchTo s t
    | none => m
  else m

/-- What follows when the active source is lost (R73): the other configured source, or HOLDOVER. -/
def Module.activeLost (src t : Nat) (m : Module) : Module :=
  let p := m.setting 0x0900
  let f := m.setting 0x0901
  if p ≠ src && m.sourceValid p then m.switchTo p t
  else if f ≠ src && m.sourceValid f then m.switchTo f t
  else (m.angTo t).enterHoldover

/-- A source is declared lost (R63, R70): event 33, LOSS_CAUSE, ANG_CNT_LOSS; it is watched afresh (R62); a force that holds
it ends (R94). A source that has no frequency estimate is not yet classified, so there is nothing to lose: it is only
watched afresh. -/
def Module.declareLost (src cause t : Nat) (m : Module) : Module :=
  let was := (m.tracker src).valid || (m.tracker src).cycle.isSome
  let m := m.updTracker src fun tr => { base := tr.base, rmsOk := tr.rmsOk }
  let m := if was then
      ((m.onAng fun a =>
        { a with lossCause := cause, revert := if src = m.setting 0x0900 then 0 else a.revert
                 force := if a.force = some src then none else a.force }).raise 33).bump 0x040064
    else m
  if m.ang.active = src then m.activeLost src t else m

/-- ROCOF in mHz/s (R62): from cycle time `cp` to cycle time `c`, the updates `dt` apart; rounded to the nearest. -/
def rocofOf (cp c dt : Nat) : Int :=
  let k : Nat := nearDiv (16000000000000000000000 * ((cp : Int) - c).natAbs) (c * cp * dt)
  if c ≤ cp then k else -k

/-- The cycle predicted to follow (R62): its frequency is that of the last plus ROCOF times one cycle. -/
def nextCycle (cp c dt : Nat) : Nat :=
  let den : Int := cp * dt + c * ((cp : Int) - c)
  if den ≤ 0 then c else nearDiv (c * cp * dt) den.toNat

/-- A new frequency estimate of a source (R62, R70): the rate of change, the predicted cycle corrected for it, by which the
gates of R63 run, the range judgement. The angles run at the estimate itself (R61). -/
def Module.estimate (src c t : Nat) (m : Module) : Module :=
  let tr := m.tracker src
  let f := freqOfCycle c
  let cp := tr.cycle.getD c
  let dt := t - tr.upd
  let roc := rocofOf cp c dt
  let out := decide (f < m.freqMin ∨ m.freqMax < f)
  let act := m.ang.active = src
  let pred := nextCycle cp c dt
  let m := m.updTracker src fun x =>
    { x with cycle := some c, pred := pred, rocof := roc, upd := t, outRun := if out then x.outRun + 1 else 0 }
  let m := if act ∨ m.ang.state = .acquiring then m.onAng fun a => { a with cycle := c, freq := f, rocof := roc } else m
  let m := m.raiseIf (act && out && tr.outRun = 0) 41
  let m := m.raiseIf (act && decide (5000 < roc.natAbs)) 42
  if out && decide (1 ≤ tr.outRun) then m.declareLost src 3 t else m

/-- A first measurement ends (R62): kept if its frequency lies in range, else discarded. -/
def Module.firstEstimate (src c t : Nat) (m : Module) : Module :=
  let f := freqOfCycle c
  if m.freqMin ≤ f ∧ f ≤ m.freqMax then
    let m := m.updTracker src fun x =>
      { x with cycle := some c, pred := c, rocof := 0, upd := t, count := 0, last := some t, index := some t, meas := none,
               measCount := 0, dirty := false, goodTeeth := 0, goodCycles := 0, outRun := 0 }
    if m.ang.active = src ∨ m.ang.state = .acquiring then m.onAng fun a => { a with cycle := c, freq := f, rocof := 0 } else m
  else m.updTracker src fun x => { x with meas := none, measCount := 0 }

/-- An index mismatch (R65): counted and reported for the active source; the third in a row loses the source. -/
def Module.indexMismatch (src t : Nat) (m : Module) : Module :=
  let act := m.ang.active = src
  let m := if act then (m.bump 0x040058).raise 37 else m
  let run := (m.tracker src).missRun + 1
  let m := m.updTracker src fun x => { x with missRun := run, dirty := true, goodCycles := 0, goodTeeth := 0 }
  if run ≥ 3 then m.declareLost src 2 t else m

/-- Validity of a source after a change (R69). -/
def Module.qualify (src : Nat) (m : Module) : Module :=
  let n := m.teeth src
  let inRange := fun (tr : Tracker) =>
    let f := freqOfCycle (tr.cycle.getD 0)
    decide (m.freqMin ≤ f ∧ f ≤ m.freqMax)
  m.updTracker src fun tr =>
    let ok := if src = 2 then decide (4 ≤ tr.goodTeeth) && tr.rmsOk
      else if m.indexed 1 then decide (2 ≤ tr.goodCycles) else decide (2 * n ≤ tr.goodTeeth)
    { tr with valid := tr.valid || (ok && tr.cycle.isSome && inRange tr) }

/-- The source's angle at time `t`, where it was `a` at time `te` (R61). -/
def Module.since (src te t a : Nat) (m : Module) : Nat := (a + angleIn (t - te) (m.sourceCycle src)) % fullCycle

/-- An index within the window of a tooth, once the source has an estimate (R65): `te` the time of the tooth edge at which it
is taken, `t` the time of the decision. The estimate is measured between these tooth edges (DEDUCED from R65 and the
worked example: an index edge is taken at the tooth edge nearest to it). -/
def Module.judgeIndex (src te t : Nat) (m : Module) : Module :=
  let n := m.teeth src
  let tr := m.tracker src
  if tr.count + 1 ≥ n && tr.count ≤ n + 1 then
    let base := m.tooth0 src
    let act := m.ang.active = src
    let m := m.updTracker src fun x =>
      { x with count := 0, base := base, missRun := 0, index := some te,
               goodCycles := if x.goodTeeth = n then x.goodCycles + 1 else 0, goodTeeth := 0, dirty := false }
    let d := angleDiff (m.since src te t base) m.ang.tracked
    let m := if !tr.dirty then
        match tr.index with
        | some t0 => m.estimate src (te - t0) t
        | none => m
      else m
    let m := if act && m.ang.active = src then
        (m.correct (m.since src te t base) 4).raiseIf (decide (d.natAbs * 2 * n ≥ fullCycle)) 38
      else m
    m.qualify src
  else m.indexMismatch src t

/-- The reference index (R65): tooth count 0, the source's angle at tooth 0, the first measurement starts (R62). -/
def Module.refIndex (src te : Nat) (m : Module) : Module :=
  let base := m.tooth0 src
  m.updTracker src fun x => { x with ref := true, count := 0, missRun := 0, base := base, meas := some te, measCount := 0 }

/-- An index edge taken at the tooth edge of time `te`, within ¼ T of it (R65). -/
def Module.takeIndex (src te t : Nat) (m : Module) : Module :=
  let tr := m.tracker src
  let n := m.teeth src
  if !tr.ref then m.refIndex src te
  else if tr.cycle.isSome then m.judgeIndex src te t
  else match tr.meas with
    | none => m.updTracker src fun x => { x with meas := some te, measCount := 0, count := 0 }
    | some t0 =>
      if tr.measCount + 1 ≥ n && tr.measCount ≤ n + 1 then m.firstEstimate src (te - t0) te
      else m.updTracker src fun x => { x with meas := none, measCount := 0 }

/-- Accept a tooth edge of time `te`, `k` teeth on (R63): the source's angle, and where it is active the correction of its
kind; a tooth count without an index wraps (R62), and one with an index that runs to TOOTH_COUNT + 2 is a mismatch (R65). A
cycle whose tooth 0 was synthesised has no measured start: it gives no estimate (R62). -/
def Module.acceptTooth (src te t k kind : Nat) (m : Module) : Module :=
  let n := m.teeth src
  let m := m.updTracker src fun x =>
    { x with prev := x.last, last := some te,
             count := if src = 2 then bit (!x.rising) else x.count + k, dirty := x.dirty || decide (1 < k),
             goodTeeth := if k = 1 then x.goodTeeth + 1 else bit (src = 1) }
  let tr := m.tracker src
  let m := if !m.indexed src && src = 1 && decide (n ≤ tr.count) then
      let m := m.updTracker src fun x => { x with count := x.count - n, index := some te, dirty := decide (n < x.count) }
      match tr.index with
      | some t0 => if tr.dirty then m else m.estimate src (te - t0) t
      | none => m
    else m
  let m := if m.ang.active = src then
      m.correct (m.since src te t (toothAngle (m.tracker src).base (m.tracker src).count n)) kind
    else m
  let m := if m.indexed src && decide (n + 2 ≤ (m.tracker src).count) then
      (m.updTracker src fun x => { x with count := x.count - n, index := none }).indexMismatch src t
    else m
  m.qualify src

/-- An edge of a source that has no frequency estimate (R62): only the first measurement goes on. -/
def Module.unclassified (src te : Nat) (m : Module) : Module :=
  let n := m.teeth src
  let m := m.updTracker src fun x => { x with prev := x.last, last := some te, count := x.count + 1 }
  if m.indexed src then m.updTracker src fun x => { x with measCount := x.measCount + 1 }
  else if src = 1 then
    match (m.tracker src).meas with
    | none => m.updTracker src fun x => { x with meas := some te, measCount := 0 }
    | some t0 =>
      if (m.tracker src).measCount + 1 = n then m.firstEstimate src (te - t0) te
      else m.updTracker src fun x => { x with measCount := x.measCount + 1 }
  else m

/-- Classify an edge of time `te` by its time since the last accepted tooth (R63); `t` is the time of the decision. A crossing
of mains out of its gate breaks the run of R69; an early tooth edge is no tooth and breaks none (DEDUCED). -/
def Module.classify (src te t : Nat) (m : Module) : Module :=
  let n := m.teeth src
  let tr := m.tracker src
  let act := m.ang.active = src
  match tr.cycle, tr.last with
  | some _, some t0 =>
    let x := 4 * (te - t0) * n        -- 4 Δ / T, against the predicted cycle
    let p := tr.pred
    if x < 3 * p then
      let m := if src = 2 then m.updTracker 2 fun x => { x with goodTeeth := 0 } else m
      if act then (m.bump 0x040050).raiseOnce 40 else m
    else if x < 5 * p then m.acceptTooth src te t 1 1
    else if x < 9 * p then
      let m := if act then (m.bump 0x040054).raiseOnce 39 else m
      m.acceptTooth src te t 2 2
    else if x < 16 * p then
      let k := (2 * (te - t0) * n + p) / (2 * p)
      let m := if act then m.bumpBy 0x040054 (k - 1) else m
      let m := if act && m.ang.state = .extrapolating then m.nowLocked else m
      m.acceptTooth src te t k 3
    else (m.declareLost src 1 t).unclassified src te
  | _, _ => m.unclassified src te

/-- The interval T against which an index edge is taken (R62, R65). -/
def Module.toothInterval (src : Nat) (m : Module) : Nat :=
  let tr := m.tracker src
  match tr.cycle with
  | some _ => tr.pred / m.teeth src
  | none => match tr.last, tr.prev with
    | some a, some b => a - b
    | _, _ => 0

/-- An index edge farther than ¼ T from its nearest tooth (R65): a mismatch, once the source has a frequency estimate. -/
def Module.farIndex (src t : Nat) (m : Module) : Module :=
  if (m.tracker src).ref && (m.tracker src).cycle.isSome then m.indexMismatch src t else m

/-- The index edges that wait meet the tooth edge after them (R65); a rejected edge is no tooth. -/
def Module.indexAtTooth (src t : Nat) (m : Module) : Module :=
  if (m.tracker src).last ≠ some t then m
  else
    let ws := (m.tracker src).idxWait
    ws.foldl (fun m ti => if 4 * (t - ti) ≤ m.toothInterval src then m.takeIndex src t t else m.farIndex src t)
      (m.updTracker src fun x => { x with idxWait := [] })

/-- The grid index that the head sets at power-on (R81): whole nominal cycles of plant time. -/
def Module.gridStart (m : Module) : Nat :=
  m.plantNow / (if m.setting 0x0908 ≤ 5500 then 20000000 else 16667000)

end Sys2Proof.Machine
end

