-- ==== Sys2Proof/Machine/Angle.lean ====
section
/-! DEFINITION. Machine/Angle.lean: the commands of the angle unit and the treadle scheduler, and the angle requests
(R55 to R96). -/
namespace Sys2Proof.Machine

/-- TOOTH_EDGE (R63, R65). -/
def Module.toothEdge (t : Nat) (m : Module) : Module :=
  (((m.angTo t).classify 1 t t).indexAtTooth 1 t).judgeSources t

def execToothEdge (t : Nat) (s : State) : Host.Outcome State Fault Refusal := s.go (·.toothEdge t)

/-- INDEX_EDGE (R65): taken at the tooth edge nearest to it. Within ¼ T of the tooth before it, it is taken there; within ½ T
that tooth is still the nearest, and it is ignored; else the nearest is the tooth after it, and it waits for that. -/
def Module.indexEdge (t : Nat) (m : Module) : Module :=
  let m := m.angTo t
  if m.setting 0x0905 ≠ 1 then m
  else
    let T := m.toothInterval 1
    let later := m.updTracker 1 fun x => { x with idxWait := x.idxWait ++ [t] }
    let m := match m.ang.tooth.last with
      | none => later
      | some t0 =>
        if 0 < T ∧ 4 * (t - t0) ≤ T then m.takeIndex 1 t0 t
        else if 2 * (t - t0) < T then m.farIndex 1 t
        else later
    m.judgeSources t

def execIndexEdge (t : Nat) (s : State) : Host.Outcome State Fault Refusal := s.go (·.indexEdge t)

/-- The frequency estimate of mains sense at an accepted rising crossing of time `te` (R67). -/
def Module.mainsRising (te t : Nat) (m : Module) : Module :=
  let tr := m.ang.mains
  if tr.last ≠ some te then m
  else
    let m := m.updTracker 2 fun x => { x with index := some te, dirty := false }
    match tr.index with
    | some t0 => if tr.dirty then m else m.estimate 2 (te - t0) t
    | none => m

/-- The filter delay of mains sense, in 0.25 ns (R67, R723): its factory calibration, or nominal, taken as 0, where the
factory data is not valid (DESIGN CHOICE: the nominal delay is not stated). -/
def Module.mainsDelay (m : Module) : Nat := if m.hk.factoryBad then 0 else nsec m.hk.mainsDelay

/-- MAINS_CROSSING (R67, R68): detected at `t`, it fell the filter delay earlier; mains sense never becomes valid on a DC
supply. -/
def Module.mainsCrossing (t : Nat) (rising : Bool) (rms : Nat) (m : Module) : Module :=
  let m := m.angTo t
  if m.hk.j1dc then m
  else
    let ok := decide (m.setting 0x090A ≤ rms)
    let base := m.tooth0 2
    let te := t - m.mainsDelay
    let m := m.updTracker 2 fun x => { x with rmsOk := ok, rising := rising, base := base }
    let m := match m.ang.mains.cycle with
      | none =>
        if rising then
          match m.ang.mains.meas with
          | none => m.updTracker 2 fun x => { x with meas := some te, last := some te }
          | some t0 =>
            m.firstEstimate 2 (te - t0) te
        else m.updTracker 2 fun x => { x with prev := x.last, last := some te }
      | some _ =>
        let m := m.classify 2 te t
        -- the crossings that qualify the source have the voltage (R69)
        let m := if ok then m else m.updTracker 2 fun x => { x with goodTeeth := 0 }
        if rising && m.ang.mains.cycle.isSome then m.mainsRising te t else m
    (m.qualify 2).judgeSources t

def execMainsCrossing (t : Nat) (rising : Bool) (rms : Nat) (s : State) : Host.Outcome State Fault Refusal :=
  s.go (·.mainsCrossing t rising rms)

/-- TOOTH_EXTRAPOLATE (R64): no edge by 2.25 T. -/
def Module.toothExtrapolate (src t : Nat) (m : Module) : Module :=
  let m := m.angTo t
  let tr := m.tracker src
  match tr.cycle, tr.last with
  | some _, some t0 =>
    if 4 * (t - t0) * m.teeth src < 9 * tr.pred then m
    else
      let m := m.updTracker src fun x => { x with dirty := true, goodTeeth := 0 }
      if m.ang.active = src && m.ang.state = .locked then
        (m.onAng fun a => { a with state := .extrapolating }).raise 34
      else m
  | _, _ => m

def execToothExtrapolate (src t : Nat) (s : State) : Host.Outcome State Fault Refusal := s.go (·.toothExtrapolate src t)

/-- TOOTH_TIMEOUT (R63): no edge by 4 T loses the source with cause TOOTH_TIMEOUT. -/
def Module.toothTimeout (src t : Nat) (m : Module) : Module :=
  let m := m.angTo t
  let tr := m.tracker src
  match tr.cycle, tr.last with
  | some _, some t0 => if 4 * (t - t0) * m.teeth src < 16 * tr.pred then m else m.declareLost src 1 t
  | _, _ => m

def execToothTimeout (src t : Nat) (s : State) : Host.Outcome State Fault Refusal := s.go (·.toothTimeout src t)

/-- MAINS_LOW_LOSS (R68): a full cycle below MAINS_MIN_RMS loses mains sense with cause MAINS_LOW. -/
def execMainsLowLoss (t : Nat) (s : State) : Host.Outcome State Fault Refusal :=
  s.go fun m => ((m.angTo t).updTracker 2 fun x => { x with rmsOk := false, goodTeeth := 0 }).declareLost 2 4 t

/-- ACQUIRE_TIMEOUT (R73): 2 s of ACQUIRING have elapsed. -/
def Module.acquireTimeout (t : Nat) (m : Module) : Module :=
  if m.ang.state ≠ .acquiring then m.angTo t
  else match m.validSource with
    | some s => m.acquire s t
    | none => ((m.angTo t).onAng fun a => { a with lossCause := 5 }).enterHoldover

def execAcquireTimeout (t : Nat) (s : State) : Host.Outcome State Fault Refusal := s.go (·.acquireTimeout t)

/-- AUTO_REVERT (R73): back to S_P once it has stayed valid for REVERT_CYCLES cycles, no source being forced. -/
def Module.autoRevert (t : Nat) (m : Module) : Module :=
  let m := m.angTo t
  let p := m.setting 0x0900
  if m.ang.state = .locked && m.ang.active = m.setting 0x0901 && m.ang.active ≠ p && m.setting 0x0902 = 1
      && m.ang.force.isNone && m.sourceValid p && decide (m.setting 0x0903 < m.ang.revert) then
    m.switchTo p t
  else m

def execAutoRevert (t : Nat) (s : State) : Host.Outcome State Fault Refusal := s.go (·.autoRevert t)

/-- SLEW_COMPLETE (R73): the remaining difference has reached 0. -/
def Module.slewComplete (t : Nat) (m : Module) : Module :=
  let m := m.angTo t
  if m.ang.state = .slewing && m.ang.slew = 0 then (m.onAng fun a => { a with treadle := a.tracked }).nowLocked else m

def execSlewComplete (t : Nat) (s : State) : Host.Outcome State Fault Refusal := s.go (·.slewComplete t)

/-- TREADLE_HOLD_END (R76): the tracked angle has caught up with the held treadle angle. -/
def Module.holdEnd (t : Nat) (m : Module) : Module :=
  let m := m.angTo t
  if m.ang.held && decide (angleDiff m.ang.treadle m.ang.tracked ≤ 0) then
    m.onAng fun a => { a with held := false, treadle := a.tracked }
  else m

def execTreadleHoldEnd (t : Nat) (s : State) : Host.Outcome State Fault Refusal := s.go (·.holdEnd t)

/-- TREADLE_CYCLE_START (R56): the grid index counts a cycle; events marked once per cycle may be raised again. A cycle that a
forward jump began starts LATE (R77). -/
def Module.cycleStart (t : Nat) (m : Module) : Module :=
  let m := m.angTo t
  let ok := m.sourceValid (m.setting 0x0900)
  (m.onAng fun a => { a with gridIndex := (a.gridIndex + 1) % 2 ^ 64, cycleStart := m.sys.clock,
                             startLate := a.passedZero, passedZero := false,
                             revert := if ok then a.revert + 1 else 0 }).onEvt fun v => { v with once := [] }

def execTreadleCycleStart (t : Nat) (s : State) : Host.Outcome State Fault Refusal := s.go (·.cycleStart t)

/-- A committed change of the angle sources, or of the rules of reverting, takes effect (R73): REVERT_CYCLES counts from
here. -/
def Module.sourcesChanged (t : Nat) (m : Module) : Module :=
  let p := m.setting 0x0900
  let f := m.setting 0x0901
  let m := m.onAng fun a => { a with revert := 0 }
  if m.ang.force.isSome then m
  else if m.ang.state = .holdover then m.judgeSources t
  else if m.ang.state = .acquiring ∨ m.ang.active = p ∨ m.ang.active = f then m
  else match m.validSource with
    | some s => m.switchTo s t
    | none => (m.angTo t).enterHoldover

/-! ### Requests (R93 to R96) -/

def angStateCode : AngState → Nat
  | .acquiring => 0 | .locked => 1 | .extrapolating => 2 | .slewing => 3 | .holdover => 4

/-- A source is forced by ANGLE_SOURCE_FORCE. -/
def Module.forced (m : Module) : Bool := m.ang.force.isSome

/-- The 40-byte angle status (R96), with the angles as they stand when it is formed. -/
def Module.angleStatus (m : Module) : Bytes :=
  leBytes 1 m.ang.active ++ leBytes 1 (angStateCode m.ang.state) ++ leBytes 1 m.ang.lossCause
    ++ leBytes 1 (bit m.ang.gridLocal + 2 * bit m.forced)
    ++ leBytes 2 (m.angNow.tracked / au) ++ leBytes 2 (m.angNow.treadle / au)
    ++ leBytes 4 m.ang.freq ++ leBytes 4 (ofInt 32 m.ang.rocof)
    ++ leBytes 8 m.ang.gridIndex ++ leBytes 8 m.pck.index ++ leBytes 8 m.pck.time

def cmdAngleStatusGet (r : Req) (m : Module) : Resp := m.basic r 0 .observe (.done m.angleStatus m)
def execAngleStatusGet (r : Req) (s : State) : Host.Outcome State Fault Refusal :=
  s.go (·.request 0x0900 cmdAngleStatusGet r)

/-- ANGLE_SOURCE_FORCE (R94); a force that holds stays in force while a later request waits for its source. -/
def cmdAngleSourceForce (r : Req) (m : Module) : Resp :=
  let src := byteAt r.payload 0
  if r.payload.length ≠ 4 then .fail .badLength m
  else if src > 3 then .fail .badParam m
  else if m.lacks r.ctx .engineer then .fail .denied m
  else if m.sys.mode ∉ [.commission, .standby, .safeHold] then .fail .wrongMode m
  else if m.ang.waitForce.isSome then .fail .busy m
  else if src = 0 then .done [] (m.onAng fun a => { a with force := none })
  else if m.sourceValid src && m.ang.state ≠ .acquiring then
    let m := m.onAng fun a => { a with force := some src }
    .done [] (if m.ang.active = src then m else m.switchTo src m.sys.clock)
  else .wait [] [] (m.onAng fun a => { a with waitForce := some { source := src, cmd := m.thisId } })

def execAngleSourceForce (r : Req) (s : State) : Host.Outcome State Fault Refusal :=
  s.go (·.request 0x0901 cmdAngleSourceForce r)

/-- ANGLE_FORCE_TIMEOUT (R94): the request that waits completes with TIMEOUT and is withdrawn. -/
def Module.forceTimeout (t : Nat) (m : Module) : Module :=
  let m := m.tick t
  match m.ang.waitForce with
  | some f => (m.onAng fun a => { a with waitForce := none }).finish f.cmd .timeout []
  | none => m

def execAngleForceTimeout (t : Nat) (s : State) : Host.Outcome State Fault Refusal := s.go (·.forceTimeout t)

/-- The seven ANG_CNT_ registers in map order (R97). -/
def angCounters : List Nat := [0x040050, 0x040054, 0x040058, 0x04005C, 0x040060, 0x040064, 0x040068]

def cmdAngleCountersGet (r : Req) (m : Module) : Resp :=
  m.basic r 0 .observe (let (p, m) := m.readCounters angCounters; .done p m)
def execAngleCountersGet (r : Req) (s : State) : Host.Outcome State Fault Refusal :=
  s.go (·.request 0x0902 cmdAngleCountersGet r)

/-- The grid index and plant time of the first cycle that starts at or after plant time `at_`: from the treadle angle as it
stands, at the current frequency estimate (R95). -/
def Module.cycleAfter (at_ : Nat) (m : Module) : Nat × Nat :=
  let c := m.runCycle
  let a := m.angNow.treadle
  let first := m.plantNow + (if a = 0 then 0 else (fullCycle - a) * c / fullCycle / 4)
  let n := if at_ ≤ first ∨ c = 0 then 0 else ceilDiv (4 * (at_ - first)) c
  ((m.ang.gridIndex + bit (decide (a ≠ 0)) + n) % 2 ^ 64, first + n * c / 4)

/-- GRID_INDEX_AT (R95). -/
def cmdGridIndexAt (r : Req) (m : Module) : Resp :=
  let at_ := field r.payload 0 8
  m.basic r 8 .observe <|
    match m.rng.plant with
    | none => .fail .busy m
    | some _ =>
      if at_ < m.plantNow then .fail .badParam m
      else .done (leBytes 8 (m.cycleAfter at_).1 ++ leBytes 8 (m.cycleAfter at_).2) m
def execGridIndexAt (r : Req) (s : State) : Host.Outcome State Fault Refusal := s.go (·.request 0x0903 cmdGridIndexAt r)

/-- TIME_GET (R93). -/
def cmdTimeGet (r : Req) (m : Module) : Resp :=
  m.basic r 0 .observe (.done (leBytes 8 m.plantNow ++ leBytes 8 m.pck.index ++ leBytes 8 m.ang.gridIndex) m)
def execTimeGet (r : Req) (s : State) : Host.Outcome State Fault Refusal := s.go (·.request 0x0904 cmdTimeGet r)

/-! ### Registers (R97 to R106) -/

/-- The registers of the ANG block. ANG_TOOTH_PERIOD reads 0 while the active source has no teeth (free-run, or none), and the
predicted cycle divided by the teeth is truncated: the manual states neither (DESIGN CHOICE). -/
def Module.angReg (off : Nat) (m : Module) : Option Nat :=
  let a := m.ang
  match off with
  | 0x040000 => some (m.setting 0x0900 + 4 * m.setting 0x0901 + 16 * m.setting 0x0902 + 256 * m.setting 0x0903)
  | 0x040004 => some (m.setting 0x0904 + 0x2000 * m.setting 0x0905 + 0x10000 * m.setting 0x0906)
  | 0x040008 => some (m.setting 0x0907 + 0x10000 * m.setting 0x0908)
  | 0x04000C => some (m.setting 0x0909)
  | 0x040010 => some (m.setting 0x090A)
  | 0x040014 => some (m.setting 0x090B)
  | 0x040020 => some (a.active + 4 * angStateCode a.state + 32 * bit a.tooth.valid + 64 * bit a.mains.valid
      + 128 * bit a.gridLocal + 256 * a.lossCause + 0x800 * bit m.forced + 0x1000 * (a.tooth.missRun % 4)
      + 0x10000 * (a.tooth.count % 0x2000))
  | 0x040024 => some (m.angNow.tracked / au + 0x10000 * (m.angNow.treadle / au))
  | 0x040028 => some a.freq
  | 0x04002C => some (ofInt 32 a.rocof)
  | 0x040030 => some (if a.active = 1 ∨ a.active = 2 then (m.tracker a.active).pred / m.teeth a.active else 0)
  | 0x040038 => some (a.gridIndex % 2 ^ 32)
  | 0x04003C => some (a.gridIndex / 2 ^ 32)
  | 0x040040 => some (ofInt 16 a.corr + 0x10000 * a.corrKind)
  | _ => if off ∈ angCounters then some (m.counter off) else none

/-- The registers of the PCK block. -/
def Module.pckReg (off : Nat) (m : Module) : Option Nat :=
  let p := m.pck
  match off with
  | 0x050000 => some (m.setting 0x0910 + 0x10000 * m.setting 0x0911)
  | 0x050004 => some (bit p.running + 0x100 * p.flags + 0x10000 * p.slot)
  | 0x050008 => some (p.index % 2 ^ 32)
  | 0x05000C => some (p.index / 2 ^ 32)
  | 0x050010 => some (p.position + 0x10000 * p.angle)
  | 0x050014 => some (p.time % 2 ^ 32)
  | 0x050018 => some (p.time / 2 ^ 32)
  | 0x05001C => some (satU32 p.spacing)
  | 0x050020 => some (m.counter off)
  | 0x050024 => some (m.counter off)
  | _ => none

end Sys2Proof.Machine
end

