-- ==== Sys2Proof/Machine/EstOps.lean ====
section
/-! DEFINITION. Machine/EstOps.lean: the arithmetic of the weft estimator on one cell: packs, open-circuit voltage,
prediction, scalar updates, probabilities, limits (R174 to R201). Every operation rounds once; sums run in ascending
index (R199). -/
namespace Sys2Proof.Machine

/-- A decimal constant n / d. -/
def fq (n : Int) (d : Nat) : F32 := fOfRat n d
def fTwo : F32 := fq 2 1
def fHalf : F32 := fq 1 2
def fSum (l : List F32) : F32 := l.foldl fAdd fZero
def fSq (x : F32) : F32 := fMul x x
/-- A time of 0.25 ns units in s. -/
def fSecs (t : Nat) : F32 := fq t 4000000000
def f3600 : F32 := fq 3600 1

/-! ### Chemistry packs (R180 to R182) -/

def packTemp (pk : Bytes) (t : Nat) : Int := sInt 16 (field pk (24 + 2 * t) 2)
def packOcv (pk : Bytes) (t s : Nat) : Nat := field pk (36 + 3 * (101 * t + s)) 3
def packAnode (pk : Bytes) (s : Nat) : Nat := field pk (1552 + 2 * s) 2
/-- FP32 field `i` of the pack, counted from Q_RATED at byte 1756. -/
def packF (pk : Bytes) (i : Nat) : F32 := fField pk (1756 + 4 * i)
def packQ (pk : Bytes) : F32 := packF pk 0
def packHystMax (pk : Bytes) : F32 := packF pk 1
def packHystRate (pk : Bytes) : F32 := packF pk 2
def packCCore (pk : Bytes) : F32 := packF pk 3
def packCSurf (pk : Bytes) : F32 := packF pk 4
def packRcs (pk : Bytes) : F32 := packF pk 5
def packRsa (pk : Bytes) : F32 := packF pk 6
def packShare (pk : Bytes) : F32 := packF pk 7
def packPlate (pk : Bytes) : F32 := packF pk 8
def packVChg (pk : Bytes) : F32 := packF pk 9
def packVDis (pk : Bytes) : F32 := packF pk 10
def packIChg (pk : Bytes) : F32 := packF pk 11
def packIDis (pk : Bytes) : F32 := packF pk 12
def packTChgMin (pk : Bytes) : F32 := packF pk 13
def packTChgMax (pk : Bytes) : F32 := packF pk 14
def packTDisMin (pk : Bytes) : F32 := packF pk 15
def packTDisMax (pk : Bytes) : F32 := packF pk 16
/-- IMP_DEFAULT: 0 Rser, 1 Rf, 2 Cf, 3 Rs, 4 Cs. -/
def packImp (pk : Bytes) (i : Nat) : F32 := packF pk (17 + i)

/-- A valid pack (R181). -/
def packOk (pk : Bytes) : Bool :=
  decide (pk.length = 2048) && decide (pk.take 4 = [0x43, 0x50, 0x4B, 0x01]) && crcOk pk
    && (List.range 4).all (fun t => packTemp pk t < packTemp pk (t + 1))
    && (List.range 5).all (fun t => (List.range 100).all fun s => packOcv pk t s < packOcv pk t (s + 1))
    && (List.range 100).all (fun s => packAnode pk (s + 1) ≤ packAnode pk s)
    && (List.range 22).all (fun i => fFinite (packF pk i))
    && fLe fOne (packQ pk) && fLe (packQ pk) (fq 2000 1) && fLe fZero (packShare pk) && fLe (packShare pk) fOne
    && fLt (packVDis pk) (packVChg pk) && fLt (packTChgMin pk) (packTChgMax pk) && fLt (packTDisMin pk) (packTDisMax pk)
    && [1, 2, 3, 4, 5, 6, 11, 12, 17, 18, 19, 20, 21].all fun i => fLt fZero (packF pk i)

/-- SOC segment and fraction (R182). -/
def socSeg (z : F32) : Nat × F32 :=
  let s := fClamp (fMul (fq 100 1) z) fZero (fq 100 1)
  let j := min (fFloor s 1 1).toNat 99
  (j, fSub s (fOfNat j))

/-- Temperature segment, fraction and width (R182). -/
def tempSeg (pk : Bytes) (T : F32) : Nat × F32 × F32 :=
  let tv := fun t => fq (packTemp pk t) 10
  let T := fClamp T (tv 0) (tv 4)
  let t := ((List.range 4).find? fun t => fLe T (tv (t + 1))).getD 3
  let w := fSub (tv (t + 1)) (tv t)
  (t, fDiv (fSub T (tv t)) w, w)

/-- A table voltage in V. -/
def ocvV (pk : Bytes) (t s : Nat) : F32 := fq (packOcv pk t s) 1000000

/-- OCV, ∂OCV/∂z and ∂OCV/∂T by bilinear interpolation (R182). -/
def ocvAt (pk : Bytes) (z T : F32) : F32 × F32 × F32 :=
  let (j, fs) := socSeg z
  let (t, ft, w) := tempSeg pk T
  let d0 := fSub (ocvV pk t (j + 1)) (ocvV pk t j)
  let d1 := fSub (ocvV pk (t + 1) (j + 1)) (ocvV pk (t + 1) j)
  let a := fAdd (ocvV pk t j) (fMul fs d0)
  let b := fAdd (ocvV pk (t + 1) j) (fMul fs d1)
  (fAdd a (fMul ft (fSub b a)), fMul (fq 100 1) (fAdd d0 (fMul ft (fSub d1 d0))), fDiv (fSub b a) w)

/-- Anode potential in V (R182). -/
def anodeAt (pk : Bytes) (z : F32) : F32 :=
  let (j, fs) := socSeg z
  let a := fq (packAnode pk j) 10000
  fAdd a (fMul fs (fSub (fq (packAnode pk (j + 1)) 10000) a))

/-- OCV at whole SOC `s` % and temperature T. -/
def ocvNode (pk : Bytes) (T : F32) (s : Nat) : F32 :=
  let (t, ft, _) := tempSeg pk T
  fAdd (ocvV pk t s) (fMul ft (fSub (ocvV pk (t + 1) s) (ocvV pk t s)))

/-- The SOC at which OCV equals a target (R201): 0 or 1 beyond the table. -/
def ocvInvert (pk : Bytes) (T v : F32) : F32 :=
  if fLe v (ocvNode pk T 0) then fZero
  else if fLe (ocvNode pk T 100) v then fOne
  else
    let j := ((List.range 100).find? fun j => fLe v (ocvNode pk T (j + 1))).getD 99
    let a := ocvNode pk T j
    fDiv (fAdd (fOfNat j) (fDiv (fSub v a) (fSub (ocvNode pk T (j + 1)) a))) (fq 100 1)

/-! ### States and covariance (R174, R179, R207) -/

def Hyp.s (h : Hyp) (i : Nat) : F32 := h.x.getD i 0
def tri (r c : Nat) : Nat := r * 9 - r * (r - 1) / 2 + (c - r)
def pAt (p : List F32) (r c : Nat) : F32 := p.getD (if r ≤ c then tri r c else tri c r) 0
/-- The upper triangle of a symmetric matrix. -/
def triOf (f : Nat → Nat → F32) : List F32 :=
  (List.range 9).flatMap fun r => (List.range (9 - r)).map fun k => f r (r + k)

/-- Clamp ranges (R174). -/
def clampLo (hm : F32) : List F32 :=
  [fq (-5) 100, fq (-1) 1, fq (-1) 1, fNeg hm, fq (-40) 1, fq (-40) 1, fHalf, fq 3 10, fZero]
def clampHi (hm : F32) : List F32 :=
  [fq 105 100, fOne, fOne, hm, fq 120 1, fq 120 1, fq 4 1, fq 12 10, fq 5 1]

/-- Clamp every state; how many a clamp changed. -/
def Hyp.clamp (hm : F32) (h : Hyp) : Hyp × Nat :=
  let y := (List.range 9).map fun i => fClamp (h.s i) ((clampLo hm).getD i 0) ((clampHi hm).getD i 0)
  ({ h with x := y }, ((List.range 9).filter fun i => y.getD i 0 ≠ h.s i).length)

/-- Priors, initial parameter states and their variances (R179). -/
def priors : List F32 := [fq 94 100, fq 2 100, fq 2 100, fq 2 100]
def paramInit : List F32 := [fOne, fOne, fZero]
def paramVar (j : Nat) : List F32 :=
  [if j = 1 then fq 1 100 else 0, if j = 2 then fq 25 10000 else 0, if j = 3 then fq 1 10000 else 0]

/-! ### Prediction (R176, R178) -/

/-- What one step of one cell uses. -/
structure Par where
  pk : Bytes
  dt : F32
  ib : F32
  ik : F32
  rser : F32
  rf : F32
  cf : F32
  rs : F32
  cs : F32
  q : F32
  /-- lowest valid NTC value last reported by the monitor -/
  ta : Option F32
  /-- current whose charge is added to the variance of z while the current is lost (R187), else 0 -/
  lostI : F32
  sigI : F32
  qR : F32
  qQ : F32
  qS : F32

def fSignOf (x : F32) : F32 := if fLt fZero x then fOne else if fLt x fZero then fNeg fOne else fZero

/-- Predicted states, and the rows of the analytic Jacobian that differ from the identity (R176). -/
def predictState (u : Par) (h : Hyp) : List F32 × (Nat → Nat → F32) :=
  let z := h.s 0; let v1 := h.s 1; let v2 := h.s 2; let hy := h.s 3; let tc := h.s 4; let ts := h.s 5
  let thR := h.s 6; let thQ := h.s 7; let ish := h.s 8
  let a1 := Config.fexp (fDiv (fNeg u.dt) (fMul u.rf u.cf))
  let a2 := Config.fexp (fDiv (fNeg u.dt) (fMul u.rs u.cs))
  let cap := fMul (fMul f3600 u.q) thQ
  let hm := packHystMax u.pk
  let ex := fDiv (fMul (fMul (packHystRate u.pk) (fAbs u.ib)) u.dt) cap
  let e := Config.fexp (fNeg ex)
  let sg := fSignOf u.ib
  let (ocv, oz, oT) := ocvAt u.pk z tc
  let pg := fAdd (fMul u.ib (fAdd (fAdd v1 v2) (fMul (fMul u.ib thR) u.rser))) (fMul ish ocv)
  let cc := packCCore u.pk; let cf := packCSurf u.pk; let rcs := packRcs u.pk; let rsa := packRsa u.pk
  let ta := u.ta.getD ts
  let b1 := fSub fOne a1; let b2 := fSub fOne a2
  let tot := fAdd u.ib ish
  let x := [fSub z (fDiv (fMul u.dt tot) cap),
    fAdd (fMul a1 v1) (fMul (fMul (fMul thR u.rf) b1) u.ib),
    fAdd (fMul a2 v2) (fMul (fMul (fMul thR u.rs) b2) u.ib),
    fSub (fMul e hy) (fMul (fMul (fSub fOne e) sg) hm),
    fAdd tc (fDiv (fMul u.dt (fSub pg (fDiv (fSub tc ts) rcs))) cc),
    fAdd ts (fDiv (fMul u.dt (fSub (fDiv (fSub tc ts) rcs) (fDiv (fSub ts ta) rsa))) cf),
    thR, thQ, ish]
  let jac := fun r c => match r, c with
    | 0, 7 => fDiv (fMul u.dt tot) (fMul cap thQ)
    | 0, 8 => fNeg (fDiv u.dt cap)
    | 1, 1 => a1
    | 1, 6 => fMul (fMul u.rf b1) u.ib
    | 2, 2 => a2
    | 2, 6 => fMul (fMul u.rs b2) u.ib
    | 3, 3 => e
    | 3, 7 => fMul (fMul e (fDiv ex thQ)) (fAdd hy (fMul sg hm))
    | 4, 0 => fDiv (fMul u.dt (fMul ish oz)) cc
    | 4, 1 => fDiv (fMul u.dt u.ib) cc
    | 4, 2 => fDiv (fMul u.dt u.ib) cc
    | 4, 4 => fAdd fOne (fDiv (fMul u.dt (fSub (fMul ish oT) (fDiv fOne rcs))) cc)
    | 4, 5 => fDiv (fDiv u.dt rcs) cc
    | 4, 6 => fDiv (fMul u.dt (fMul (fMul u.ib u.ib) u.rser)) cc
    | 4, 8 => fDiv (fMul u.dt ocv) cc
    | 5, 4 => fDiv (fDiv u.dt rcs) cf
    | 5, 5 => fSub fOne (fDiv (fMul u.dt (fAdd (fDiv fOne rcs) (fDiv fOne rsa))) cf)
    | r, c => if r = c then fOne else fZero
  (x, jac)

/-- Process noise of hypothesis `j` (R178, R187), with its θR and θQ. -/
def noise (u : Par) (j : Nat) (thR thQ : F32) : List F32 :=
  let a1 := Config.fexp (fDiv (fNeg u.dt) (fMul u.rf u.cf))
  let a2 := Config.fexp (fDiv (fNeg u.dt) (fMul u.rs u.cs))
  let cap := fMul (fMul f3600 u.q) thQ
  let z0 := fSq (fDiv (fMul u.sigI u.dt) cap)
  let z := if fIsZero u.lostI then z0 else fAdd z0 (fSq (fDiv (fMul u.lostI u.dt) cap))
  [z,
   fSq (fMul (fMul (fMul thR u.rf) (fSub fOne a1)) u.sigI),
   fSq (fMul (fMul (fMul thR u.rs) (fSub fOne a2)) u.sigI),
   fMul (fq 1 100000000) u.dt, fMul (fq 1 10000) u.dt, fMul (fq 1 10000) u.dt,
   if j = 1 then fMul u.qR u.dt else 0, if j = 2 then fMul u.qQ u.dt else 0, if j = 3 then fMul u.qS u.dt else 0]

/-- Prediction of hypothesis `j` (R176): states, and P = F P Fᵀ + W. -/
def predict (u : Par) (j : Nat) (h : Hyp) : Hyp :=
  let (x, f) := predictState u h
  let fp := fun r c => fSum ((List.range 9).map fun k => fMul (f r k) (pAt h.p k c))
  let w := noise u j (h.s 6) (h.s 7)
  { x := x
    p := triOf fun r c =>
      let v := fSum ((List.range 9).map fun k => fMul (fp r k) (f c k))
      if r = c then fAdd v (w.getD r 0) else v }

/-! ### Updates (R183 to R188) -/

/-- A scalar update; the innovation and its variance. -/
def scalarUpdate (hv : List F32) (nu var : F32) (h : Hyp) : Hyp × F32 :=
  let ph := (List.range 9).map fun r => fSum ((List.range 9).map fun k => fMul (pAt h.p r k) (hv.getD k 0))
  let s := fMax (fAdd (fSum ((List.range 9).map fun k => fMul (hv.getD k 0) (ph.getD k 0))) var) var
  let g := (List.range 9).map fun r => fDiv (ph.getD r 0) s
  ({ x := (List.range 9).map fun r => fAdd (h.s r) (fMul (g.getD r 0) nu)
     p := triOf fun r c => fSub (pAt h.p r c) (fMul (g.getD r 0) (ph.getD c 0)) }, s)

/-- The voltage update (R183, R188): hypothesis, innovation, variance. -/
def voltageUpdate (u : Par) (y var : F32) (h : Hyp) : Hyp × F32 × F32 :=
  let (ocv, oz, oT) := ocvAt u.pk (h.s 0) (h.s 4)
  let model := fSub (fSub (fSub (fAdd ocv (h.s 3)) (h.s 1)) (h.s 2)) (fMul (fMul (h.s 6) u.rser) u.ik)
  let nu := fSub y model
  let hv := [oz, fNeg fOne, fNeg fOne, fOne, oT, fZero, fNeg (fMul u.rser u.ik), fZero, fZero]
  let (h', s) := scalarUpdate hv nu var h
  (h', nu, s)

/-- The temperature update (R185, R188). -/
def tempUpdate (y var : F32) (h : Hyp) : Hyp :=
  (scalarUpdate [0, 0, 0, 0, 0, fOne, 0, 0, 0] (fSub y (h.s 5)) var h).1

/-- New probabilities (R189). -/
def probUpdate (eps : F32) (p nu s : List F32) : List F32 :=
  let l := (List.range 4).map fun j =>
    let pm := fAdd (fMul (fSub fOne (fMul (fq 4 1) eps)) (p.getD j 0)) eps
    fSub (fSub (Config.fln pm) (fMul fHalf (Config.fln (fMul (fMul fTwo 0x40490FDB#32) (s.getD j 0)))))
      (fDiv (fMul fHalf (fSq (nu.getD j 0))) (s.getD j 0))
  let lm := (l.drop 1).foldl fMax (l.getD 0 0)
  let e := l.map fun x => Config.fexp (fSub x lm)
  let sum := fSum e
  e.map fun x => fDiv x sum

/-- The dominant hypothesis (R189): the highest probability, the lowest on a tie. -/
def dominant (p : List F32) : Nat :=
  ((List.range 4).drop 1).foldl (fun b j => if fLt (p.getD b 0) (p.getD j 0) then j else b) 0

/-! ### Blended outputs (R191) -/

def Cell.blend (i : Nat) (c : Cell) : F32 :=
  fSum ((List.range 4).map fun j => fMul (c.prob.getD j 0) ((c.hyps.getD j {}).s i))

/-- Spread of SOC. -/
def Cell.spread (c : Cell) : F32 :=
  let zb := c.blend 0
  fSqrt (fSum ((List.range 4).map fun j =>
    let h := c.hyps.getD j {}
    fMul (c.prob.getD j 0) (fAdd (pAt h.p 0 0) (fSq (fSub (h.s 0) zb)))))

/-! ### Plating margin and limits (R194, R195) -/

/-- Plating margin of a hypothesis, mV. -/
def marginOf (u : Par) (h : Hyp) : F32 :=
  let eta := fNeg (fAdd (fAdd (h.s 1) (h.s 2)) (fMul (fMul (h.s 6) u.rser) u.ik))
  fSub (fSub (fMul (anodeAt u.pk (h.s 0)) (fq 1000 1)) (fMul (fMul (packShare u.pk) eta) (fq 1000 1))) (packPlate u.pk)

/-- Charge bounds of a hypothesis (plating, if any; voltage), and its discharge voltage bound: horizon in s, reserve in
V. -/
def boundsOf (u : Par) (hor res : F32) (h : Hyp) : Option F32 × F32 × F32 :=
  let ef := Config.fexp (fDiv (fNeg hor) (fMul u.rf u.cf))
  let es := Config.fexp (fDiv (fNeg hor) (fMul u.rs u.cs))
  let reff := fMul (h.s 6) (fAdd (fAdd u.rser (fMul u.rf (fSub fOne ef))) (fMul u.rs (fSub fOne es)))
  let vd := fAdd (fMul (h.s 1) ef) (fMul (h.s 2) es)
  let sh := packShare u.pk
  let (ocv, _, _) := ocvAt u.pk (h.s 0) (h.s 4)
  let plate := if fIsZero sh then none else
    some (fDiv (fAdd (fSub (fSub (anodeAt u.pk (h.s 0)) (fDiv (packPlate u.pk) (fq 1000 1))) res) (fMul sh vd)) (fMul sh reff))
  (plate, fDiv (fAdd (fSub (fSub (packVChg u.pk) ocv) (h.s 3)) vd) reff,
   fDiv (fSub (fSub (fAdd ocv (h.s 3)) vd) (packVDis u.pk)) reff)

/-- The cell's limits and the bound that decides the charge limit (R195): 0 rate, 1 plating, 2 voltage, 3 temperature. -/
def limitsOf (u : Par) (hor res : F32) (c : Cell) : F32 × F32 × Nat :=
  let hs := (List.range 4).filter fun j => fLe (fq 5 100) (c.prob.getD j 0)
  let bs := hs.map fun j => boundsOf u hor res (c.hyps.getD j {})
  let rate := fMul (packIChg u.pk) (packQ u.pk)
  let step := fun (a : F32 × Nat) (b : F32 × Nat) => if fLt b.1 a.1 then b else a
  let (ic, by_) := bs.foldl (fun a b =>
    let a := match b.1 with
      | some p => step a (p, 1)
      | none => a
    step a (b.2.1, 2)) (rate, 0)
  let id := bs.foldl (fun a b => fMin a b.2.2) (fMul (packIDis u.pk) (packQ u.pk))
  let tc := c.blend 4
  let okC := fLe (packTChgMin u.pk) tc && fLe tc (packTChgMax u.pk)
  let okD := fLe (packTDisMin u.pk) tc && fLe tc (packTDisMax u.pk)
  (if okC then fMax ic fZero else fZero, if okD then fMax id fZero else fZero, if okC then by_ else 3)

/-! ### Cold start (R201) -/

/-- The hypotheses of a cold start: voltage, current, Rser and temperature at the step; at rest or under load. -/
def coldHyps (pk : Bytes) (v ik rser T : F32) (rest : Bool) : List Hyp :=
  let z := ocvInvert pk T (if rest then v else fAdd v (fMul ik rser))
  let vz := if rest then fSq (fq 3 100) else fSq (fq 10 100)
  let vv := if rest then fSq (fq 5 1000) else fSq (fq 50 1000)
  let vt := if rest then fOne else fSq fTwo
  let vh := fSq (packHystMax pk)
  (List.range 4).map fun j =>
    let d := [vz, vv, vv, vh, vt, vt] ++ paramVar j
    { x := [z, 0, 0, 0, T, T] ++ paramInit, p := triOf fun r c => if r = c then d.getD r 0 else 0 }

end Sys2Proof.Machine
end

