-- ==== Sys2Proof/Machine/Warp.lean ====
section
/-! DEFINITION. Machine/Warp.lean: chains, enumeration, data frames, breaks and balancing of the warp engine
(R108 to R171). -/
namespace Sys2Proof.Machine

def chainStateCode : ChainState → Nat
  | .off => 0 | .training => 1 | .enumerating => 2 | .loop => 3 | .broken => 4 | .partial_ => 5 | .fault => 6
  | .down => 7

def Module.chain (n : Nat) (m : Module) : Chain := tabGet {} m.wrp.chains n
def Module.updChain (n : Nat) (f : Chain → Chain) (m : Module) : Module :=
  m.onWrp fun w => { w with chains := tabUpd {} w.chains n f }
def Chain.dev (a : Nat) (c : Chain) : Dev := tabGet {} c.devs a
def Chain.updDev (a : Nat) (f : Dev → Dev) (c : Chain) : Chain := { c with devs := tabUpd {} c.devs a f }

def Module.chainEnabled (n : Nat) (m : Module) : Bool := (m.setting 0x0200).testBit n
def Module.enabledChains (m : Module) : List Nat := maskList 16 (m.setting 0x0200)
/-- Configured monitor count of chain `n` (R155). -/
def Module.monitors (n : Nat) (m : Module) : Nat := m.setting (0x0210 + n)

/-- Window mode is in force (R50). -/
def Module.windowMode (m : Module) : Bool :=
  decide (m.setting 0x0202 = 1) || m.enabledChains.any fun n => decide (16 < m.monitors n)

/-- Picks in a window (R51, R138). -/
def Module.windowPicks (m : Module) : Nat :=
  match m.setting 0x0203 with
  | 0 => m.pickK / 2 | 1 => m.pickK | 2 => 2 * m.pickK | _ => 4 * m.pickK

/-- The chain takes picks: LOOP, BROKEN or PARTIAL. -/
def Chain.active (c : Chain) : Bool := decide (c.state = .loop ∨ c.state = .broken ∨ c.state = .partial_)
/-- LOOP or BROKEN. -/
def Chain.usable (c : Chain) : Bool := decide (c.state = .loop ∨ c.state = .broken)

/-- A configured chain has not completed enumeration with all its devices (R47, R125). -/
def Module.enumIncomplete (m : Module) : Bool := m.enabledChains.any fun n => !(m.chain n).usable

/-- The chain's events (R171). -/
def Module.chainEvent (n k : Nat) (m : Module) : Module :=
  if k = 3 then m.raiseOnce (64 + 4 * n + 3) else m.raise (64 + 4 * n + k)

/-- Hops of address `a` from its trigger port, on a chain of `k` monitors split at `sp` (R109). -/
def hopsOf (k sp a : Nat) : Nat := if a < sp then a + 1 else k + 1 - a

/-- WRP_CHn_SKEW_WIDE (R133): devices of a BROKEN chain more than 9 hops out, in instant mode. -/
def skewMask (st : ChainState) (window : Bool) (k sp : Nat) : Nat :=
  if st = .broken && !window then maskOf (k + 1) fun a => decide (9 < hopsOf k sp a) else 0

/-- The SKEW_WIDE bits follow the state, the split and the sampling mode (R133); one that is set is reported (R171). -/
def Module.skewUpdate (n : Nat) (m : Module) : Module :=
  let c := m.chain n
  let k := m.monitors n
  let new := skewMask c.state m.windowMode k c.split
  let risen := (List.range (k + 1)).any fun a => new.testBit a && !c.skewWide.testBit a
  let m := if new = c.skewWide then m else m.updChain n fun c => { c with skewWide := new }
  if risen then m.chainEvent n 3 else m

/-- A change of chain state (R129): it is reported at the pick boundary after it. -/
def Module.setChain (n : Nat) (st : ChainState) (m : Module) : Module :=
  if (m.chain n).state = st then m
  else (m.updChain n fun c => { c with state := st, changes := c.changes + 1 }).skewUpdate n

/-- The ends as the devices return on them (R130, R141, R169): BREAK_AFTER the highest address that returns on Wn-A, SPLIT the
lowest that returns on Wn-B, and the largest hop count. Where no device at all returns on Wn-A, BREAK_AFTER is 0x3F (DESIGN
CHOICE: the manual names no value). -/
def Chain.ends (k : Nat) (c : Chain) : Nat × Nat × Nat :=
  let up := c.devs.filter fun p => p.2.type.isSome && decide (p.1 ≤ k)
  let as := (up.filter fun p => p.2.port = 0).map (·.1)
  let b := ((up.filter fun p => p.2.port ≠ 0).map (·.1)).foldl min 0x3F
  (if as = [] then 0x3F else as.foldl max 0, b,
   max (if as = [] then 0 else as.foldl max 0 + 1) (if b = 0x3F then 0 else k + 1 - b))

/-- While a chain is BROKEN, its ends follow the devices (R130, R168, R169). -/
def Module.breakEnds (n : Nat) (m : Module) : Module :=
  if (m.chain n).state ≠ .broken then m
  else
    let (a, b, h) := (m.chain n).ends (m.monitors n)
    (m.updChain n fun c => { c with breakAfter := a, split := b, maxHops := h }).skewUpdate n

/-- A break declared since the last pick boundary takes effect (R141). -/
def Module.breakTake (n : Nat) (m : Module) : Module :=
  let due := (m.chain n).breakDue
  if !due then m
  else
    let m := m.updChain n fun c => { c with breakDue := false }
    if (m.chain n).state ≠ .loop then m
    else
      let m := (m.updChain n fun c => { c with closed := some false }).setChain n .broken
      (((m.breakEnds n).bump (0x060128 + 0x40 * n))).chainEvent n 1

/-- What WRP_CHn_STATE shows of a chain (R168): BREAK_AFTER only while BROKEN, SPLIT only while its devices are assigned. -/
def Chain.show (c : Chain) : ChainState × Nat × Nat × Nat :=
  (c.state, c.cause, if c.state = .broken then c.breakAfter else 0x3F, if c.active then c.split else 0x3F)

/-- A pick boundary, or the end of BOOT: a declared break takes effect, each change of a chain's state since the last raises the
chain's state event and is shown in WRP_CHn_STATE and WRP_SUMMARY (R129, R141). -/
def Module.showChain (n : Nat) (m : Module) : Module :=
  let m := (m.breakTake n).breakEnds n
  let k := (m.chain n).changes
  (List.range k).foldl (fun m _ => m.chainEvent n 0)
    (m.updChain n fun c => { c with shown := c.show, changes := 0, shut := false })
def Module.showChains (m : Module) : Module := (List.range 16).foldl (fun m n => m.showChain n) m

/-! ### Frames to the devices (R113, R121) -/

def enumBody (next dir : Nat) : Bytes := withCrc ([0x10, 0x3F] ++ leBytes 1 next ++ leBytes 1 dir ++ zeros 4)
def reqBody (type addr : Nat) : Bytes := withCrc (leBytes 1 type ++ leBytes 1 addr ++ zeros 2)
def cfgWrite (addr param value : Nat) : Bytes :=
  withCrc ([0x20] ++ leBytes 1 addr ++ leBytes 1 param ++ zeros 1 ++ leBytes 4 value)
def cfgRead (addr param : Nat) : Bytes := withCrc ([0x21] ++ leBytes 1 addr ++ leBytes 1 param ++ zeros 1)
def balBody (addr mask dur start : Nat) : Bytes :=
  withCrc ([0x30] ++ leBytes 1 addr ++ leBytes 2 mask ++ leBytes 2 dur ++ zeros 2 ++ leBytes 4 start)

def Module.sendWarp (n port : Nat) (b : Bytes) (m : Module) : Module := m.emit (.warp n port b)

/-- The port the module reaches address `a` of a chain by. -/
def Chain.portOf (a : Nat) (c : Chain) : Nat := if a < c.split then 0 else 1

/-- Send a list of frames. -/
def Module.sendAll (n : Nat) (fs : List (Nat × Bytes)) (m : Module) : Module :=
  fs.foldl (fun m f => m.sendWarp n f.1 f.2) m

/-! ### Enumeration (R124 to R131) -/

def Module.balOf (key : Nat) (m : Module) : Bal := tabGet {} m.wrp.bal key
def Module.updBal (key : Nat) (f : Bal → Bal) (m : Module) : Module :=
  m.onWrp fun w => { w with bal := tabUpd {} w.bal key f }

/-- Record the stop of a balancing that runs (R152). -/
def Module.balStop (key : Nat) (m : Module) : Module :=
  let b := m.balOf key
  if b.mask = 0 then m
  else
    (m.updBal key fun b => { b with mask := 0, remaining := 0 }).cloBalance (key / 64) (key % 64) b.source 0 0
      (m.pck.index % 2 ^ 32) m.pck.index

/-- Balancing on a chain is over: its monitors lose their addresses (R146). -/
def Module.balDrop (n : Nat) (m : Module) : Module :=
  (m.wrp.bal.filter fun p => p.1 / 64 = n).foldl (fun m p => (m.balStop p.1).updBal p.1 fun _ => {}) m

/-- Symbol lock ends TRAINING (R124, R129): addresses are cleared, which stops all balancing, and ENUM goes out. -/
def Module.enumStart (n : Nat) (m : Module) : Module :=
  ((m.balDrop n).setChain n .enumerating).sendAll n
    [(0, cfgWrite 0x3F 0 0), (1, cfgWrite 0x3F 0 0), (0, enumBody 0 0x01)]

/-- Enter TRAINING: ports enabled, what the last enumeration found is dropped (R124, R129); a lock that is held ends it at
once. -/
def Module.train (n : Nat) (m : Module) : Module :=
  let m := (m.updChain n fun c =>
    { c with cause := 0, closed := none, count := 0, silent := [], devs := [], present := 0,
             healing := false, breakAfter := 0x3F, split := 0x3F, restore := false, leadNext := none,
             breakDue := false }).setChain n .training
  if (m.chain n).lockA || (m.chain n).lockB then m.enumStart n else m

/-- WARP_LOCK_GAINED (R112, R124): lock on either port ends TRAINING. -/
def Module.lockGained (n port : Nat) (m : Module) : Module :=
  let m := m.updChain n fun c => if port = 0 then { c with lockA := true } else { c with lockB := true }
  if (m.chain n).state = .training then m.enumStart n else m
def execWarpLockGained (chain port : Nat) (s : State) : Host.Outcome State Fault Refusal := s.go (·.lockGained chain port)

/-- WARP_LOCK_LOST (R112, R129): loss on both ports takes a working chain to DOWN; a break abandons healing (R144). -/
def Module.lockLost (n port : Nat) (m : Module) : Module :=
  let m := m.updChain n fun c =>
    let c := if port = 0 then { c with lockA := false } else { c with lockB := false }
    { c with healing := false }
  let c := m.chain n
  if !c.lockA && !c.lockB && c.active then m.setChain n .down else m
def execWarpLockLost (chain port : Nat) (s : State) : Host.Outcome State Fault Refusal := s.go (·.lockLost chain port)

/-- Complete the WARP_REENUMERATE commands whose chains have all left TRAINING and ENUMERATING (R156). -/
def Module.reenumDone (m : Module) : Module :=
  let busy := fun n => decide ((m.chain n).state = .training ∨ (m.chain n).state = .enumerating)
  let fin := m.wrp.reenum.filter fun q => !(maskList 16 q.2).any busy
  (m.onWrp fun w => { w with reenum := w.reenum.filter fun q => (maskList 16 q.2).any busy }).finishAll
    (fin.map (·.1)) .done []

/-- ENUM_LOCK_TIMEOUT (R129): no lock on either port within 20 ms. -/
def execEnumLockTimeout (chain : Nat) (s : State) : Host.Outcome State Fault Refusal :=
  s.go fun m => if (m.chain chain).state = .training && !(m.chain chain).lockA && !(m.chain chain).lockB then (m.setChain chain .down).reenumDone else m

/-- A frame without a code error, of the length, type and CRC its use needs (R114). -/
def frameOk (type len : Nat) (f : WFrame) : Bool :=
  !f.err && decide (f.body.length = len ∧ byteAt f.body 0 = type) && crcOk f.body

/-- A discarded frame is counted, and reported as quality (R114, R171). -/
def Module.discard (n : Nat) (m : Module) : Module := (m.bump (0x060120 + 0x40 * n)).chainEvent n 3

/-- ENUM_FRAME_RETURN (R124): the loop is closed; every address given out is asked to identify itself. -/
def Module.enumReturn (n : Nat) (f : WFrame) (m : Module) : Module :=
  if (m.chain n).state ≠ .enumerating then m
  else if !frameOk 0x10 12 f then m.discard n
  else
    let k := byteAt f.body 4
    (m.updChain n fun c => { c with closed := some true, count := k }).sendAll n
      ((List.range k).map fun a => (0, reqBody 0x11 a))
def execEnumFrameReturn (chain : Nat) (f : WFrame) (s : State) : Host.Outcome State Fault Refusal :=
  s.go (·.enumReturn chain f)

/-- ENUM_RETURN_TIMEOUT (R124): the loop is open; ENUM also goes out from Wn-B, and both ends are asked: Wn-A for every address
but broadcast, since more than M + 1 devices may have taken one (R125), Wn-B for those that count down from M. -/
def Module.enumOpen (n : Nat) (m : Module) : Module :=
  if (m.chain n).state ≠ .enumerating then m
  else
    (m.updChain n fun c => { c with closed := some false }).sendAll n
      (((List.range 63).map fun a => (0, reqBody 0x11 a)) ++ [(1, enumBody (m.monitors n) 0xFF)]
        ++ (List.range (m.monitors n + 1)).map fun a => (1, reqBody 0x11 a))
def execEnumReturnTimeout (chain : Nat) (s : State) : Host.Outcome State Fault Refusal := s.go (·.enumOpen chain)

/-- IDENT_REPLY (R121, R125): the device is recorded, and echoed 8 times from each port it can be reached on. -/
def Module.identReply (n port : Nat) (f : WFrame) (m : Module) : Module :=
  let b := f.body
  if (m.chain n).state ≠ .enumerating then m
  else if !frameOk 0x12 20 f then m.discard n
  else
    let a := byteAt b 1
    let both := (m.chain n).closed = some true
    let m := m.updChain n fun c => c.updDev a fun d =>
      { d with type := some (byteAt b 2), hwRev := byteAt b 3, fw := field b 4 2, serial := field b 8 8,
               onA := d.onA || both || port = 0, onB := d.onB || both || port = 1 }
    let e := fun p => List.replicate 8 (p, reqBody 0x13 a)
    m.sendAll n (if both then e 0 ++ e 1 else e port)
def execIdentReply (chain port : Nat) (f : WFrame) (s : State) : Host.Outcome State Fault Refusal :=
  s.go (·.identReply chain port f)

/-- ENUM_REPLY_TIMEOUT (R125): an address asked from a port does not answer. -/
def execEnumReplyTimeout (chain port addr : Nat) (s : State) : Host.Outcome State Fault Refusal :=
  s.go fun m => if (m.chain chain).state ≠ .enumerating then m
    else m.updChain chain fun c =>
      if (c.dev addr).type.isNone then { c with silent := (port, addr) :: c.silent } else c

/-- Median of a list of measurements: the mean of the two middle ones. -/
def median (l : List Nat) : Nat :=
  let s := l.mergeSort (· ≤ ·)
  (s.getD ((s.length - 1) / 2) 0 + s.getD (s.length / 2) 0) / 2

/-- Latency from the round trips (R126): less 1.000 µs and the two frame times of 0.96 µs, halved; 0.25 ns. -/
def echoLatency (l : List Nat) : Nat := (median l - 4000 - 2 * 3840) / 2

/-- ECHO_REPLY (R126): with the eighth round trip from a port the latency from it is known. -/
def Module.echoReply (n port : Nat) (f : WFrame) (trip : Nat) (m : Module) : Module :=
  if !frameOk 0x14 8 f then m.discard n
  else m.updChain n fun c => c.updDev (byteAt f.body 1) fun d =>
    if port = 0 then
      let l := trip :: d.echoA
      { d with echoA := l, latA := if 8 ≤ l.length then some (echoLatency (l.take 8)) else d.latA }
    else
      let l := trip :: d.echoB
      { d with echoB := l, latB := if 8 ≤ l.length then some (echoLatency (l.take 8)) else d.latB }
def execEchoReply (chain port : Nat) (f : WFrame) (trip : Nat) (s : State) : Host.Outcome State Fault Refusal :=
  s.go (·.echoReply chain port f trip)

/-- CONFIG_REPLY (R123): the stored value of a parameter is read back. -/
def execConfigReply (chain : Nat) (f : WFrame) (s : State) : Host.Outcome State Fault Refusal :=
  s.go fun m =>
    if !frameOk 0x22 12 f then m.discard chain
    else m.updChain chain fun c => c.updDev (byteAt f.body 1) fun d =>
      { d with params := tabPut 0 d.params (byteAt f.body 2) (field f.body 4 4) }

/-- Addresses that answered from Wn-A, from Wn-B. -/
def Chain.foundA (c : Chain) : List Nat := (c.devs.filter fun p => p.2.onA && p.2.type.isSome).map (·.1)
def Chain.foundB (c : Chain) : List Nat := (c.devs.filter fun p => p.2.onB && p.2.type.isSome).map (·.1)

/-- A device that took an ENUM address does not answer IDENT_REQ (R125): any given out in a closed loop; in an open one, one
nearer to a port than a device that answers from there. -/
def Chain.mute (k : Nat) (c : Chain) : Bool :=
  c.silent.any fun p => (c.dev p.2).type.isNone &&
    (if c.closed = some true then decide (p.2 < c.count)
     else if p.1 = 0 then c.foundA.any fun a => p.2 < a
     else decide (p.2 ≤ k) && c.foundB.any fun b => b < p.2)

/-- The state enumeration ends in, and its FAULT_CAUSE: the first row of R125 that applies; `k` monitors configured. -/
def Chain.verdict (k : Nat) (c : Chain) : ChainState × Nat :=
  let found := c.devs.filter fun p => p.2.type.isSome
  let a := c.foundA.foldl max 0
  let b := c.foundB.foldl min 0x3F
  let noA := c.foundA = []
  let noB := c.foundB = []
  let n := if c.closed = some true then c.count else found.length
  if found.any (fun p => p.2.type ≠ some 1 && p.2.type ≠ some 2) || c.mute k then (.fault, 1)
  else if found.any (fun p => if p.1 = 0 then p.2.type ≠ some 1 else p.1 ≤ k && p.2.type ≠ some 2) then (.fault, 2)
  else if n > k + 1 || (c.closed ≠ some true && !noA && !noB && b ≤ a) then (.fault, 3)
  else if c.closed = some true && n < k + 1 then (.fault, 4)
  else if c.closed = some true then (.loop, 0)
  else if !noA && !noB && b = a + 1 then (.broken, 0)
  else (.partial_, 0)

/-- Lead of a chain (R131): the larger of 0.5 µs and 0.2 µs plus the largest latency, up to a multiple of 6.25 ns. -/
def Chain.computeLead (c : Chain) : Nat :=
  let l := (c.devs.flatMap fun p => p.2.latA.toList ++ p.2.latB.toList).foldl max 0
  ceilDiv (max 2000 (800 + l)) 25 * 25

/-- Assignment of the devices to the ends (R130): SPLIT, and the largest hop count to a trigger port. -/
def Chain.assign (k : Nat) (c : Chain) : Nat × Nat :=
  let n := k + 1
  if c.closed = some true then (ceilDiv n 2, max (ceilDiv n 2) (n - ceilDiv n 2))
  else
    let b := c.foundB.foldl min 0x3F
    let ha := if c.foundA = [] then 0 else c.foundA.foldl max 0 + 1
    (b, max ha (if b = 0x3F then 0 else n - b))

/-- TRIG_DELAY from each port whose latency is known (R124, R131, R144): the lead minus the latency, truncated to a step of
6.25 ns (DESIGN CHOICE: the manual gives no rounding of a delay). A latency not measured leaves its delay unwritten. -/
def Chain.delays (c : Chain) (lead a : Nat) : List (Nat × Nat) :=
  let put := fun (p : Nat) (l : Option Nat) => (l.map fun x => (p, (lead - x) / 25)).toList
  put 1 (c.dev a).latA ++ put 2 (c.dev a).latB

/-- The parameters written to a device at the end of enumeration (R123, R124). -/
def Module.devParams (n a : Nat) (c : Chain) (m : Module) : List (Nat × Nat) :=
  c.delays c.lead a
  ++ [(3, if a < c.split then 0 else 1), (4, if a < ceilDiv (m.monitors n + 1) 2 then 0 else 1)]
  ++ (if a = 0 then [(7, m.setting (0x0C00 + n)), (8, m.setting 0x0209)]
      else [(5, bit m.windowMode), (6, m.setting 0x0204)])

/-- Write parameters of one device, reading each one back (R123, R124). -/
def Module.writeList (n a : Nat) (ps : List (Nat × Nat)) (m : Module) : Module :=
  let port := (m.chain n).portOf a
  m.sendAll n (ps.flatMap fun p => [(port, cfgWrite a p.1 p.2), (port, cfgRead a p.1)])

/-- Write one parameter of one device. -/
def Module.writeParam (n a p v : Nat) (m : Module) : Module := m.writeList n a [(p, v)]

/-- Write a device's parameters at the end of enumeration (R124). -/
def Module.writeParams (n a : Nat) (m : Module) : Module :=
  (m.writeList n a (m.devParams n a (m.chain n))).updChain n fun c =>
    c.updDev a fun d => { d with delayA := d.latA.isSome, delayB := d.latB.isSome, port := c.portOf a }

/-- Serial numbers found, by address. -/
def Chain.serials (c : Chain) : Tab Nat := (c.devs.filter fun p => p.2.type.isSome).map fun p => (p.1, p.2.serial)

/-- Compare with the roster (R127): none adopts what was found; a difference sets ROSTER_CHANGED and raises the
device event. -/
def Module.compareRoster (n : Nat) (m : Module) : Module :=
  let c := m.chain n
  match c.roster with
  | none => m.updChain n fun x => { x with roster := some x.serials }
  | some r =>
    if r = c.serials then m.updChain n fun x => { x with rosterChanged := false }
    else (m.updChain n fun x => { x with rosterChanged := true }).chainEvent n 2

/-- ENUM_FINISH (R125): the state, the assignment, the lead, the parameters, the roster. -/
def Module.enumFinish (n : Nat) (m : Module) : Module :=
  let c := m.chain n
  if c.state ≠ .enumerating then m
  else
    let k := m.monitors n
    let (st, cause) := c.verdict k
    let (sp, hops) := c.assign k
    let m := m.updChain n fun c =>
      { c with cause := cause, lead := c.computeLead, split := if st = .fault then 0x3F else sp,
               maxHops := if st = .fault then 0 else hops
               breakAfter := if st = .broken then sp - 1 else 0x3F }
    let m := ((m.chain n).devs.map (·.1)).foldl (fun m a => m.writeParams n a) m
    let m := if st = .loop ∨ st = .broken then m.compareRoster n else m
    (m.setChain n st).reenumDone
def execEnumFinish (chain : Nat) (s : State) : Host.Outcome State Fault Refusal := s.go (·.enumFinish chain)

/-- ENUM_OVERALL_TIMEOUT (R125): not finished 200 ms after TRAINING. -/
def execEnumOverallTimeout (chain : Nat) (s : State) : Host.Outcome State Fault Refusal :=
  s.go fun m =>
    if (m.chain chain).state = .training ∨ (m.chain chain).state = .enumerating then
      ((m.updChain chain fun c => { c with cause := 5 }).setChain chain .fault).reenumDone
    else m

/-- AUTO_REENUMERATE (R128): every 5 s in PARTIAL, FAULT or DOWN, in COMMISSION, STANDBY and SAFE-HOLD. -/
def execAutoReenumerate (chain : Nat) (s : State) : Host.Outcome State Fault Refusal :=
  s.go fun m =>
    if m.sys.mode ∈ [.commission, .standby, .safeHold] && (m.chain chain).state ∈ [.partial_, .fault, .down]
        && m.chainEnabled chain then m.train chain
    else m

/-! ### Pick data (R134 to R139) -/

/-- Faults of a data frame's STATUS that raise the device event: those of the string head, those of a monitor
(R171). -/
def devFaults (status : Nat) : Nat := status &&& 0x17

/-- DURATION 0 leaves for a monitor: it stops balancing at once, and what was sent for picks to come is void (R145). -/
def Module.balCancel (key : Nat) (m : Module) : Module :=
  ((m.updBal key fun b => { b with next := [] }).sendWarp (key / 64) ((m.chain (key / 64)).portOf (key % 64))
    (balBody (key % 64) 0 0 (m.pck.index % 2 ^ 32))).balStop key

/-- The waiting BALANCE_SET requests that `p` picks are not carried out: DURATION 0 to every target, and they complete with
`st` (R158: on all its monitors or on none). -/
def Module.balRefuse (p : BalReq → Bool) (st : Status) (m : Module) : Module :=
  let qs := m.wrp.balReqs.filter p
  let m := m.onWrp fun w => { w with balReqs := w.balReqs.filter fun q => !p q }
  qs.foldl (fun m q => (q.targets.foldl (fun m t => m.balCancel t.1) m).finish q.cmd st []) m

/-- Entry into SAFE-HOLD cancels every balance command (R36, R149): DURATION 0 to every monitor with one, nothing is held to be
resumed (R380), and a BALANCE_SET that waits completes with WRONG_MODE. -/
def Module.balCancelAll (m : Module) : Module :=
  let m := m.balRefuse (fun _ => true) .wrongMode
  let m := (m.wrp.bal.filter fun p => p.2.mask ≠ 0 || !p.2.next.isEmpty).foldl (fun m p => m.balCancel p.1) m
  m.onWrp fun w => { w with bal := w.bal.map fun p =>
    (p.1, { p.2 with hot := false, heldMask := 0, heldRemaining := 0, heldSource := 0 }) }

/-- A monitor whose frame shows DIE_HOT (R149): DURATION 0 where it balances or is to; what was left is held until 60 s after
DIE_HOT cleared. A BALANCE_SET that waits for it is carried out on none of its monitors and completes with BUSY, as one does
that finds a target hot (DESIGN CHOICE: R158 and R159 name no status for it). -/
def Module.hotStop (n a : Nat) (m : Module) : Module :=
  let key := n * 64 + a
  let m := m.balRefuse (fun q => q.targets.any fun t => t.1 = key) .busy
  let b := m.balOf key
  let m := m.updBal key fun x => { x with warm := true }
  let held := if b.mask ≠ 0 then some (b.mask, b.remaining, b.source) else b.next.getLast?.map fun c => (c.mask, c.dur, c.source)
  match held with
  | none => m
  | some (mask, rest, src) =>
    (m.balCancel key).updBal key fun x => { x with hot := true, heldMask := mask, heldRemaining := rest, heldSource := src }

/-- A valid data frame: its device answers, its PRESENT bit is set, its faults are reported (R114, R171). WRP_CHn_RETURN takes the
time of every frame after the instant of the latest pick; that of a MON_WINDOW frame, which arrives before its closing pick,
after the instant of the pick before: the manual does not say (DESIGN CHOICE). -/
def Module.validFrame (n port : Nat) (b : Bytes) (t : Nat) (m : Module) : Module :=
  let a := byteAt b 1
  let st := byteAt b 6
  let d := (m.chain n).dev a
  let last := (t - m.pck.instant) / 40
  let m := m.updChain n fun c =>
    let c := c.updDev a fun d =>
      { d with missRun := 0, goodRun := d.goodRun + 1, answering := true, status := st, port := port }
    { c with present := c.present ||| 2 ^ a, returnLast := satU16 last, returnMax := max c.returnMax (satU16 last) }
  let m := if !d.answering || devFaults st &&& (0xFF - d.status) ≠ 0 then m.chainEvent n 2 else m
  if a = 0 then m
  else
    let m := if st.testBit 3 then (m.bump (0x06012C + 0x40 * n)).chainEvent n 3 else m
    let m := if st.testBit 5 then
        ((m.balStop (n * 64 + a)).updBal (n * 64 + a) fun x => { x with watchdog := true }).chainEvent n 3
      else m
    if st.testBit 4 then m.hotStop n a else m

/-- A data frame comes too late (R135): the return window of the pick it belongs to has closed. -/
def Module.lateFrame (n type : Nat) (b : Bytes) (m : Module) : Bool :=
  (m.chain n).shut && (type ≠ 4 || decide (field b 2 4 = m.pck.index % 2 ^ 32))

/-- A data frame is copied as received to the lanes and the exchange bank, then checked (R114, R137). None is taken while the
chain is enumerated (R124), or after its return window has closed (R135). -/
def Module.dataFrame (n port type len : Nat) (f : WFrame) (t : Nat) (m : Module) : Module :=
  let m := m.tick t
  let a := byteAt f.body 1
  let put := fun (x : Tab (List WFrame)) => if a < 64 then tabUpd [] x (n * 64 + a) (· ++ [f]) else x
  if !(m.chain n).active || m.lateFrame n type f.body then m
  else
    let m := m.onWrp fun w => if type = 4 then { w with held := put w.held } else { w with frames := put w.frames }
    if !frameOk type len f then m.discard n else m.validFrame n port f.body t

/-- HEAD_DATA_RX (R117). -/
def execHeadDataRx (chain port : Nat) (f : WFrame) (t : Nat) (s : State) : Host.Outcome State Fault Refusal :=
  s.go (·.dataFrame chain port 2 32 f t)
/-- MON_INSTANT_RX (R118). -/
def execMonInstantRx (chain port : Nat) (f : WFrame) (t : Nat) (s : State) : Host.Outcome State Fault Refusal :=
  s.go (·.dataFrame chain port 3 98 f t)
/-- MON_WINDOW_RX (R119, R138): held and delivered with the closing pick. -/
def execMonWindowRx (chain port : Nat) (f : WFrame) (t : Nat) (s : State) : Host.Outcome State Fault Refusal :=
  s.go (·.dataFrame chain port 4 112 f t)

/-- The latest pick has cell data: every pick in instant mode, the closing pick in window mode. -/
def Module.cellPick (m : Module) : Bool := !m.windowMode || m.wrp.winClose

/-- Among the copies received under a device's address, the one whose checks, pick and address are right at the latest pick. -/
def Module.pickFrame (a : Nat) (fs : List WFrame) (m : Module) : Option Bytes :=
  (fs.find? fun f =>
    (if a = 0 then frameOk 2 32 f else if m.windowMode then frameOk 4 112 f else frameOk 3 98 f)
      && decide (field f.body 2 4 = m.pck.index % 2 ^ 32 ∧ byteAt f.body 1 = a)).map (·.body)

/-- The frame a consumer finds for a device at the latest pick, if its CRC, length, type and pick are right. -/
def Module.frameAt (n a : Nat) (m : Module) : Option Bytes := m.pickFrame a (tabGet [] m.wrp.frames (n * 64 + a))

/-- A device's frame of the latest pick is in, delivered or still held for it (R135, R138). -/
def Module.arrived (n a : Nat) (m : Module) : Bool :=
  (m.frameAt n a).isSome || (m.windowMode && decide (a ≠ 0) && (m.pickFrame a (tabGet [] m.wrp.held (n * 64 + a))).isSome)

/-- Addresses whose return the latest pick expects. -/
def Module.expectedAddrs (n : Nat) (m : Module) : List Nat :=
  0 :: (if m.cellPick then (List.range (m.monitors n)).map (· + 1) else [])

/-- Count a missed return (R129, R135, R171). -/
def Module.missReturn (n a : Nat) (m : Module) : Module :=
  let m := (m.bump (0x060124 + 0x40 * n)).updChain n fun c =>
    let c := c.updDev a fun d => { d with missRun := d.missRun + 1, goodRun := 0 }
    { c with present := if c.present.testBit a then c.present - 2 ^ a else c.present }
  if (m.chain n).usable then m.chainEvent n 3 else m

/-- RETURN_WINDOW_CLOSE (R135): expected frames that are not in are missing, once a pick. -/
def Module.windowClose (n : Nat) (m : Module) : Module :=
  let miss := (m.expectedAddrs n).filter fun a => !m.arrived n a
  if !(m.chain n).active || (m.chain n).shut then m
  else (miss.foldl (fun m a => m.missReturn n a) m).updChain n fun c => { c with shut := true }
def execReturnWindowClose (chain : Nat) (s : State) : Host.Outcome State Fault Refusal := s.go (·.windowClose chain)

/-! ### Breaks, losses and healing (R140 to R144) -/

/-- BREAK_DECLARED (R141, R144): it takes effect at the next pick boundary; a break during healing abandons the healing. -/
def Module.breakDeclared (n : Nat) (m : Module) : Module :=
  m.updChain n fun c =>
    if c.state = .loop then { c with breakDue := true }
    else if c.state = .broken then { c with healing := false, restore := false, leadNext := none } else c
def execBreakDeclared (chain : Nat) (s : State) : Host.Outcome State Fault Refusal := s.go (·.breakDeclared chain)

/-- DEVICE_ANSWER_LOST (R129, R171): no valid frame at 3 consecutive expected returns. -/
def Module.answerLost (n a : Nat) (m : Module) : Module :=
  let d := (m.chain n).dev a
  if d.missRun < 3 || !(m.chain n).active then m
  else
    let m := (m.updChain n fun c => c.updDev a fun d => { d with answering := false }).chainEvent n 2
    if (m.chain n).usable then m.setChain n .partial_ else m
def execDeviceAnswerLost (chain addr : Nat) (s : State) : Host.Outcome State Fault Refusal := s.go (·.answerLost chain addr)

/-- DEVICE_ANSWER_RESTORED (R129): every configured device valid at 3 consecutive expected returns; `closed`, the round-trip
copies return, so that the loop is closed. -/
def Module.answerRestored (n : Nat) (closed : Bool) (m : Module) : Module :=
  let c := m.chain n
  if c.state = .partial_ && (List.range (m.monitors n + 1)).all fun a => 3 ≤ (c.dev a).goodRun then
    if closed then
      let k := m.monitors n
      let sp := ceilDiv (k + 1) 2
      (m.updChain n fun c => { c with closed := some true, split := sp, breakAfter := 0x3F,
                                      maxHops := max sp (k + 1 - sp) }).setChain n .loop
    else ((m.updChain n fun c => { c with closed := some false }).setChain n .broken).breakEnds n
  else m
def execDeviceAnswerRestored (chain : Nat) (closed : Bool) (s : State) : Host.Outcome State Fault Refusal :=
  s.go (·.answerRestored chain closed)

/-- HEALING_START (R144): echoes are sent for the latencies not yet known. -/
def Module.healStart (n : Nat) (m : Module) : Module :=
  let c := m.chain n
  if c.state ≠ .broken || !c.lockA || !c.lockB || c.healing then m
  else
    let need := (List.range (m.monitors n + 1)).flatMap fun a =>
      (if (c.dev a).latA.isNone then List.replicate 8 (0, reqBody 0x13 a) else [])
      ++ (if (c.dev a).latB.isNone then List.replicate 8 (1, reqBody 0x13 a) else [])
    (m.updChain n fun c => { c with healing := true }).sendAll n need
def execHealingStart (chain : Nat) (s : State) : Host.Outcome State Fault Refusal := s.go (·.healStart chain)

/-- Delays that healing writes (R144): where the lead rises every one, else those not yet written. -/
def Chain.healDelays (c : Chain) (lead a : Nat) : List (Nat × Nat) :=
  let d := c.dev a
  (c.delays lead a).filter fun p => lead ≠ c.lead || (if p.1 = 1 then !d.delayA else !d.delayB)

/-- HEALING_COMPLETE (R144): the missing trigger delays are written; where the lead of R131 rises, every delay, and the new lead
is in force from the boundary of R90. RESTORE_SPLIT is set in one TRIGGER and the chain is LOOP. -/
def Module.healDone (n : Nat) (m : Module) : Module :=
  let c := m.chain n
  if c.state ≠ .broken || !c.healing then m
  else
    let k := m.monitors n
    let sp := ceilDiv (k + 1) 2
    let lead := max c.lead c.computeLead
    let m := (List.range (k + 1)).foldl (fun m a => (m.writeList n a (c.healDelays lead a)).updChain n fun x =>
      x.updDev a fun d => { d with delayA := d.latA.isSome, delayB := d.latB.isSome }) m
    let m := m.updChain n fun c =>
      { c with healing := false, closed := some true, leadNext := if lead = c.lead then none else some lead, restore := true,
               split := sp, breakAfter := 0x3F, maxHops := max sp (k + 1 - sp) }
    (m.setChain n .loop).chainEvent n 1
def execHealingComplete (chain : Nat) (s : State) : Host.Outcome State Fault Refusal := s.go (·.healDone chain)

/-! ### Trigger frames (R87, R116) -/

/-- Position in its window of the pick that follows, at slot `slot` (R138). -/
def Module.nextWinPos (slot : Nat) (m : Module) : Option Nat :=
  if !m.windowMode then none
  else match m.wrp.winPos with
    | some p => some ((p + 1) % m.windowPicks)
    | none => if slot = 0 ∨ (m.setting 0x0203 = 0 ∧ 2 * slot = m.pickK) then some 0 else none

/-- The TRIGGER frame of pick `idx` (R116): `gap` is the predicted time to the next pick in µs. -/
def triggerBody (idx flags gap : Nat) : Bytes :=
  withCrc ([0x01, 0x3F] ++ leBytes 4 idx ++ leBytes 1 flags ++ leBytes 1 (idx % 8) ++ leBytes 2 gap ++ zeros 2)

/-- FLAGS of the TRIGGER frame on chain `n`. -/
def Module.triggerFlags (n : Nat) (pos : Option Nat) (m : Module) : Nat :=
  bit (!m.windowMode) + 2 * bit (pos = some 0) + 4 * bit (pos = some (m.windowPicks - 1) && m.windowMode)
    + 8 * bit ((m.chain n).restore && (m.chain n).leadNext.isNone)

/-- Leads that have risen at healing come into force (R90, R144). -/
def Module.applyLeads (m : Module) : Module :=
  m.onWrp fun w => { w with chains := w.chains.map fun p => (p.1, { p.2 with lead := p.2.leadNext.getD p.2.lead, leadNext := none }) }

/-- The largest lead among the active chains (R87). -/
def Module.largestLead (m : Module) : Nat :=
  (m.enabledChains.filter fun n => (m.chain n).active).foldl (fun a n => max a (m.chain n).lead) 0

/-- The slot the next pick takes, and the instant the angle model predicts for it (R84, R87); a position reached within the
present event step is not yet past (R55). -/
def Module.predictPick (slot : Nat) (m : Module) : Nat :=
  let pos := slotPos m.pickK (m.setting 0x0911) slot * au
  let c := m.runCycle
  let d := (pos + fullCycle - m.ang.treadle % fullCycle) % fullCycle
  let dist := if !m.slotTaken slot && decide ((fullCycle - d) * c < 25 * fullCycle) then 0 else d
  let gap := if m.ang.held then (angleDiff m.ang.treadle m.ang.tracked).toNat else 0
  let d := ceilDiv ((dist + gap) * c) fullCycle
  onGrid (m.ang.at_ + if m.ang.state = .slewing then ceilDiv (d * 100) 98 else d)

/-- An instant predicted lies less than one lead ahead, by an event step or more (R87). -/
def tooNear (due earliest : Nat) : Bool := decide (due + 25 ≤ earliest)

/-- The slot of pick 0 (R88): the first that the treadle angle reaches and whose trigger frames can still leave on time. -/
def Module.firstSlot (t : Nat) (m : Module) : Nat :=
  let ss := (List.range m.pickK).filter fun i => !tooNear (m.predictPick i) (t + m.largestLead)
  ss.foldl (fun a i => if m.predictPick i < m.predictPick a then i else a) (ss.headD 0)

/-- Send MARK and TRIGGER for pick `idx` on both ports of every active chain, `gap` the predicted time to the next pick
(R111, R116, R131); RESTORE_SPLIT goes out once a lead that has risen is in force (R144). -/
def Module.sendTriggers (idx gap : Nat) (pos : Option Nat) (m : Module) : Module :=
  (m.enabledChains.filter fun n => (m.chain n).active).foldl (fun m n =>
    let b := triggerBody idx (m.triggerFlags n pos) (satU16 (gap / 4000))
    ((((m.emit (.mark n 0)).sendWarp n 0 b).emit (.mark n 1)).sendWarp n 1 b).updChain n fun c =>
      { c with restore := c.restore && c.leadNext.isSome }) m

/-- The predicted time from a pick placed at `inst` to the next (R116), as the angle model and the schedule stand: a slot passed
by a jump follows at once, subject to R86; slot 0 of a new schedule lies at least 200 µs on (R90). -/
def Module.nextGap (inst : Nat) (m : Module) : Nat :=
  if m.pck.late ≠ [] then usec 200
  else
    let fresh := m.slotCommit.isSome && decide (m.pck.nextSlot = 0)
    let n := match m.slotCommit with
      | some w => if fresh then m.withShadow (w.filter fun x => slotSetting x.1) [] else m
      | none => m
    let c := if m.ang.state = .slewing then ceilDiv (m.runCycle * 100) 98 else m.runCycle
    let at_ := n.predictPick n.pck.nextSlot
    let at_ := if at_ ≤ inst then at_ + c else at_
    if at_ < inst + usec 200 then (if fresh then at_ + c - inst else usec 200) else at_ - inst

/-- Place the pick that follows and send its trigger frames (R86, R87). A slot passed by a jump is taken first, LATE; a pick
too near its trigger is placed one lead ahead, LATE; one within 200 µs of the pick before is delayed, LATE. `fresh`: the
pick is slot 0 of a new schedule (R90), which lies at least 200 µs after the last pick, and opens a window. Only an event
passed by a jump counts in ANG_CNT_LATE and raises event 45; a pick LATE under R86 or R87 alone counts in PCK_CNT_LATE only:
the manual leaves open whether it counts in both (DESIGN CHOICE). -/
def Module.placePick (fresh : Bool) (t : Nat) (m : Module) : Module :=
  let p := m.pck
  let lead := m.largestLead
  let (slot, jumped) := match p.late with
    | s :: _ => (s, true)
    | [] => (if p.running then p.nextSlot else m.firstSlot t, false)
  let first := m.predictPick slot
  let due := if jumped then onGrid (t + lead)
    else if fresh && decide (first < p.instant + usec 200) then first + m.runCycle
    else first
  let short := tooNear due (t + lead)
  let at1 := if short then onGrid (t + lead) else due
  let near := p.running && decide (at1 < p.instant + usec 200)
  let inst := if near then p.instant + usec 200 else at1
  let late := jumped || short || near
  let m := if jumped then m.lateEvent else m
  let m := if near then (m.bump 0x050024).raiseOnce 48 else m
  let m := if late then m.bump 0x050020 else m
  let idx := if p.running then p.index + 1 else 0
  let pos := if fresh then (if m.windowMode then some 0 else none) else m.nextWinPos slot
  let m := m.onPck fun p =>
    { p with placed := some { instant := inst, slot := slot, late := late, jumped := jumped, held := p.heldNext, fresh := fresh },
             heldNext := false, late := p.late.drop 1, nextSlot := if jumped && decide (slot ≠ p.nextSlot) then p.nextSlot
               else (slot + 1) % m.pickK }
  (m.onWrp fun w => { w with nextPos := pos }).sendTriggers idx (m.nextGap inst) pos

/-- PICK_TRIGGER (R87, R90): the first trigger frame leaves and fixes the pick instant. The pick after slot K − 1 is placed
under the settings of a commit that waits for it. -/
def Module.pickTrigger (t : Nat) (m : Module) : Module :=
  if m.inBoot || m.pck.placed.isSome then m
  else
    let m := m.angTo t
    let m := if m.pck.running && (decide (m.pck.nextSlot ≠ 0) || !m.pck.late.isEmpty) then m else m.applyLeads
    match m.slotCommit with
    | some w =>
      if m.pck.running && decide (m.pck.nextSlot = 0) && m.pck.late.isEmpty then
        ((m.withShadow (w.filter fun x => slotSetting x.1) []).placePick true t).onSet fun _ => m.set
      else m.placePick false t
    | none => m.placePick false t
def execPickTrigger (t : Nat) (s : State) : Host.Outcome State Fault Refusal := s.go (·.pickTrigger t)

/-! ### Balancing (R145 to R152, R157 to R159) -/

/-- Send a BALANCE for the pick `start` (R145, R158); DURATION 0 stops the monitor at once, a newer command takes the place of an
older one at its own START. -/
def Module.balSend (key : Nat) (b : BalCmd) (m : Module) : Module :=
  let m := (m.updBal key fun x =>
    { x with next := if b.dur = 0 then [] else x.next ++ [b], hot := false, heldMask := 0, heldRemaining := 0, heldSource := 0,
             watchdog := false }).sendWarp
    (key / 64) ((m.chain (key / 64)).portOf (key % 64)) (balBody (key % 64) b.mask b.dur (b.start % 2 ^ 32))
  if b.dur = 0 then m.balStop key else m

/-- One monitor's balancing at pick `idx` (R145): the newest command for this pick begins, a running one counts its conversions
and ends. -/
def Module.balPickOne (idx key : Nat) (m : Module) : Module :=
  let b := m.balOf key
  match (b.next.filter fun c => c.start = idx).getLast? with
  | some c =>
    let m := m.balStop key
    (m.updBal key fun b =>
      { b with mask := c.mask, remaining := c.dur, source := c.source, start := c.start
               next := b.next.filter fun x => x.start ≠ idx }).cloBalance
      (key / 64) (key % 64) c.source c.mask c.dur (c.start % 2 ^ 32) c.start
  | none =>
    if b.mask = 0 then m
    else if b.remaining ≤ 1 then m.balStop key
    else m.updBal key fun b => { b with remaining := b.remaining - 1 }

/-- Balancing at a pick, and the BALANCE_SET requests whose start pick it is (R145, R158). -/
def Module.balPick (idx : Nat) (m : Module) : Module :=
  let m := (m.wrp.bal.map (·.1)).foldl (fun m k => m.balPickOne idx k) m
  let due := m.wrp.balReqs.filter fun q => q.start ≤ idx && q.targets.all fun t => t.1 ∈ q.acked
  (m.onWrp fun w => { w with balReqs := w.balReqs.filter fun q => !(due.any (·.cmd = q.cmd)) })|> fun m =>
    due.foldl (fun m q => m.finish q.cmd .done (leBytes 8 q.start)) m

/-- The cells that balance at the latest pick are counted in (R175). -/
def Module.balAdd (m : Module) : Module :=
  let cells := m.wrp.bal.flatMap fun p => (maskList 16 p.2.mask).map fun i => 512 * (p.1 / 64) + 16 * (p.1 % 64 - 1) + i
  m.onEst fun e => { e with bal := cells.foldl (fun t c => tabUpd 0 t c (· + 1)) e.bal }

/-- BALANCE_ACK_RX (R158): the target that stored this START is marked as acknowledged. -/
def Module.balAck (n : Nat) (f : WFrame) (m : Module) : Module :=
  let b := f.body
  if !frameOk 0x31 12 f then m.discard n
  else
    let key := n * 64 + byteAt b 1
    m.onWrp fun w => { w with balReqs := w.balReqs.map fun q =>
      if q.start % 2 ^ 32 = field b 4 4 && q.targets.any (fun t => t.1 = key && t.2.1 = field b 2 2)
      then { q with acked := key :: q.acked.filter (· ≠ key) } else q }
def execBalanceAckRx (chain : Nat) (f : WFrame) (s : State) : Host.Outcome State Fault Refusal := s.go (·.balAck chain f)

/-- BALANCE_ACK_TIMEOUT (R158): a target not acknowledged by the conversion of pick START − 1: DURATION 0 to every
target, TIMEOUT. -/
def Module.balTimeout (start : Nat) (m : Module) : Module :=
  m.balRefuse (fun q => q.start = start && !(q.targets.all fun t => t.1 ∈ q.acked)) .timeout
def execBalanceAckTimeout (pick : Nat) (s : State) : Host.Outcome State Fault Refusal := s.go (·.balTimeout pick)

/-- Bits set in a mask of `n` bits. -/
def popCount (n mask : Nat) : Nat := (maskList n mask).length

/-- A mask cut to the `k` lowest of its cells (R149; which cells stay where BAL_MAX_PER_MON has fallen is a DESIGN CHOICE). -/
def clipMask (k mask : Nat) : Nat := ((maskList 16 mask).take k).foldl (fun a i => a + 2 ^ i) 0

/-- The source of a balance command is at work (R149, R150): none in BOOT, SAFE-HOLD and BAL_MODE 0; the automatic policy only in
BAL_MODE 2, and not in FORMATION. -/
def Module.balSource (src : Nat) (m : Module) : Bool :=
  !m.inBoot && m.sys.mode ≠ .safeHold && decide (m.setting 0x0205 ≠ 0)
    && (src ≠ 2 || (decide (m.setting 0x0205 = 2) && m.sys.mode ≠ .formation))

/-- BALANCE_HOT_RESUME (R149): 60 s after DIE_HOT last cleared, what was left is issued again where its source is still at
work. -/
def Module.balResume (n a : Nat) (m : Module) : Module :=
  let key := n * 64 + a
  let b := m.balOf key
  if ((m.chain n).dev a).status.testBit 4 then m
  else
    let m := m.updBal key fun x => { x with warm := false, hot := false, heldMask := 0, heldRemaining := 0, heldSource := 0 }
    if !b.hot || !m.balSource b.heldSource then m
    else m.balSend key { mask := clipMask (m.setting 0x0206) b.heldMask, dur := b.heldRemaining, start := m.pck.index + 4,
                         source := b.heldSource }
def execBalanceHotResume (chain addr : Nat) (s : State) : Host.Outcome State Fault Refusal := s.go (·.balResume chain addr)

/-- Cut a byte string into entries of `k` bytes. -/
def chunks (k : Nat) : Nat → Bytes → List Bytes
  | 0, _ => []
  | n + 1, b => b.take k :: chunks k n (b.drop k)

/-- BALANCE_SET (R157 to R159). -/
def cmdBalanceSet (r : Req) (m : Module) : Resp :=
  let p := r.payload
  let e := byteAt p 0
  let ents := chunks 8 e (p.drop 4)
  let ts := ents.map fun x => (byteAt x 0 * 64 + byteAt x 1, field x 2 2, field x 4 2)
  if p.length < 4 ∨ p.length ≠ 4 + 8 * e ∨ e < 1 ∨ 64 < e then .fail .badLength m
  else if ents.any (fun x => !(decide (byteAt x 0 ≤ 15) && m.chainEnabled (byteAt x 0)
      && decide (1 ≤ byteAt x 1 ∧ byteAt x 1 ≤ m.monitors (byteAt x 0))))
      || (ts.map (·.1)).eraseDups.length ≠ e || ts.any (fun t => m.setting 0x0206 < popCount 16 t.2.1) then .fail .badParam m
  else if m.lacks r.ctx .operate then .fail .denied m
  else if m.inBoot || m.sys.mode = .safeHold || m.setting 0x0205 = 0 then .fail .wrongMode m
  else if ts.any fun t => !(m.chain (t.1 / 64)).usable || ((m.chain (t.1 / 64)).dev (t.1 % 64)).status.testBit 4 then
    .fail .busy m
  else
    let start := m.pck.index + 4
    let m := ts.foldl (fun m t => m.balSend t.1 { mask := t.2.1, dur := t.2.2, start := start, source := 1 }) m
    .wait [] [] (m.onWrp fun w => { w with balReqs := w.balReqs ++ [{ cmd := m.thisId, start := start, targets := ts }] })
def execBalanceSet (r : Req) (s : State) : Host.Outcome State Fault Refusal := s.go (·.request 0x0204 cmdBalanceSet r)

/-! ### Registers (R163 to R170) -/

/-- Cells balancing and monitors stopped under R149 on a chain. -/
def Module.balCells (n : Nat) (m : Module) : Nat :=
  ((m.wrp.bal.filter fun p => p.1 / 64 = n).map fun p => popCount 16 p.2.mask).sum
def Module.balHot (n : Nat) (m : Module) : Nat :=
  (m.wrp.bal.filter fun p => p.1 / 64 = n && p.2.hot).length

/-- The registers of chain `n`, at offset `o` of its set. -/
def Module.chainReg (n o : Nat) (m : Module) : Option Nat :=
  let c := m.chain n
  match o with
  | 0x00 =>
    let (st, cause, brk, sp) := c.shown
    some (chainStateCode st + 8 * cause + 0x40 * bit c.lockA + 0x80 * bit c.lockB + 0x100 * brk
      + 0x4000 * bit c.rosterChanged + 0x8000 * bit c.healing + 0x10000 * sp + 0x400000 * bit (c.skewWide ≠ 0))
  | 0x04 => some (m.monitors n)
  | 0x08 => some (ceilDiv c.lead 4 % 0x4000 + 0x10000 * c.maxHops)
  | 0x0C => some (c.returnLast + 0x10000 * c.returnMax)
  | 0x10 => some (c.present % 2 ^ 32)
  | 0x14 => some (c.present / 2 ^ 32)
  | 0x18 => some (c.skewWide % 2 ^ 32)
  | 0x1C => some (c.skewWide / 2 ^ 32)
  | 0x20 => some (m.counter (0x060120 + 0x40 * n))
  | 0x24 => some (m.counter (0x060124 + 0x40 * n))
  | 0x28 => some (m.counter (0x060128 + 0x40 * n))
  | 0x2C => some (m.counter (0x06012C + 0x40 * n))
  | 0x30 => some (m.balCells n + 0x10000 * m.balHot n)
  | _ => none

/-- The registers of the WRP block. -/
def Module.wrpReg (off : Nat) (m : Module) : Option Nat :=
  match off with
  | 0x060000 => some (m.setting 0x0200 + 0x10000 * m.setting 0x0202 + 0x20000 * m.setting 0x0203 + 0x80000 * bit (!m.windowMode))
  | 0x060004 => some (m.setting 0x0204 + 0x400 * m.setting 0x0205 + 0x1000 * m.setting 0x0206)
  | 0x060008 =>
    some (maskOf 16 (fun n => (m.chain n).shown.1 ∈ [.loop, .broken]) + 0x10000 * maskOf 16 fun n => (m.chain n).shown.1 = .broken)
  | 0x06000C => some (m.wrp.releaseLast + 0x10000 * m.wrp.releaseMax)
  | _ => if 0x060100 ≤ off ∧ off < 0x060500 then m.chainReg ((off - 0x060100) / 0x40) ((off - 0x060100) % 0x40) else none

/-! ### Requests (R156, R160 to R162) -/

/-- The checks of a warp request that names a chain (R161). -/
def Module.chainRequest (r : Req) (p : Priv) (m : Module) (k : Nat → Resp) : Resp :=
  if r.payload.length ≠ 4 then .fail .badLength m
  else if 15 < byteAt r.payload 0 then .fail .badParam m
  else if m.lacks r.ctx p then .fail .denied m
  else if m.inBoot then .fail .wrongMode m
  else k (byteAt r.payload 0)

def cmdWarpStatusGet (r : Req) (m : Module) : Resp :=
  m.chainRequest r .observe fun n =>
    .done ((List.range 8).flatMap fun i => leBytes 4 ((m.chainReg n (4 * i)).getD 0)) m
def execWarpStatusGet (r : Req) (s : State) : Host.Outcome State Fault Refusal := s.go (·.request 0x0200 cmdWarpStatusGet r)

def cmdWarpRosterGet (r : Req) (m : Module) : Resp :=
  m.chainRequest r .observe fun n =>
    .done ((List.range 33).flatMap fun a =>
      let d := (m.chain n).dev a
      leBytes 1 (d.type.getD 0) ++ leBytes 1 d.hwRev ++ leBytes 2 d.fw ++ leBytes 1 (bit d.answering) ++ zeros 3 ++ leBytes 8 d.serial) m
def execWarpRosterGet (r : Req) (s : State) : Host.Outcome State Fault Refusal := s.go (·.request 0x0201 cmdWarpRosterGet r)

/-- WARP_ROSTER_ACCEPT (R127, R160). -/
def cmdWarpRosterAccept (r : Req) (m : Module) : Resp :=
  m.chainRequest r .engineer fun n =>
    if !(m.chain n).usable then .fail .busy m
    else .late [] (m.updChain n fun c => { c with roster := some c.serials, rosterChanged := false })
def execWarpRosterAccept (r : Req) (s : State) : Host.Outcome State Fault Refusal :=
  s.go (·.request 0x0202 cmdWarpRosterAccept r)

/-- WARP_REENUMERATE (R161, R162): the named chains go to TRAINING; DONE once all have left ENUMERATING. -/
def cmdWarpReenumerate (r : Req) (m : Module) : Resp :=
  let mask := field r.payload 0 2
  let ns := maskList 16 mask
  if r.payload.length ≠ 4 then .fail .badLength m
  else if mask = 0 || ns.any (fun n => !m.chainEnabled n) then .fail .badParam m
  else if m.lacks r.ctx .engineer then .fail .denied m
  else if !(m.sys.mode = .commission || m.sys.mode = .safeHold
      || (m.sys.mode = .standby && ns.all fun n => (m.chain n).state ∈ [.partial_, .fault, .down])) then .fail .wrongMode m
  else
    let go := ns.filter fun n => (m.chain n).state ∈ [.loop, .broken, .partial_, .fault, .down]
    let m := go.foldl (fun m n => m.train n) m
    .waitFixed [] [] (m.onWrp fun w => { w with reenum := w.reenum ++ [(m.thisId, mask)] })
def execWarpReenumerate (r : Req) (s : State) : Host.Outcome State Fault Refusal :=
  s.go (·.request 0x0203 cmdWarpReenumerate r)

/-- BALANCE_STATUS_GET (R156). -/
def cmdBalanceStatusGet (r : Req) (m : Module) : Resp :=
  m.chainRequest r .observe fun n =>
    .done ((List.range 32).flatMap fun i =>
      let b := m.balOf (n * 64 + i + 1)
      leBytes 2 b.mask ++ leBytes 2 b.remaining ++ leBytes 1 (if b.mask = 0 then 0 else b.source)
        ++ leBytes 1 (bit b.hot + 2 * bit b.watchdog) ++ zeros 2) m
def execBalanceStatusGet (r : Req) (s : State) : Host.Outcome State Fault Refusal := s.go (·.request 0x0205 cmdBalanceStatusGet r)

/-- The chain counters in the order of WARP_COUNTERS_GET (R156). -/
def warpCounters : List Nat :=
  (List.range 16).flatMap fun n => (List.range 4).map fun i => 0x060120 + 0x40 * n + 4 * i

def cmdWarpCountersGet (r : Req) (m : Module) : Resp :=
  m.basic r 0 .observe (let (p, m) := m.readCounters warpCounters; .done p m)
def execWarpCountersGet (r : Req) (s : State) : Host.Outcome State Fault Refusal := s.go (·.request 0x0206 cmdWarpCountersGet r)

end Sys2Proof.Machine
end

