-- ==== Sys2Proof/Machine/WftOps.lean ====
section
/-! DEFINITION. Machine/WftOps.lean: groups, tiles, banks, power domains and takeover (R261 to R310). -/
namespace Sys2Proof.Machine

/-! ### Cells and groups (R172, R264) -/

/-- Configured monitors in group order: string and monitor address. -/
def Module.groups (m : Module) : List (Nat × Nat) :=
  m.enabledChains.flatMap fun n => (List.range (m.monitors n)).map fun i => (n, i + 1)

/-- First cell of a monitor (R172). -/
def firstCell (g : Nat × Nat) : Nat := 512 * g.1 + 16 * (g.2 - 1)

/-- First cell of group number `g`; 0xFFFF for no group. -/
def Module.groupCell (g : Nat) (m : Module) : Nat := (m.groups[g]?.map firstCell).getD 0xFFFF

/-- The configured cells of string `n`, ascending. -/
def Module.stringCells (n : Nat) (m : Module) : List Nat :=
  if m.chainEnabled n then (List.range (16 * m.monitors n)).map (512 * n + ·) else []

def Module.cellCount (m : Module) : Nat := 16 * m.groups.length

/-- Configured cells, ascending. -/
def Module.allCells (m : Module) : List Nat := m.enabledChains.flatMap fun n => m.stringCells n

/-- Groups a live tile takes at most, and cells a tile's share is counted by (R53, R264). -/
def Module.tileCap (m : Module) : Nat := if m.windowMode then 16 else 8
def Module.liveNeeded (m : Module) : Nat := ceilDiv m.groups.length m.tileCap

def Module.tile (t : Nat) (m : Module) : Tile := tabGet {} m.wft.tiles t
def Module.updTile (t : Nat) (f : Tile → Tile) (m : Module) : Module :=
  m.onWft fun w => { w with tiles := tabUpd {} w.tiles t f }

def tileNos : List Nat := List.range 32

def Module.tilesIn (st : TileState) (m : Module) : List Nat := tileNos.filter fun t => (m.tile t).state = st
/-- Pool tiles (R262): healthy, neither LIVE nor SPARE nor becoming either. -/
def Module.isPool (t : Nat) (m : Module) : Bool :=
  !(t ∈ m.wft.take.map (·.repl)) && !(m.tile t).toSpare
    && decide ((m.tile t).state ∈ [.off, .starting, .idle, .replay, .shed])

def tileCode : TileState → Nat
  | .off => 0 | .starting => 1 | .idle => 2 | .live => 3 | .spare => 4 | .replay => 5 | .fault => 6 | .shed => 7

/-- The live tile that steps a cell. -/
def Module.tileOfGroup (g : Nat) (m : Module) : Option Nat :=
  tileNos.find? fun t => decide ((m.tile t).state = .live) && decide (g ∈ (m.tile t).groups)

/-- Cells a live tile steps. -/
def Module.tileCells (t : Nat) (m : Module) : List Nat :=
  (m.tile t).groups.flatMap fun g => (List.range 16).map (m.groupCell g + ·)

/-- The configured cells with the live tiles that step them. -/
def Module.cellTiles (m : Module) : List (Nat × Nat) := tileNos.flatMap fun t => (m.tileCells t).map fun c => (c, t)

/-- Cells stepped now, ascending. -/
def Module.livedCells (m : Module) : List Nat :=
  let gs := (m.tilesIn .live).flatMap fun t => (m.tile t).groups
  ((List.range m.groups.length).filter (· ∈ gs)).flatMap fun g => (List.range 16).map (m.groupCell g + ·)

/-- The 256-byte reply of WFT_MAP_GET (R299). -/
def Module.wftMap (m : Module) : Bytes :=
  tileNos.flatMap fun t =>
    let x := m.tile t
    leBytes 1 (tileCode x.state) ++ leBytes 1 x.groups.length ++
      (match x.groups with
       | [] => leBytes 2 0xFFFF ++ leBytes 2 0xFFFF ++ leBytes 2 0xFFFF
       | g :: gs => leBytes 2 g ++ leBytes 2 (m.groupCell g) ++ leBytes 2 (m.groupCell ((g :: gs).getLastD g) + 15))

/-- Predicted step cost of `g` groups (R268), and load in 0.1 % of the budget. -/
def Module.stepCost (g : Nat) (m : Module) : Nat := 3200 + g * (if m.windowMode then 9600 else 10000)
def loadOf (c : Nat) : Nat := c * 1000 / 208000

/-! ### Learned copies as stored (R246) -/

/-- The 512-byte record of a cell: learned data, epoch and swept counters; the CRC is 0 in a bank (R281). -/
def learnRecord (cell epoch : Nat) (l : Learn) (ahChg ahDis efc : Nat) : Bytes :=
  leBytes 2 cell ++ leBytes 2 (bit (l.q ≠ 0) + 2 * bit (l.tauS ≠ 0xFFFF) + 4 * bit l.suspect) ++ leBytes 4 epoch
    ++ leBytes 4 l.q ++ leBytes 4 l.stampS ++ leBytes 4 ahChg ++ leBytes 4 ahDis ++ leBytes 4 efc ++ leBytes 2 l.tauS
    ++ leBytes 1 l.run ++ zeros 1 ++ (List.range 192).flatMap (fun i => leBytes 2 (tabGet 0xFFFF l.imp i))
    ++ (List.range 48).flatMap (fun i => leBytes 1 (tabGet 0 l.binN i)) ++ leBytes 4 l.stampC ++ zeros 44

def Module.learn (c : Nat) (m : Module) : Learn := tabGet {} m.lrn.work c
def Module.updLearn (c : Nat) (f : Learn → Learn) (m : Module) : Module :=
  m.onLrn fun l => { l with work := tabUpd {} l.work c f }
def Module.lrec (c : Nat) (m : Module) : LRec := (tabGet ({} : LSlots) m.lrn.recs c).newest.getD {}

/-- The working copy in a bank: 512 bytes, EPOCH and CRC unused. -/
def Module.learnBytes (c : Nat) (m : Module) : Bytes :=
  let r := m.lrec c
  learnRecord c 0 (m.learn c) r.ahChg r.ahDis r.efc

/-! ### Cells of the estimator -/

def Module.cell (c : Nat) (m : Module) : Cell := (tabGet none m.est.cells c).getD {}
def Module.putCell (c : Nat) (x : Cell) (m : Module) : Module :=
  m.onEst fun e => { e with cells := tabPut none e.cells c (some x) }
def Module.updCell (c : Nat) (f : Cell → Cell) (m : Module) : Module := m.putCell c (f (m.cell c))
def Cell.valid (x : Cell) : Bool := x.flags.testBit 0

/-- A flag's bit set or cleared. -/
def setFlag (i : Nat) (b : Bool) (v : Nat) : Nat := (if v.testBit i then v - 2 ^ i else v) + (if b then 2 ^ i else 0)

def Module.str (n : Nat) (m : Module) : Str := tabGet {} m.est.strs n
def Module.updStr (n : Nat) (f : Str → Str) (m : Module) : Module :=
  m.onEst fun e => { e with strs := tabUpd {} e.strs n f }

/-- Cells that wait for a cold start: not VALID until then; the string's limits restart from 0 (R196, R266). -/
def Module.dropCells (cs : List Nat) (m : Module) : Module :=
  cs.foldl (fun m c => m.updCell c fun x =>
    { x with init := false, flags := setFlag 0 false x.flags, capExcl := x.capExcl || (x.valid && decide ((m.str (c / 512)).cap ≠ 0)) }) m

def Module.restartStrings (cs : List Nat) (m : Module) : Module :=
  m.onEst fun e => { e with restart := (e.restart ++ cs.map (· / 512)).eraseDups }

/-- ESTIMATOR_NOT_READY is set (R202): every configured cell must be VALID at a step again. -/
def Module.setNotReady (m : Module) : Module :=
  (m.allCells.foldl (fun m c => m.updCell c fun x => { x with seen := false }) m).onEst fun e => { e with notReady := true }

/-! ### Banks (R289 to R291) -/

/-- The owner of a bank at power-on (R289, R305). -/
def bankReset (n : Nat) : Bank :=
  if n < 64 then { owner := n / 2, ownerB := 0x3F }
  else if n = 66 then { owner := 0, ownerB := 36 }
  else if n = 67 then { owner := 35, ownerB := 0 }
  else { owner := 32, ownerB := 32 }

def Module.bank (n : Nat) (m : Module) : Bank := (tabGet none m.wft.banks n).getD (bankReset n)
def Module.updBank (n : Nat) (f : Bank → Bank) (m : Module) : Module :=
  m.onWft fun w => { w with banks := tabPut none w.banks n (some (f (m.bank n))) }

def Module.dom (d : Nat) (m : Module) : Dom := tabGet {} m.wft.doms d
def Module.updDom (d : Nat) (f : Dom → Dom) (m : Module) : Module :=
  m.onWft fun w => { w with doms := tabUpd {} w.doms d f }

/-! ### Power domains (R294 to R297) -/

/-- A bank of group `g` is owned by a master 32 to 37, or goes to one. -/
def Module.groupHeld (g : Nat) (m : Module) : Bool :=
  (List.range 4).any fun i =>
    let b := m.bank (4 * g + i)
    decide (32 ≤ b.owner ∧ b.owner ≤ 37) || b.dest.any fun x => decide (32 ≤ x ∧ x ≤ 37)

def Module.policyTileOn (m : Module) : Bool := (m.setting 0x0341).testBit 0
def Module.policyRetain (m : Module) : Bool := (m.setting 0x0341).testBit 1

/-- A tile's domain is due ON (R295); a tile a takeover waits for is kept on. -/
def Module.tileOnDue (t : Nat) (m : Module) : Bool :=
  let req := (m.dom t).req
  (t ∈ m.wft.take.map (·.repl)) ||
  match (m.tile t).state with
  | .live => true | .spare => true | .replay => true | .starting => true
  | .off => req = 1 || (req ≠ 3 && m.policyTileOn)
  | .idle => req = 1 || (req ≠ 3 && m.policyTileOn)
  | .fault => false | .shed => false

/-- The state a domain is due to have (R294, R295); `draft`: a program is loaded. -/
def Module.domDue (draft : Bool) (d : Nat) (m : Module) : Nat :=
  let x := m.dom d
  if d < 32 then bit (m.tileOnDue d)
  else if d < 48 then
    let g := d - 32
    let on := fun t => m.tileOnDue t || decide ((m.dom t).state ≠ 0)
    if on (2 * g) || on (2 * g + 1) || m.groupHeld g || m.wft.take.any (fun k => k.faulted / 2 = g) then 1
    else match x.req with
      | 1 => 1 | 2 => 2 | 3 => 0
      | _ => if m.policyRetain then 2 else 0
  else if d = 48 then (if x.req = 1 then 1 else if x.req = 3 then bit (m.rep.state = 1 || m.rep.state = 2)
    else bit (m.wft.replayKeep || m.rep.state = 1 || m.rep.state = 2))
  else if d = 51 then (if x.req = 1 then 1 else if x.req = 3 then 0 else bit draft)
  else 1

/-- The state a request of a domain asks for (R309). -/
def reqState (req : Nat) : Nat := if req = 3 then 0 else req

/-- Start the change of one domain that is not in its due state. A pool tile to be powered starts; one to be switched off
is OFF. A request the module overrides returns to AUTO (R297). -/
def Module.powerOne (draft : Bool) (d : Nat) (m : Module) : Module :=
  let due := m.domDue draft d
  let m := if (m.dom d).req ≠ 0 && due ≠ reqState (m.dom d).req then m.updDom d fun y => { y with req := 0 } else m
  let x := m.dom d
  if x.dest.getD x.state = due then m
  else
    let m := if d < 32 then
        m.updTile d fun t => { t with state := if due = 1 && t.state = .off then .starting
                                               else if due = 0 && t.state = .idle then .off else t.state }
      else m
    let m := if d ≥ 32 && d < 48 && due = 1 && x.state = 2 then m.bump 0x010110 else m
    m.updDom d fun y => { y with dest := if due = y.state then none else some due }

/-- Bring every domain towards its due state; tiles first, since a group follows its tiles. -/
def Module.powerUpdate (draft : Bool) (m : Module) : Module :=
  (List.range 52).foldl (fun m d => if d = 49 || d = 50 then m else m.powerOne draft d) m

/-- A draft program is loaded: kept as the AUTO need of domain 51 (R295). -/
def Module.power (m : Module) : Module := m.powerUpdate m.sys.draftLoaded

/-! ### Handover (R290, R291) -/

/-- The home tile's state keeps a bank from host handovers. -/
def Module.bankInUse (n : Nat) (m : Module) : Bool :=
  if n < 64 then decide ((m.tile (n / 2)).state ∈ [.live, .spare, .starting]) else true

/-- A handover request of port A, or of port B (R290): `own` the module's own. Refused, REQ reads OWNER again. -/
def Module.ownReq (own : Bool) (n : Nat) (portB : Bool) (master : Nat) (m : Module) : Module :=
  let b := m.bank n
  let pend := if portB then b.toB else b.dest
  let cur := if portB then b.ownerB else b.owner
  let cause :=
    if 37 < master then 1
    else if !own && m.bankInUse n then 2
    else if pend.isSome then 3
    else if n < 64 && (m.dom (32 + n / 4)).state = 0 then 4
    else if !own && !(decide (33 ≤ master ∧ master ≤ 37) || (decide (n < 64) && master = n / 2)) then 5
    else 0
  if master = cur && pend.isNone then m
  else if cause ≠ 0 then
    let m := (m.updBank n fun x =>
      if portB then { x with refused := true, reqB := none } else { x with refused := true, req := none }).onWft fun w =>
      { w with lastBank := n, lastPortB := portB, lastMaster := master % 64, lastCause := cause }
    (m.bump 0x020314).raise 201
  else
    (m.updBank n fun x =>
      let x := { x with refused := false }
      if portB then { x with toB := some master, reqB := some master } else { x with dest := some master, req := some master }).power

/-- The module requests a live tile's home banks back from a master they were handed to (R290). -/
def Module.reclaim (t : Nat) (m : Module) : Module :=
  [2 * t, 2 * t + 1].foldl (fun m b => if (m.bank b).dest.isSome then m else m.ownReq true b false t) m

/-- A handover completes (R291); a replay tile's bank that master 33 has loaded is handed on to the tile (R289), and a live tile's
goes back to it. -/
def Module.handoverDone (n : Nat) (portB : Bool) (m : Module) : Module :=
  let b := m.bank n
  match if portB then b.toB else b.dest with
  | none => m
  | some x =>
    let m := ((((m.updBank n fun y =>
      if portB then { y with ownerB := x, toB := none, reqB := none } else { y with owner := x, dest := none, req := none }).power).bump
        0x020310)).raiseOnce 200
    let home := (m.tile (n / 2)).state
    if !portB && n < 64 && x ≠ n / 2 && (home = .live || (home = .replay && x = 33)) then m.ownReq true n false (n / 2) else m

/-- The lowest LIVE tile is lead and takes the array's side of X2 and X3 (R263). -/
def Module.leadUpdate (m : Module) : Module :=
  match m.tilesIn .live with
  | [] => m
  | t :: _ =>
    if m.wft.lead = t then m
    else ((m.onWft fun w => { w with lead := t }).ownReq true 66 false t).ownReq true 67 true t

/-! ### Accesses (R292, R293) -/

/-- An access to a bank (R293): where its group is OFF it is dropped, counted and reported, and its master receives an error; where
the group is in RETENTION it wakes it. Whether the access is made. -/
def Module.bankAccess (n : Nat) (m : Module) : Bool × Module :=
  let d := 32 + n / 4
  if 64 ≤ n then (true, m)
  else if (m.dom d).state = 0 then (false, ((m.bump 0x020304).raise 203).emit (.bankError n))
  else if (m.dom d).state = 2 && (m.dom d).dest ≠ some 1 then
    (true, (m.bump 0x010110).updDom d fun x => { x with dest := some 1 })
  else (true, m)

/-- The application cores and the draft engine read `len` bytes `f` of each cell from its tile's bank 2t (`odd` 0) or 2t + 1, as
non-owners (R280, R281, R292); an access that is dropped reads zeros. A cell no tile steps is in no bank. -/
def Module.readCells (odd len : Nat) (f : Nat → Bytes) (cs : List Nat) (m : Module) : Bytes × Module :=
  cs.foldl (fun (a : Bytes × Module) c => match a.2.cellTiles.find? (·.1 = c) with
    | none => (a.1 ++ f c, a.2)
    | some p =>
      let r := a.2.bankAccess (2 * p.2 + odd)
      (a.1 ++ (if r.1 then f c else zeros len), r.2)) ([], m)

/-! ### Replay's end, as shedding and takeover cause it (R273, R278, R649) -/

/-- A replay ends with a result: event 427; its tiles return to the pool. -/
def Module.replayEnd (result : Nat) (m : Module) : Module :=
  if m.rep.state ≠ 1 && m.rep.state ≠ 2 then m
  else
    let ts := m.rep.tiles
    let ab := m.rep.aborters
    let m := ts.foldl (fun m t => m.updTile t fun x => { x with state := if x.state = .replay then .idle else x.state }) m
    let m := (m.onRep fun r =>
      { r with state := 3, result := result, tiles := [], ended := true, aborters := [] }).raise 427
    (m.finishAll ab .done []).cloPlace.power

/-! ### Faults and takeover (R271 to R276) -/

/-- The replacement for a faulted live tile (R273). -/
def Module.replacement (m : Module) : Option Nat :=
  let used := m.wft.take.map (·.repl)
  let pick := fun (p : Tile → Bool) => tileNos.find? fun t => p (m.tile t) && !(t ∈ used)
  (pick fun x => x.state = .spare).or <| (pick fun x => x.state = .idle).or <|
    (pick fun x => x.state = .replay).or <| pick fun x => x.state = .off || x.state = .shed

/-- The lowest remaining pool tile is made SPARE, powered up if needed (R273). -/
def Module.newSpare (m : Module) : Module :=
  match tileNos.find? (m.isPool ·) with
  | none => m
  | some t =>
    let st := (m.tile t).state
    let m := if st = .replay then m.replayEnd 5 else m
    (m.updTile t fun x =>
      if st = .idle ∨ st = .replay then { x with state := .spare } else { x with state := .starting, toSpare := true }).power

/-- Groups of a faulted tile, or of one whose turn R274 puts after it, that find no replacement stay unassigned (R273). -/
def Module.leaveGroups (gs : List Nat) (m : Module) : Module :=
  ((m.onWft fun w => { w with unassigned := w.unassigned ++ gs }).setNotReady).raise 196

/-- Faults declared in the same step take their replacements in ascending tile number (R274): what the takeovers of this step have
been given is dealt anew among them. -/
def Module.orderTakes (m : Module) : Module :=
  m.onWft fun w =>
    let same := w.take.filter (·.pick = m.pck.index)
    let dealt := (same.mergeSort fun a b => a.faulted ≤ b.faulted).zipWith (fun k r => { k with repl := r.repl, ready := r.ready }) same
    { w with take := w.take.filter (·.pick ≠ m.pck.index) ++ dealt }

/-- Find a replacement for the groups of a faulted tile, or leave them unassigned (R273); of the faults of one step the last in tile
number goes without (R274). -/
def Module.replaceTile (t : Nat) (gs : List Nat) (m : Module) : Module :=
  match m.replacement with
  | none =>
    let last := (m.wft.take.filter fun k => k.pick = m.pck.index && decide (t < k.faulted)).foldl
      (fun (a : Option Takeover) k => match a with
        | none => some k
        | some b => if b.faulted < k.faulted then some k else some b) none
    match last with
    | none => m.leaveGroups gs
    | some k =>
      let m := m.onWft fun w => { w with take := w.take.map fun x => if x.repl = k.repl then { x with faulted := t, groups := gs } else x }
      (m.leaveGroups k.groups).orderTakes
  | some r =>
    let st := (m.tile r).state
    let m := if st = .replay then m.replayEnd 5 else m
    let m := m.updTile r fun x =>
      { x with state := if st = .spare then .spare else if st = .off || st = .shed then .starting else .idle, toSpare := false }
    let k : Takeover := { faulted := t, repl := r, groups := gs, pick := m.pck.index,
                          ready := decide (st = .spare ∨ st = .idle ∨ st = .replay) }
    ((m.onWft fun w => { w with take := w.take ++ [k] }).orderTakes).power

/-- Stop a REPLAY tile that faults: the replay cannot go on; the manual names no result for this, so it is free. -/
def Module.replayLost (m : Module) : Module := (m.replayEnd (1 + Config.freeNat m.free % 9)).useFree

/-- The cells of a halted tile are reported as not VALID from the fault on (R272). -/
def Module.hideCells (cs : List Nat) (m : Module) : Module :=
  let hide := fun (b : OutBuf) => { b with cells := cs.foldl (fun t c =>
    tabPut none t c ((tabGet none t c).map fun x => { x with flags := setFlag 0 false x.flags })) b.cells }
  m.onEst fun e => { e with even := hide e.even, odd := hide e.odd }

/-- A tile is declared faulted with a cause (R271 to R273). -/
def Module.tileFault (t cause : Nat) (m : Module) : Module :=
  let x := m.tile t
  if x.state = .fault || x.state = .off then m
  else
    let m := if cause = 2 then (m.bump 0x070020).raiseOnce 194 else m
    let pend := m.wft.take.filter (·.repl = t)
    let m := if x.state = .replay then m.replayLost else m
    let m := (m.updTile t fun y => { y with state := .fault, cause := cause, groups := [] }).raise 193
    let m := m.onWft fun w => { w with take := w.take.filter (·.repl ≠ t) }
    let m := if x.state = .live then
        let cs := x.groups.flatMap fun g => (List.range 16).map (m.groupCell g + ·)
        ((m.dropCells cs).hideCells cs).replaceTile t x.groups
      else m
    let m := pend.foldl (fun m p => m.replaceTile p.faulted p.groups) m
    let m := if x.state = .spare && pend = [] then m.newSpare else m
    m.power

/-- INPUT subtype 7 (R267, R632). -/
def Module.cloAssign (cause : Nat) (m : Module) : Module :=
  m.cloInput 7 m.pck.index (leBytes 1 cause ++ zeros 3 ++ m.wftMap)

/-- Learned copies that could not be read from the faulted tile's bank come from the newest valid flash record (R276); whether a sweep
that runs has written the cell's record yet is free. -/
def Module.learnFromFlash (cs : List Nat) (m : Module) : Module :=
  let data := fun (c : Nat) (m : Module) =>
    match m.lrn.sweep.bind fun w => if w.header = 0 then none else w.entries.find? (·.cell = c) with
    | some e => if Config.freeNat (m.free + c) % 2 = 1 then e.snap else (m.lrec c).data
    | none => (m.lrec c).data
  let m := (cs.foldl (fun m c => m.updLearn c fun _ => data c m) m).onFree (· + 8192)
  cs.foldl (fun m c => m.cloInput 8 m.pck.index (leBytes 2 c ++ leBytes 2 1 ++ m.learnBytes c)) m

/-- A takeover's assignment comes into force at a pick boundary (R275); `lost`: cells whose copy was not readable. -/
def Module.takeoverAssign (t : Nat) (lost : List Nat) (m : Module) : Module :=
  match m.wft.take.find? fun k => k.faulted = t with
  | none => m
  | some k =>
    if !k.ready then m
    else
      let wasSpare := decide ((m.tile k.repl).state = .spare)
      let cs := k.groups.flatMap fun g => (List.range 16).map (m.groupCell g + ·)
      let m := m.onWft fun w => { w with take := w.take.filter (·.faulted ≠ t) }
      let m := (m.updTile k.repl fun x => { x with state := .live, groups := k.groups, toSpare := false }).reclaim k.repl
      let m := ((m.leadUpdate.dropCells cs).restartStrings cs).learnFromFlash (lost.filter (· ∈ cs))
      let m := ((m.cloAssign 2).raise 192).raise 195
      let m := (m.bump 0x070024).ownReq true (2 * t) false 35
      let m := m.ownReq true (2 * t + 1) false 35
      (if wasSpare then m.newSpare else m).power

/-! ### Deals (R262 to R266) -/

/-- Run lengths of the deal of `g` groups to `t` tiles (R264). -/
def dealSizes (g t : Nat) : List Nat := (List.range t).map fun i => if i < g % t then g / t + 1 else g / t

/-- Runs of the lengths given, from `first` on. -/
def runs : Nat → List Nat → List (List Nat)
  | _, [] => []
  | f, n :: ns => ((List.range n).map (f + ·)) :: runs (f + n) ns

/-- A re-deal (R262 to R266): roles in ascending tile number, groups in contiguous runs; a cell whose tile changes from `old`, the
assignment before, starts cold, and cells that are not configured any more are dropped. -/
def Module.redeal (old : List (Nat × Nat)) (m : Module) : Module :=
  let m := (m.onWft fun w => { w with take := [], unassigned := [] })
  let healthy := tileNos.filter fun t => (m.tile t).state ≠ .fault
  let live := healthy.take m.liveNeeded
  let spare := (healthy.drop m.liveNeeded).take (m.setting 0x0340)
  let n := min m.groups.length (m.tileCap * live.length)
  let rs := runs 0 (dealSizes n live.length)
  let hit := m.rep.tiles.any fun t => t ∈ live ++ spare
  let m := if hit then m.replayEnd 3 else m
  let m := healthy.foldl (fun m t =>
    m.updTile t fun x =>
      if t ∈ live then { x with state := .live, groups := (rs.getD (live.findIdx (· = t)) []), toSpare := false }
      else if t ∈ spare then { x with state := .spare, groups := [], toSpare := false }
      else { x with groups := [], toSpare := false,
                    state := if x.state = .live || x.state = .spare then .idle else x.state }) m
  let m := (live ++ spare).foldl (fun m t =>
    (m.updDom t fun d => { d with state := 1, dest := none }).updDom (32 + t / 2) fun d => { d with state := 1, dest := none }) m
  let m := live.foldl (fun m t => m.reclaim t) m
  let left := (List.range m.groups.length).drop n
  let moved := (m.cellTiles.filter fun p => !(p ∈ old)).map (·.1)
  let leftCells := left.flatMap fun g => (List.range 16).map (m.groupCell g + ·)
  let cfg := m.allCells
  let m := m.onEst fun e => { e with cells := e.cells.filter fun p => p.1 ∈ cfg }
  let m := (m.dropCells (moved ++ leftCells)).restartStrings (moved ++ leftCells)
  let m := if left = [] then m
    else m.leaveGroups left
  (((m.leadUpdate.cloAssign 1).raise 192).onClo fun c => { c with snap := none, snapAt := none }).power

/-! ### Shedding (R278, R279) -/

/-- Pool tiles are shed: running replays end, every pool tile is switched off (R278). -/
def Module.shedTiles (m : Module) : Module :=
  if m.wft.shed then m
  else
    let m := m.replayEnd 4
    let m := (tileNos.filter (m.isPool ·)).foldl (fun m t =>
      m.updTile t fun x => { x with state := .shed }) m
    ((m.onWft fun w => { w with shed := true }).raise 197).power

def Module.shedEnd (m : Module) : Module :=
  if !m.wft.shed then m
  else
    let m := (m.tilesIn .shed).foldl (fun m t => m.updTile t fun x => { x with state := .off }) m
    ((m.onWft fun w => { w with shed := false }).raise 198).power

end Sys2Proof.Machine
end

