-- ==== Sys2Proof/Machine/EstStr.lean ====
section
/-! DEFINITION. Machine/EstStr.lean: the estimator per string and per pick: packs in force, string current, NTC values,
windows, flatness, rest and the capacity run (R175, R180, R187, R225, R226, R239). -/
namespace Sys2Proof.Machine

/-- The stored pack of a slot, if it is valid (R181). -/
def Module.slotPack (k : Nat) (m : Module) : Option Bytes := (tabGet none m.set.bulk (0x03F0 + k)).filter packOk

/-- The valid pack a string uses. -/
def Module.strPack (n : Nat) (m : Module) : Option Bytes := m.slotPack (m.setting (0x0300 + n))

/-- A frame as the estimator takes it: a bank error makes it missing (R283). -/
def Module.estFrame (n a : Nat) (m : Module) : Option Bytes :=
  if 64 * n + a ∈ m.est.badFrames then none else m.frameAt n a

/-- A current field, none for the invalid code (R14). -/
def curField (b : Bytes) (o : Nat) : Option Int := if field b o 4 = 0x80000000 then none else some (sInt 32 (field b o 4))
/-- A temperature field, none for the invalid code (R14). -/
def tempField (b : Bytes) (o : Nat) : Option Int := if field b o 2 = 0x8000 then none else some (sInt 16 (field b o 2))

/-- The string current of the latest pick: I_PRI, else I_SEC, in mA (R175). -/
def Module.strCurrent (n : Nat) (m : Module) : Option Int :=
  match m.estFrame n 0 with
  | none => none
  | some b => (curField b 8).or (curField b 12)

def fAmps (mA : Int) : F32 := fq mA 1000

/-- A setting in units of 1/d, as FP32. -/
def Module.setF (id d : Nat) (m : Module) : F32 := fq (m.setting id) d

/-- |x| ≤ y. -/
def fWithin (x y : F32) : Bool := fLe (fAbs x) y

/-- The mode permits learning (R219). -/
def Module.learns (m : Module) : Bool := decide (m.sys.mode ∈ [.standby, .dispatch, .formation])
def Module.learnBit (i : Nat) (m : Module) : Bool := (m.setting 0x0330).testBit i && m.learns

/-- A capacity run ends with a cause (R239): event 249. -/
def Module.capRunEnd (n cause : Nat) (m : Module) : Module :=
  (m.updStr n fun s => { s with cap := 0, capEnd := cause, capStop := m.pck.index }).raise 249

/-- The span of a string ends (R226). -/
def Module.spanEnd (n : Nat) (m : Module) : Module :=
  m.updStr n fun s => { s with span := s.span.map fun x => if x.ended.isNone then { x with ended := some m.pck.instant } else x }

/-- The string's span runs. -/
def Str.spanOn (s : Str) : Bool := s.span.any fun x => x.ended.isNone
/-- A check time may be taken at the step of the pick at `t` (R228): the span runs, or has run its 128 s at this pick. -/
def Str.spanTakes (t : Nat) (s : Str) : Bool := s.span.any fun x => match x.ended with
  | none => true
  | some e => decide (e = t ∧ x.t0 + secs 128 ≤ e)
/-- A span was active just before the clock `t` (R225). -/
def Str.spanAt (t : Nat) (s : Str) : Bool := s.span.any fun x => match x.ended with
  | none => true
  | some e => decide (t ≤ e)

/-- Learning stands still in a mode that does not permit it (R219): spans and capacity runs end. -/
def Module.learnStop (m : Module) : Module :=
  (List.range 16).foldl (fun m n =>
    let m := m.spanEnd n
    if (m.str n).cap ≠ 0 then m.capRunEnd n 5 else m) m

/-- A window takes one pick's current. -/
def Win.add (t : Nat) (c : Option Int) (w : Win) : Win :=
  let w := { w with picks := w.picks + 1, at_ := if w.picks = 0 then t else w.at_ }
  match c with
  | none => { w with bad := true }
  | some i =>
    if w.n = 0 then { w with n := 1, sum := fAmps i, first := i, lo := i, hi := i }
    else { w with n := w.n + 1, sum := fAdd w.sum (fAmps i), lo := min w.lo i, hi := max w.hi i }

/-- Keep the picks of the last `pre` and one older. -/
def trimHist (from_ : Nat) : List (Nat × Option Int) → List (Nat × Option Int)
  | [] => []
  | x :: xs => if x.1 < from_ then [x] else x :: trimHist from_ xs

/-- A string at rest: |I| ≤ EST_REST_I × Q_RATED (R239). -/
def Module.atRest (n : Nat) (m : Module) : Bool :=
  match m.strPack n, (m.str n).cur with
  | some pk, some i => fWithin (fAmps i) (fMul (m.setF 0x031E 1000) (packQ pk))
  | _, _ => false

/-- The current-only events of the capacity run at a pick (R239). -/
def Module.capPick (n : Nat) (pk : Bytes) (i : Int) (m : Module) : Module :=
  let s := m.str n
  let q := packQ pk
  let restI := fMul (m.setF 0x031E 1000) q
  let a := fAmps i
  let chg := fNeg a
  let q20 := fDiv q (fq 20 1)
  let fell := match s.prev with
    | some p => fLe q20 (fNeg (fAmps p)) && fLt chg q20
    | none => false
  let m := if fell then m.updStr n fun x => { x with fell := some m.pck.index } else m
  if s.cap = 1 then
    if fLe q20 chg then m.updStr n fun x => { x with cap := 0 }
    else if fLt restI a then m.updStr n fun x => { x with cap := 2 }
    else m
  else if s.cap = 2 && fLt restI chg then m.capRunEnd n 3
  else m

/-- What a string keeps at each released pick. -/
def Module.strPick (n : Nat) (m : Module) : Module :=
  let t := m.pck.instant
  let c := m.strCurrent n
  let dt := t - m.pck.prevInstant
  let got := (List.range (m.monitors n + 1)).any fun a => (m.estFrame n a).isSome
  let m := m.updStr n fun s =>
    -- a window that opens at this pick closes the one before it
    let (w, cl, bf) := if m.windowMode && m.wrp.winPos = some 0 then (({} : Win), s.win, s.closed) else (s.win, s.closed, s.before)
    { s with
      prev := s.cur, cur := c
      picks := if s.picks ≠ 0 then s.picks + 1 else bit got
      hist := trimHist (t - secs (m.setting 0x0333 + 1)) ((t, c) :: s.hist)
      win := if m.windowMode then w.add t c else {}, closed := cl, before := bf }
  match m.strPack n with
  | none => m.updStr n fun s => { s with rest := 0 }
  | some pk =>
    let rest := m.atRest n
    let m := m.updStr n fun s => { s with rest := if rest then s.rest + dt else 0 }
    let flat := fMul (m.setF 0x0332 1000) (packQ pk)
    let m := match (m.str n).span with
      | some sp =>
        if sp.ended.isSome then m
        else match c with
          | none => m.spanEnd n
          | some i => if fWithin (fSub (fAmps i) sp.iPost) flat then m else m.spanEnd n
      | none => m
    if !m.learnBit 2 then m
    else match c with
      | some i => m.capPick n pk i
      | none => if (m.str n).cap ≠ 0 then m.capRunEnd n 4 else m

/-- CAP_RUN_REST_TIMEOUT (R239): at rest for longer than 60 s. -/
def execCapRunRestTimeout (string : Nat) (s : State) : Host.Outcome State Fault Refusal :=
  s.go fun m => if (m.str string).cap ≠ 0 && secs 60 < (m.str string).rest then m.capRunEnd string 2 else m

/-- SPAN_END (R226): 128 s after k0. -/
def execSpanEnd (string : Nat) (s : State) : Host.Outcome State Fault Refusal :=
  s.go fun m => match (m.str string).span with
    | some sp => if secs 128 ≤ m.pck.instant - sp.t0 then m.spanEnd string else m
    | none => m

/-! ### NTC inputs (R185) -/

def ntcKey (n mon i : Nat) : Nat := 8 * (32 * n + (mon - 1)) + i
def Module.ntc (k : Nat) (m : Module) : Ntc := tabGet {} m.est.ntc k

/-- A change of a cell that belongs to the latest step: the output buffer shows it too (R211). -/
def Module.stepCell (c : Nat) (f : Cell → Cell) (m : Module) : Module :=
  let put := fun (b : OutBuf) => { b with cells := tabPut none b.cells c ((tabGet none b.cells c).map f) }
  (m.updCell c f).onEst fun e => if e.stepPick.getD 0 % 2 = 0 then { e with even := put e.even } else { e with odd := put e.odd }

/-- The NTC inputs of a monitor take a step: reports of the pick, and the time without a valid one. A valid reading clears
T_SUBST of its two cells, started or not. -/
def Module.ntcStep (n mon dt : Nat) (m : Module) : Module :=
  let report : Nat → Option (Option Int) := fun i =>
    match m.estFrame n mon with
    | none => none
    | some b =>
      if m.windowMode then some (tempField b (90 + 2 * i))
      else if byteAt b 7 = i then some (tempField b 8) else none
  let upd := fun (i : Nat) (x : Ntc) => match report i with
    | none => { x with noT := x.noT + dt }
    | some none => { last := none, noT := x.noT + dt }
    | some (some v) => { last := some v, noT := 0 }
  (List.range 8).foldl (fun m i =>
    let m := m.onEst fun e => { e with ntc := tabUpd {} e.ntc (ntcKey n mon i) (upd i) }
    if !(report i).any (·.isSome) then m
    else [2 * i, 2 * i + 1].foldl (fun m k =>
      let c := firstCell (n, mon) + k
      if (m.cell c).flags.testBit 3 then m.updCell c fun x => { x with flags := setFlag 3 false x.flags } else m) m) m

def fTemp (v : Int) : F32 := fq v 10

/-- Valid NTC values last reported by a monitor. -/
def Module.monTemps (n mon : Nat) (m : Module) : List Int :=
  (List.range 8).filterMap fun i => (m.ntc (ntcKey n mon i)).last

/-- The lowest of them (R176). -/
def Module.ambient (n mon : Nat) (m : Module) : Option F32 :=
  match m.monTemps n mon with
  | [] => none
  | v :: vs => some (fTemp (vs.foldl min v))

/-- A cell's temperature at a start (R201): its NTC input, else the mean of the monitor's, else 25 °C; whether that last
case holds. -/
def Module.startTemp (n mon i : Nat) (m : Module) : F32 × Bool :=
  match (m.ntc (ntcKey n mon (i / 2))).last with
  | some v => (fTemp v, false)
  | none => match m.monTemps n mon with
    | [] => (fq 25 1, true)
    | vs => (fDiv (fSum (vs.map fTemp)) (fOfNat vs.length), false)

/-- T_SUBST_TIMEOUT (R185): 60 s without a valid reading of an input. -/
def Module.tSubst (n mon i : Nat) (m : Module) : Module :=
  if (m.ntc (ntcKey n mon i)).noT < secs 60 then m
  else [2 * i, 2 * i + 1].foldl (fun m k =>
    m.stepCell (firstCell (n, mon) + k) fun x => { x with flags := setFlag 3 true x.flags, capExcl := x.capExcl || (m.str n).cap ≠ 0 }) m
def execTSubstTimeout (chain monitor input : Nat) (s : State) : Host.Outcome State Fault Refusal :=
  s.go (·.tSubst chain monitor input)

end Sys2Proof.Machine
end

