-- ==== Sys2Proof/Machine/Est.lean ====
section
/-! DEFINITION. Machine/Est.lean: the estimator step (R172 to R211, R225 to R229, R236, R239 to R244): every configured cell
on its tile, the string limits, the digest and the snapshot slice. -/
namespace Sys2Proof.Machine

/-! ### Impedance in force (R221, R223) -/

def tempBin (tc : F32) : Nat :=
  ([5, 15, 25, 35, 45].filter fun (t : Nat) => fLe (fq t 1) tc).length

/-- Bin of a blended SOC and core temperature (R221). -/
def binOf (z tc : F32) : Nat :=
  6 * min (fFloor (fMul (fq 8 1) (fClamp z fZero fOne)) 1 1).toNat 7 + tempBin tc

/-- The five parameters of R223: Rser, Rf, Cf, Rs, Cs. -/
def impOf (pk : Bytes) (l : Learn) (b : Nat) : List F32 :=
  let e := fun p (d : Nat) (dflt : F32) => let v := tabGet 0xFFFF l.imp (4 * b + p); if v = 0xFFFF then dflt else fq v d
  let rf := e 1 1000000 (packImp pk 1)
  let rs := e 2 1000000 (packImp pk 3)
  let tf := e 3 1000 (fMul (packImp pk 1) (packImp pk 2))
  let ts := if l.tauS = 0xFFFF then fMul (packImp pk 3) (packImp pk 4) else fq l.tauS 10
  [e 0 1000000 (packImp pk 0), rf, fDiv tf rf, rs, fDiv ts rs]

/-- The capacity in use, Ah (R177). -/
def capOf (pk : Bytes) (l : Learn) : F32 := if l.q = 0 then packQ pk else fq l.q 1000

/-! ### One cell -/

/-- What a cell's step takes from outside its record. -/
structure CEnv where
  /-- its string's pack, and whether there is a valid one -/
  pk : Bytes
  hasPack : Bool
  learn : Learn
  pick : Nat
  dtN : Nat
  window : Bool
  /-- primary and secondary reading, GUARD_SHORT, balancing -/
  vp : Option F32
  vs : Option F32
  guard : Bool
  bal : Bool
  /-- string current of the step; while it is lost, its last valid value and whether the hold has ended -/
  cur : Option F32
  lastI : F32
  holdEnded : Bool
  /-- fraction of the balance current, and the free value where the primary voltage is not known (R175) -/
  f : F32
  freeBal : F32
  /-- reading of the cell's NTC input to update with -/
  temp : Option F32
  ambient : Option F32
  startT : F32 × Bool
  /-- the conditions of R200 on the string and the time -/
  canStart : Bool
  sigPri : F32
  sigSec : F32
  sigT : F32
  sigI : F32
  guardW : F32
  eps : F32
  qR : F32
  qQ : F32
  qS : F32
  nisMax : F32
  shortP : F32
  reserve : F32
  horizon : F32
  restI : F32

/-- The cell current of the step (R175). While the string current is lost it is the last valid string current for the steps of
R187's hold and 0 after that, without balance current, in the voltage model of R183 and at a cold start too (DESIGN CHOICE:
R187 speaks of the mean current alone). -/
def CEnv.cellI (e : CEnv) : F32 :=
  let i := e.cur.getD (if e.holdEnded then 0 else e.lastI)
  if e.cur.isNone || fIsZero e.f then i
  else fAdd i (match e.vp with
    | some v => fMul (fDiv v (fq 144 10)) e.f
    | none => e.freeBal)

/-- The mean current of the prediction (R176, R187). -/
def CEnv.meanI (e : CEnv) (x : Cell) : F32 :=
  if e.cur.isNone || e.window || !x.ran then e.cellI else fMul fHalf (fAdd x.iPrev e.cellI)

/-- The parameters of a step (R177, R223); at a cold start, where no bin is known, the pack defaults. -/
def CEnv.par (e : CEnv) (x : Cell) (ib : F32) : Par :=
  let imp := if x.hyps = [] then impOf e.pk {} 0 else impOf e.pk e.learn (binOf (x.blend 0) (x.blend 4))
  let g := fun i => imp.getD i 0
  { pk := e.pk, dt := fSecs e.dtN, ib := ib, ik := e.cellI, rser := g 0, rf := g 1, cf := g 2, rs := g 3, cs := g 4,
    q := capOf e.pk e.learn, ta := e.ambient, lostI := if e.cur.isNone && e.holdEnded then fAbs e.lastI else 0,
    sigI := e.sigI, qR := e.qR, qQ := e.qQ, qS := e.qS }

/-- The voltage of the update and its variance (R184); whether it is the secondary one. -/
def CEnv.voltage (e : CEnv) : Option (F32 × F32 × Bool) :=
  let w := fun v => if e.guard then fMul v e.guardW else v
  match e.vp, e.vs with
  | some v, _ => some (v, w (fSq e.sigPri), false)
  | none, some v => some (v, w (fSq e.sigSec), true)
  | none, none => none

/-- One hypothesis through the step (R188): hypothesis, innovation, its variance, clamps. -/
def CEnv.hypStep (e : CEnv) (u : Par) (j : Nat) (h : Hyp) : Hyp × F32 × F32 × Nat :=
  let hm := packHystMax e.pk
  let (h, n1) := (predict u j h).clamp hm
  let (h, nu, s) := match e.voltage with
    | some (y, var, _) => voltageUpdate u y var h
    | none => (h, 0, fOne)
  let h := match e.temp with
    | some y => tempUpdate y (fSq e.sigT) h
    | none => h
  let (h, n2) := h.clamp hm
  (h, nu, s, n1 + n2)

/-- A cold start at this step (R201), from the readings that allow it. -/
def CEnv.coldStart (e : CEnv) (x : Cell) : Cell :=
  match e.voltage with
  | none => x
  | some (v, _, sec) =>
    let again := x.prob ≠ []
    let u := e.par { x with hyps := [] } e.cellI
    let rest := fWithin e.cellI e.restI
    { x with
      init := true
      flags := setFlag 0 true (setFlag 1 sec (setFlag 2 false (setFlag 5 false
        (if e.startT.2 then setFlag 3 true x.flags else x.flags))))
      steps := 0, lastPick := e.pick % 2 ^ 32, prob := priors
      hyps := coldHyps e.pk v e.cellI u.rser e.startT.1 rest
      imp := [u.rser, u.rf, u.cf, u.rs, u.cs], q := u.q, nis := 0
      timers := [0, 0, 0, 0], reseed := [0, 0, 0, 0], noV := 0
      reinits := if again then satU32 (x.reinits + 1) else x.reinits }

/-- Start a cell if the conditions of R200 hold; one that has been initialised before starts again at its next valid voltage
reading (R186), the string current lost or not (DEDUCED: R200 speaks of the first start). Else it waits, and its step makes no
voltage update and no clamp (R184, R209). -/
def CEnv.start (e : CEnv) (x : Cell) : Cell :=
  if e.hasPack && e.voltage.isSome && (x.prob ≠ [] || (e.canStart && e.cur.isSome)) then e.coldStart x
  else { x with init := false, flags := setFlag 5 false (setFlag 2 true (setFlag 0 false x.flags)) }

/-- The condition timers (R190, R192) and the flag that clears by itself. -/
def CEnv.timing (e : CEnv) (x : Cell) : Cell :=
  let dt := fSecs e.dtN
  let p := fun j => x.prob.getD j 0
  let t := fun i (c : Bool) => if c then fAdd (x.timers.getD i 0) dt else fZero
  { x with
    timers := [t 0 (fLe fHalf (p 3)), t 1 (fLe e.shortP (p 3)),
      t 2 (if x.flags.testBit 8 then fLt (p 1) fHalf else fLe (fq 9 10) (p 1)),
      t 3 (if x.flags.testBit 9 then fLt (p 2) fHalf else fLe (fq 9 10) (p 2))]
    reseed := (List.range 4).map fun j => if fLt (p j) (fq 1 1000) then x.reseed.getD j 0 + e.dtN else 0
    flags := if fLt (p 3) (fq 2 10) then setFlag 6 false x.flags else x.flags }

/-- Limits, plating margin and PLATE_LOW of the step (R192, R194, R195); whether PLATE_LOW was set. -/
def CEnv.outputs (e : CEnv) (u : Par) (x : Cell) : Cell × Bool :=
  let ms := ((List.range 4).filter fun j => fLe (fq 5 100) (x.prob.getD j 0)).map fun j => marginOf u (x.hyps.getD j {})
  let mar := match ms with
    | [] => fNaN
    | a :: as => as.foldl fMin a
  let (ic, id, by_) := limitsOf u e.horizon (fDiv e.reserve (fq 1000 1)) x
  let low := fLt mar e.reserve
  let fl := setFlag 10 low x.flags
  let fl := setFlag 13 (by_.testBit 1) (setFlag 12 (by_.testBit 0) fl)
  ({ x with flags := fl, out := [fClamp (x.blend 0) fZero fOne, mar, ic, id] }, low && !x.flags.testBit 10)

/-- A state is NaN (R204). -/
def Cell.hasNaN (x : Cell) : Bool := x.hyps.any fun h => h.x.any fIsNaN

/-- The filters of an initialised cell (R188, R189, R203): the cell, and whether it diverged. -/
def CEnv.filter (e : CEnv) (x : Cell) : Cell × Bool :=
  let u := e.par x (e.meanI x)
  let r := (List.range 4).map fun j => e.hypStep u j (x.hyps.getD j {})
  let n := (r.map fun t => t.2.2.2).sum
  let v := e.voltage
  let nu := r.map fun t => t.2.1
  let s := r.map fun t => t.2.2.1
  let prob := if v.isSome then probUpdate e.eps x.prob nu s else x.prob
  let d := dominant prob
  let nis := if v.isSome then fAdd x.nis (fDiv (fSub (fDiv (fSq (nu.getD d 0)) (s.getD d 0)) x.nis) (fq 64 1)) else x.nis
  let fl := setFlag 5 (0 < n) (setFlag 2 v.isNone x.flags)
  let fl := match v with
    | some (_, _, sec) => setFlag 4 e.guard (setFlag 1 sec fl)
    | none => fl
  let x := { x with
    hyps := r.map (·.1), prob := prob, nis := nis, flags := fl, steps := satU32 (x.steps + 1)
    lastPick := e.pick % 2 ^ 32, imp := [u.rser, u.rf, u.cf, u.rs, u.cs], q := u.q
    clamps := satU32 (x.clamps + n), noV := if v.isSome then 0 else x.noV + e.dtN }
  (x, x.hasNaN || fLt e.nisMax nis)

/-- One step of one cell: the cell, whether it diverged, whether PLATE_LOW was set, whether it started cold. The outputs use the
parameters of the step, from the bin of the step before (R177, R223). A cell that diverges starts cold at once, at the current of
`cellI` where the string current is lost. -/
def CEnv.step (e : CEnv) (old : Cell) : Cell × Bool × Bool × Bool :=
  let (x, div, cold) :=
    if old.init && e.hasPack then
      let (y, d) := e.filter old
      let z := e.start y
      if d then ({ z with flags := setFlag 11 true z.flags }, true, z.init) else (y, false, false)
    else
      let z := e.start old
      (z, false, z.init)
  let x := { x with iPrev := e.cellI, ran := true }
  if !x.init then (x, div, false, cold)
  else
    let (x, low) := e.outputs (e.par (if cold then { x with hyps := [] } else old) e.cellI) (e.timing x)
    ({ x with seen := true }, div, low, cold)

/-! ### Learning within the step -/

/-- Ripple accumulation of a cell (R236, R237): `re`, `im` the demodulating factors, `lam` the forgetting factor. -/
def rippleStep (e : CEnv) (lam re im : F32) (restart : Bool) (x : Cell) : Cell :=
  match e.vp, e.guard || restart with
  | some v, false =>
    let k := fSub fOne lam
    { x with dftRe := fAdd (fMul lam x.dftRe) (fMul (fMul k v) re), dftIm := fAdd (fMul lam x.dftIm) (fMul (fMul k v) im) }
  | _, _ => { x with dftRe := 0, dftIm := 0, ripAge := 0 }

/-- A cell at the step k0 that opens a span (R227 to R229). -/
def spanOpen (e : CEnv) (skew : Bool) (old x : Cell) : Cell :=
  match e.vp with
  | some v =>
    let ok := old.valid && x.valid && old.vLast.isSome && !old.guardLast && !e.guard && !old.skewLast && !skew
    if ok then
      { x with contrib := true, fit := none, dv := [fSub v x.vPre, 0, 0, 0, 0, 0], dvT := [fZero], bal0 := e.bal
               stepBin := binOf (x.blend 0) (x.blend 4), q0 := capOf e.pk e.learn
               slope0 := (ocvAt e.pk (x.blend 0) (x.blend 4)).2.1 }
    else { x with contrib := false, dvT := [], stepBin := 0xFF }
  | none => { x with contrib := false, dvT := [], stepBin := 0xFF }

/-- The SOC at which OCV equals the primary reading plus i_cell × Rser, 0.01 % (R240). -/
def capSoc (e : CEnv) (x : Cell) : Nat :=
  match e.vp with
  | some v => (fToInt (ocvInvert e.pk e.startT.1 (fAdd v (fMul e.cellI (x.imp.getD 0 0)))) 10000 1).toNat
  | none => 0xFFFF

/-- A cell's part in the capacity run of its string at a step (R240): `starts` at the start pick, `cap` the state. -/
def capStep (e : CEnv) (starts : Bool) (cap : Nat) (ib : F32) (ntc : Option Int) (x : Cell) : Cell :=
  let tOut := match ntc with
    | some t => decide (t < 150 ∨ 350 < t)
    | none => false
  let excl := x.flags.testBit 3 || !x.valid || tOut
  if starts then
    { x with capAh := 0, capExcl := excl || e.vp.isNone, capZ := capSoc e x, capTmin := ntc, capTmax := ntc }
  else if cap = 0 then x
  else
    { x with capAh := fAdd x.capAh (fDiv (fMul ib (fSecs e.dtN)) f3600), capExcl := x.capExcl || excl
             capTmin := match ntc with
               | some t => some (min t (x.capTmin.getD t))
               | none => x.capTmin
             capTmax := match ntc with
               | some t => some (max t (x.capTmax.getD t))
               | none => x.capTmax }

/-- The contribution of a step to the throughput accumulators (R244). -/
def accStep (ib dt : F32) (a : Acc) : Acc :=
  let v := (fToInt (fMul (fAbs ib) dt) 10000 36).toNat
  if fLt fZero ib then { a with dis := a.dis + v, cyc := a.cyc + v }
  else if fLt ib fZero then { a with chg := a.chg + v } else a

/-! ### Records (R206 to R210) -/

/-- The 32-byte output record of a cell (R208). -/
def Cell.outRecord (x : Cell) : Bytes :=
  if !x.valid then
    leBytes 2 0xFFFF ++ leBytes 2 0xFFFF ++ leBytes 2 0x8000 ++ leBytes 2 0x8000 ++ leBytes 4 0x80000000
      ++ leBytes 4 0x80000000 ++ zeros 4 ++ zeros 6 ++ leBytes 2 (setFlag 0 false x.flags) ++ zeros 4
  else
    let o := fun i => x.out.getD i 0
    let h := fun j i => (x.hyps.getD j {}).s i
    let u16 := fun (f : F32) (k : Nat) => min (fToInt f k 1).toNat 0xFFFF
    let s16 := fun (f : F32) => ofInt 16 (max (-32767) (min 32767 (fToInt f 10 1)))
    leBytes 2 (min (u16 (o 0) 10000) 10000) ++ leBytes 2 (min (u16 x.spread 10000) 0xFFFE) ++ leBytes 2 (s16 (x.blend 4))
      ++ leBytes 2 (s16 (o 1)) ++ leBytes 4 (ofInt 32 (sat32s (fTrunc (o 2) 1000 1)))
      ++ leBytes 4 (ofInt 32 (sat32s (fTrunc (o 3) 1000 1)))
      ++ (List.range 4).flatMap (fun j => leBytes 1 (min (fToInt (x.prob.getD j 0) 255 1).toNat 255))
      ++ leBytes 2 (u16 (h 1 6) 1000) ++ leBytes 2 (u16 (h 2 7) 1000) ++ leBytes 2 (u16 (h 3 8) 10000)
      ++ leBytes 2 x.flags ++ leBytes 4 (satU32 (fToInt (fMul x.q (x.blend 7)) 1000 1).toNat)

/-- A temperature as R14 encodes it. -/
def tempCode (t : Option Int) : Nat := match t with
  | some v => ofInt 16 v
  | none => 0x8000

/-- The output buffer that is complete (R211, R282). -/
def Module.outBuf (m : Module) : OutBuf := if m.est.stepPick.getD 0 % 2 = 0 then m.est.even else m.est.odd
/-- A cell as the latest completed step left it. -/
def Module.shownCell (c : Nat) (m : Module) : Cell := (tabGet none m.outBuf.cells c).getD {}

/-- The output record of a configured cell (R208, R211). -/
def Module.cellOut (c : Nat) (m : Module) : Bytes := (m.shownCell c).outRecord

/-- SOC output of a cell, 0.01 %; none for the invalid code. -/
def Module.cellSoc (c : Nat) (m : Module) : Option Nat :=
  let v := field (m.cellOut c) 0 2
  if v = 0xFFFF then none else some v

/-- The 1,024-byte record of cell `c` in state `x` (R206, R207, R227). -/
def Module.recordOf (c : Nat) (x : Cell) (m : Module) : Bytes :=
  let fl := fun (l : List F32) n => (List.range n).flatMap fun i => fBytes (l.getD i 0)
  leBytes 1 (c / 512) ++ leBytes 1 (c % 512 / 16 + 1) ++ leBytes 1 (c % 16) ++ leBytes 1 (m.setting (0x0300 + c / 512))
    ++ leBytes 4 x.flags ++ leBytes 4 x.steps ++ leBytes 4 x.lastPick ++ fl x.prob 4
    ++ (List.range 4).flatMap (fun j => fl (x.hyps.getD j {}).x 9 ++ fl (x.hyps.getD j {}).p 45)
    ++ fl x.imp 5 ++ fBytes x.q ++ fBytes x.iPrev ++ fBytes x.nis ++ fl x.timers 4
    ++ (List.range 4).flatMap (fun j => leBytes 2 (satU16 (x.reseed.getD j 0 / secs 1))) ++ fl x.out 4
    ++ leBytes 4 x.clamps ++ leBytes 4 x.reinits
    ++ fBytes x.vPre ++ fl x.dv 6 ++ fBytes x.dftRe ++ fBytes x.dftIm ++ fBytes x.capAh ++ leBytes 2 x.capZ
    ++ leBytes 2 (tempCode x.capTmin) ++ leBytes 2 (tempCode x.capTmax) ++ leBytes 1 x.stepBin
    ++ leBytes 1 (bit x.capExcl + 2 * x.ripAge)

/-- The cell record a reader is given (R211). -/
def Module.cellRecord (c : Nat) (m : Module) : Bytes := m.recordOf c (m.shownCell c)

/-! ### The environment of a cell at the latest pick -/

/-- String current of the step in A: the pick's, or the mean of the closed window (R176), an FP32 sum in the order of the picks
(R199). -/
def Module.stepI (n : Nat) (m : Module) : Option F32 :=
  let s := m.str n
  if m.windowMode then (if s.closed.n = 0 then none else some (fDiv s.closed.sum (fOfNat s.closed.n)))
  else s.cur.map fAmps

/-- Fraction of the balance current (R175). -/
def Module.balFraction (c dtN : Nat) (bal : Bool) (m : Module) : F32 :=
  if m.windowMode then
    let p := (m.str (c / 512)).closed.picks
    if p = 0 then 0 else fq ((tabGet 0 m.est.balClosed c : Nat) : Int) p
  else if !bal || dtN = 0 then 0
  else fDiv (fSub (fSecs dtN) (fq (m.setting 0x0204 + 20) 1000000)) (fSecs dtN)

/-- All that cell `c` takes at this step; `pack` its string's pack, if it has a valid one. -/
def Module.cellEnv (c dtN : Nat) (pack : Option Bytes) (m : Module) : CEnv :=
  let pk := pack.getD []
  let n := c / 512
  let mon := c % 512 / 16 + 1
  let i := c % 16
  let b := m.estFrame n mon
  let s := m.str n
  let cur := m.stepI n
  let vp := b.bind fun b => let v := field b (10 + 3 * i) 3; if v = 0xFFFFFF then none else some (fq v 1000000)
  let vs := b.bind fun b => let v := field b (58 + 2 * i) 2; if v = 0xFFFF then none else some (fq v 10000)
  let st := (b.map fun b => byteAt b 6).getD 0
  let win := m.windowMode
  let bal := (b.map fun b => (field b (if win then 106 else 90) 2).testBit i).getD false
  let reported := match b with
    | none => none
    | some b => if win then tempField b (90 + 2 * (i / 2)) else if byteAt b 7 = i / 2 then tempField b 8 else none
  { pk := pk, hasPack := pack.isSome, learn := m.learn c, pick := m.pck.index, dtN := dtN, window := win, vp := vp, vs := vs,
    guard := st.testBit 3, bal := bal, cur := cur, lastI := s.lastI, holdEnded := s.lostEnded,
    f := m.balFraction c dtN bal, freeBal := Config.freeF32 (m.free + c),
    temp := reported.map fTemp, ambient := m.ambient n mon,
    startT := m.startTemp n mon i, canStart := win || decide (9 ≤ s.picks),
    sigPri := m.setF 0x0310 1000000, sigSec := m.setF 0x0311 1000000, sigT := m.setF 0x0312 10, sigI := m.setF 0x0313 1000,
    guardW := m.setF 0x0314 1, eps := m.setF 0x0315 1000000000, qR := m.setF 0x0320 1000000000,
    qQ := m.setF 0x0321 1000000000, qS := m.setF 0x0322 1000000000, nisMax := m.setF 0x031F 1,
    shortP := m.setF 0x0317 1000, reserve := m.setF 0x031A 10, horizon := m.setF 0x031B 1,
    restI := fMul (m.setF 0x031E 1000) (packQ pk) }

/-! ### Strings before the cells -/

/-- The string current of the step, lost or not (R187): event 246 once per loss. -/
def Module.strLost (n : Nat) (m : Module) : Module :=
  match m.stepI n with
  | some a => m.updStr n fun s => { s with lost := false, lostRun := 0, lostEnded := false, lastI := a }
  | none =>
    let was := (m.str n).lost
    (m.updStr n fun s => { s with lost := true, lostRun := s.lostRun + 1 }).raiseIf (!was) 246

/-- CURRENT_LOST_HOLD_END (R187): 4 steps of lost current have passed. -/
def execCurrentLostHoldEnd (string : Nat) (s : State) : Host.Outcome State Fault Refusal :=
  s.go fun m => m.updStr string fun x => if x.lost && 4 ≤ x.lostRun then { x with lostEnded := true } else x

/-- Every current from `pre` before `t` lay within `tol` of `ref` (R225). -/
def flatBefore (t pre : Nat) (ref tol : F32) (hist : List (Nat × Option Int)) : Bool :=
  let h := hist.filter fun x => x.1 < t
  let near := fun (x : Nat × Option Int) => match x.2 with
    | some i => fWithin (fSub (fAmps i) ref) tol
    | none => false
  (h.all fun x => decide (x.1 + pre < t) || near x) && h.any fun x => decide (x.1 + pre ≤ t)

/-- A load step at this pick (R224, R225): the span's currents. -/
def Module.loadStep (n : Nat) (pk : Bytes) (m : Module) : Option (F32 × F32) :=
  let s := m.str n
  let q := packQ pk
  let flat := fMul (m.setF 0x0332 1000) q
  match s.prevStep, m.stepI n with
  | some a, some b =>
    let t := if m.windowMode then s.closed.at_ else m.pck.instant
    let winOk := !m.windowMode || (!s.closed.bad && fWithin (fSub (fAmps s.closed.hi) (fAmps s.closed.first)) flat
      && fWithin (fSub (fAmps s.closed.lo) (fAmps s.closed.first)) flat)
    if m.learnBit 0 && decide (20 ≤ m.pickK) && !s.spanAt t && fLe (fMul (m.setF 0x0331 1000) q) (fAbs (fSub b a))
        && flatBefore t (secs (m.setting 0x0333)) a flat s.hist && winOk then some (a, b) else none
  | _, _ => none

/-- Ripple accumulation runs (R236). -/
def Module.rippleOn (m : Module) : Bool := !m.windowMode && decide (8 ≤ m.pickK) && m.learnBit 1

/-- λ of R236, and the demodulating factors of the pick's position. -/
def Module.rippleLam (m : Module) : F32 := Config.fexp (fDiv (fNeg fOne) (fOfNat (m.pickK * m.setting 0x0336)))
def Module.ripplePhase (m : Module) : F32 × F32 :=
  let th := fMul (fMul (fq 4 1) 0x40490FDB#32) (fq m.pck.position 65536)
  (Config.fcos th, fNeg (Config.fsin th))

/-- The string's ripple accumulator (R236, R237). -/
def Module.strRipple (n : Nat) (m : Module) : Module :=
  match m.stepI n with
  | none => m.updStr n fun s => { s with ixRe := 0, ixIm := 0 }
  | some i =>
    let lam := m.rippleLam
    let (re, im) := m.ripplePhase
    let k := fSub fOne lam
    m.updStr n fun s => { s with ixRe := fAdd (fMul lam s.ixRe) (fMul (fMul k i) re)
                                 ixIm := fAdd (fMul lam s.ixIm) (fMul (fMul k i) im) }

/-- Primary readings of the VALID cells of a string at this pick. -/
def Module.validVolts (n : Nat) (m : Module) : List F32 :=
  (m.stringCells n).filterMap fun c =>
    if (m.cell c).valid then
      (m.estFrame n (c % 512 / 16 + 1)).bind fun b =>
        let v := field b (10 + 3 * (c % 16)) 3; if v = 0xFFFFFF then none else some (fq v 1000000)
    else none

/-- IDLE to ARMED of the capacity run at a step (R239): the charge current has fallen below Q_RATED / 20 with the highest
VALID cell at the full voltage. -/
def Module.capArm (n : Nat) (pk : Bytes) (m : Module) : Module × Bool :=
  let s := m.str n
  let vs := m.validVolts n
  let hi := vs.foldl fMax fZero
  let full := fLe (fSub (packVChg pk) (m.setF 0x0338 1000)) hi
  let m := m.updStr n fun x => { x with fell := none }
  match s.fell with
  | some p =>
    if s.cap = 0 && m.learnBit 2 && full && vs ≠ [] then
      (m.updStr n fun x => { x with cap := 1, capStart := p, capStrAh := 0, rest := 0, capCells := 0 }, true)
    else (m, false)
  | none => (m, false)

/-! ### One string's cells -/

/-- One cell of a string at the step; it is stepped whatever its data (R199), a string without a pack's too. -/
def Module.cellStep (c dtN : Nat) (pk : Option Bytes) (open_ starts : Bool) (m : Module) : Module :=
  let n := c / 512
  let old := m.cell c
  let e := m.cellEnv c dtN pk
  let s := m.str n
  let ib := e.meanI old
  let (x, div, low, cold) := e.step old
  let x := if m.rippleOn then
      let (re, im) := m.ripplePhase
      rippleStep e m.rippleLam re im e.cur.isNone x
    else x
  let skew := (m.chain n).skewWide.testBit (c % 512 / 16 + 1)
  let x := if open_ then spanOpen e skew old x
    else if s.spanTakes m.pck.instant && x.contrib && (e.vp.isNone || e.guard || e.bal ≠ x.bal0) then { x with contrib := false } else x
  let ntc := (m.ntc (ntcKey n (c % 512 / 16 + 1) (c % 16 / 2))).last
  let x := capStep e starts s.cap ib ntc x
  let x := { x with vLast := e.vp, guardLast := e.guard, balLast := e.bal, skewLast := skew
                    vPre := if s.spanTakes m.pck.instant then x.vPre else e.vp.getD x.vPre }
  let m := m.putCell c x
  let m := if m.learns && e.cur.isSome then
      m.onLrn fun l => { l with acc := tabUpd {} l.acc c (accStep ib (fSecs dtN)) }
    else m
  let m := m.onEst fun t =>
    { t with clamps := satU32 (t.clamps + (x.clamps - old.clamps)), reinits := satU32 (t.reinits + (x.reinits - old.reinits)) }
  let m := if cold && old.prob ≠ [] then m.restartStrings [c] else m
  let m := if div then m.raiseOnce 244 else m
  if low then m.raiseOnce 243 else m

/-! ### Strings after the cells (R196, R210) -/

/-- The limit a cell contributes: charge or discharge (`k` 2 or 3). -/
def Module.cellLimit (c k : Nat) (fall : F32) (lived : List Nat) (m : Module) : F32 :=
  let x := m.cell c
  if x.valid && decide (c ∈ lived) then x.out.getD k 0 else fall

/-- The smallest of a list by a key, with the lowest index on a tie. -/
def minIdx (f : Nat → F32) : List Nat → Option (Nat × F32)
  | [] => none
  | c :: cs => some (cs.foldl (fun (a : Nat × F32) d => if fLt (f d) a.2 then (d, f d) else a) (c, f c))

/-- The position within its string, 0xFFFF for none. -/
def idxOf (o : Option (Nat × F32)) : Nat := (o.map fun p => p.1 % 512).getD 0xFFFF

/-- The aggregate record of a string without a pack or without a step: no cell VALID, limits 0, the invalid codes of R14 and
position 0xFFFF, with its latched flags counted. FALLBACK is clear, since without a pack no fallback is known (DESIGN
CHOICE: R210 gives such a record no contents but NO_PACK). -/
def aggNone (n flags short watch pick : Nat) : Bytes :=
  leBytes 1 n ++ leBytes 1 flags ++ leBytes 2 0 ++ zeros 8 ++ leBytes 2 0xFFFF ++ leBytes 2 0xFFFF ++ leBytes 2 0xFFFF
    ++ leBytes 2 0xFFFF ++ leBytes 2 0xFFFF ++ leBytes 2 0x8000 ++ leBytes 2 0xFFFF ++ leBytes 2 0x8000 ++ leBytes 2 0xFFFF
    ++ leBytes 2 0xFFFF ++ leBytes 2 0xFFFF ++ leBytes 2 short ++ leBytes 2 watch ++ zeros 2 ++ leBytes 8 pick

/-- The published limits and the aggregate record of a string at a step (R196, R210). -/
def Module.strPublish (n dtN : Nat) (m : Module) : Module :=
  let cs := m.stringCells n
  let lived := m.livedCells
  let s := m.str n
  let flagged := fun i => (cs.filter fun c => (m.cell c).flags.testBit i).length
  match m.strPack n with
  | none =>
    m.updStr n fun x => { x with limChg := 0, limDis := 0, chgmA := 0, dismA := 0
                                 agg := aggNone n (bit s.lost + 4) (flagged 7) (flagged 6) m.pck.index }
  | some pk =>
    let q := packQ pk
    let fall := fMul (m.setF 0x031D 1000) q
    let ch := minIdx (fun c => m.cellLimit c 2 fall lived) cs
    let di := minIdx (fun c => m.cellLimit c 3 fall lived) cs
    let raw := fun (o : Option (Nat × F32)) => if s.lost then fall else (o.map (·.2)).getD fall
    let rise := fMul (fMul (m.setF 0x031C 1000) q) (fSecs dtN)
    let again := decide (n ∈ m.est.restart)
    let lim := fun (o : Option (Nat × F32)) (l : F32) => if again then fZero else fMin (raw o) (fAdd l rise)
    let lc := lim ch s.limChg
    let ld := lim di s.limDis
    let vs := cs.filter fun c => (m.cell c).valid && decide (c ∈ lived)
    let soc := fun c => (m.cell c).out.getD 0 0
    let lo := minIdx soc vs
    let hi := minIdx (fun c => fNeg (soc c)) vs
    let pl := minIdx (fun c => (m.cell c).out.getD 1 0) vs
    let tm := minIdx (fun c => fNeg ((m.cell c).blend 4)) vs
    let at_ := fun (o : Option (Nat × F32)) (off dflt : Nat) => match o with
      | some p => field (m.cell p.1).outRecord off 2
      | none => dflt
    let mean := if vs = [] then 0xFFFF else
      let t := (vs.map fun c => field (m.cell c).outRecord 0 2).sum
      (2 * t + vs.length) / (2 * vs.length)
    let mA := fun l => sat32s (fTrunc l 1000 1)
    let rec_ := leBytes 1 n ++ leBytes 1 (bit s.lost + 2 * bit (vs.length < cs.length)) ++ leBytes 2 vs.length
      ++ leBytes 4 (ofInt 32 (mA lc)) ++ leBytes 4 (ofInt 32 (mA ld)) ++ leBytes 2 (at_ lo 0 0xFFFF) ++ leBytes 2 (idxOf lo)
      ++ leBytes 2 (at_ hi 0 0xFFFF) ++ leBytes 2 (idxOf hi) ++ leBytes 2 mean ++ leBytes 2 (at_ pl 6 0x8000)
      ++ leBytes 2 (idxOf pl) ++ leBytes 2 (at_ tm 4 0x8000) ++ leBytes 2 (idxOf tm) ++ leBytes 2 (idxOf ch)
      ++ leBytes 2 (idxOf di) ++ leBytes 2 (flagged 7) ++ leBytes 2 (flagged 6) ++ zeros 2 ++ leBytes 8 m.pck.index
    m.updStr n fun x => { x with limChg := lc, limDis := ld, chgmA := mA lc, dismA := mA ld, agg := rec_ }

/-- Whether the discharge of a run that is RUNNING ends at this step, with its cause (R239): 1 COMPLETE, 6 RATE_HIGH. -/
def Module.capEnds (n : Nat) (pk : Bytes) (m : Module) : Nat :=
  let s := m.str n
  match s.cap, s.cur, m.validVolts n with
  | 2, some i, v :: vs =>
    if fLe (vs.foldl fMin v) (packVDis pk) && fLt fZero (fAmps i) && m.learnBit 2 then
      (if fLe (fAmps i) (fDiv (packQ pk) (fq 5 1)) then 1 else 6)
    else 0
  | _, _, _ => 0

/-- The ripple result of a cell (R238): RIP_R and RIP_X, with the invalid codes. -/
def Module.ripple (c : Nat) (m : Module) : Nat × Nat :=
  let x := m.cell c
  let s := m.str (c / 512)
  let d := fAdd (fSq s.ixRe) (fSq s.ixIm)
  let amp := fMul fTwo (fSqrt d)
  let q := (m.strPack (c / 512)).map packQ
  let ok := decide (5 ≤ x.ripAge) && (match q with
    | some q => fLe (fMul (m.setF 0x0337 1000) q) amp
    | none => false) && !fIsZero d
  if !ok then (0xFFFF, 0x8000)
  else
    let re := fNeg (fDiv (fAdd (fMul x.dftRe s.ixRe) (fMul x.dftIm s.ixIm)) d)
    let im := fNeg (fDiv (fSub (fMul x.dftIm s.ixRe) (fMul x.dftRe s.ixIm)) d)
    (min (fToInt re 1000000 1).toNat 0xFFFE, ofInt 16 (max (-32767) (min 32767 (fToInt im 1000000 1))))

/-- The grading record of a cell at a COMPLETE end, and the capacity it yields (R241, R243); its impedance is that of the step,
from the bin of the step before (R223). -/
def Module.gradeCell (c : Nat) (pk : Bytes) (e : CEnv) (m : Module) : Bytes × Option Nat :=
  let x := m.cell c
  let ze := capSoc e x
  let dz : Int := (x.capZ : Int) - ze
  let qm := fDiv x.capAh (fq dz 10000)
  let q := packQ pk
  let res := if x.capExcl || ze = 0xFFFF then 1
    else if dz < (m.setting 0x0339 * 100 : Nat) then 2
    else if !(fLe (fMul (fq 30 100) q) qm && fLe qm (fMul (fq 120 100) q)) then 3 else 0
  let mAh := (fToInt qm 1000 1).toNat
  let g := fun i => x.imp.getD i 0
  let u := fun (f : F32) (k : Nat) => leBytes 2 (min (fToInt f k 1).toNat 0xFFFF)
  (leBytes 2 c ++ leBytes 1 res ++ zeros 1 ++ leBytes 4 (if res = 0 then mAh else 0)
    ++ leBytes 4 (ofInt 32 (sat32s (fToInt x.capAh 1000 1))) ++ leBytes 2 x.capZ ++ leBytes 2 ze
    ++ leBytes 2 (tempCode x.capTmin) ++ leBytes 2 (tempCode x.capTmax) ++ u (g 0) 1000000 ++ u (g 1) 1000000
    ++ u (fMul (g 1) (g 2)) 1000 ++ leBytes 2 (if m.windowMode then 0xFFFF else (m.ripple c).1)
    ++ leBytes 4 (m.pck.index % 2 ^ 32),
   if res = 0 then some mAh else none)

/-- CAP_RUN_COMPLETE (R241, R243). -/
def Module.capComplete (n dtN : Nat) (pk : Bytes) (m : Module) : Module :=
  let gs := (m.stringCells n).map fun c => (c, m.gradeCell c pk (m.cellEnv c dtN (some pk)))
  let ok := gs.filterMap fun g => g.2.2.map fun q => (g.1, q)
  let m := gs.foldl (fun m g => m.onEst fun e => { e with grade := tabPut none e.grade g.1 (some g.2.1) }) m
  (m.updStr n fun s =>
    { s with pendQ := ok, capOk := ok.length, stampS := m.blt.data.stamp.secs, stampC := m.blt.data.stamp.cycles }).capRunEnd n 1
  -- a run that accepted no capacity asks for its sweep at once (R250)
  |>.onLrn fun l => { l with again := l.again || ok = [] }

/-! ### The jump of a span (R222, R231 to R234) -/

/-- A fitted value as a table code (R222): at least 1, saturated at 65,534; `k` LSBs per unit. -/
def impCode (x : F32) (k : Nat) : Nat := max 1 (min 65534 (fToInt x k 1).toNat)

/-- Move a table entry towards a fit with weight `w` (R233). -/
def impMove (t : Tab Nat) (i k : Nat) (fit w : F32) : Tab Nat :=
  let old := tabGet 0xFFFF t i
  let o := fq old k
  tabPut 0xFFFF t i (if old = 0xFFFF then impCode fit k else impCode (fAdd o (fMul w (fSub fit o))) k)

/-- Rser of a cell's span (R231), in the sampling mode and with the window length of k0. -/
def fitRser (sp : Span) (x : Cell) (imp : List F32) : F32 :=
  let base := fDiv (fNeg (x.dv.getD 0 0)) (fSub sp.iPost sp.iPre)
  if !sp.window then base
  else
    let rf := imp.getD 1 0
    let tf := fMul rf (imp.getD 2 0)
    fSub base (fMul rf (fSub fOne (fMul (fDiv tf sp.w) (fSub fOne (Config.fexp (fNeg (fDiv sp.w tf)))))))

/-- The cell's part in a span is over. -/
def Cell.spanDone (x : Cell) : Cell := { x with stepBin := 0xFF, contrib := false, dvT := [], fit := none }

/-- The Rser of a cell's span at the step after the span ends (R231 to R234): discarded at 0 or below, or where learning no longer
runs; else accepted, moved into its bin and compared. Where RC pairs are to be fitted, the search goes on with it. -/
def Module.acceptRser (c : Nat) (sp : Span) (pk : Bytes) (m : Module) : Module :=
  let x := m.cell c
  if x.stepBin = 0xFF || x.dvT = [] then m
  else
    let b := x.stepBin
    let l := m.learn c
    let rser := fitRser sp x (impOf pk l b)
    if !m.learnBit 0 || !fLt fZero rser then m.updCell c Cell.spanDone
    else
      let old := tabGet 0xFFFF l.imp (4 * b)
      let n0 := tabGet 0 l.binN b
      let w := fMax (fDiv fOne (fOfNat (n0 + 1))) (m.setF 0x0335 1000)
      let off := old ≠ 0xFFFF && fLt (fMul (fq 35 100) (fq old 1000000)) (fAbs (fSub rser (fq old 1000000)))
      let run := if old = 0xFFFF then l.run else if off then min (l.run + 1) 255 else 0
      let sus := decide (3 ≤ run) && !l.suspect
      let m := m.updLearn c fun l =>
        { l with imp := impMove l.imp (4 * b) 1000000 rser w, binN := tabPut 0 l.binN b (min (n0 + 1) 255), run := run
                 suspect := l.suspect || sus }
      let m := if x.dvT.length ≤ 3 then
          (m.updCell c Cell.spanDone).onEst fun e => { e with fitsOk := satU32 (e.fitsOk + 1) }
        else m.updCell c fun x => { x with fit := some (rser, w) }
      m.raiseIf sus 248

/-- The estimator steps after a span's end: at the first every cell's Rser is judged; the search counts them (R232). -/
def Module.spanFit (n : Nat) (m : Module) : Module :=
  match (m.str n).span, m.strPack n with
  | some sp, some pk =>
    if sp.ended.isNone then m
    else
      let m := if sp.steps = 0 then (m.stringCells n).foldl (fun m c => m.acceptRser c sp pk) m else m
      m.updStr n fun s => { s with span := s.span.map fun x => { x with steps := min (x.steps + 1) 16 } }
  | _, _ => m

/-- The window length in s (R231). -/
def Module.windowSecs (m : Module) : F32 := fSecs (m.runCycle * m.windowPicks / m.pickK)

/-- One string at the step: its current, the detection of a load step, its cells, its capacity run, its fits. -/
def Module.strStep (n dtN : Nat) (m : Module) : Module :=
  let m := m.strLost n
  let mons := (List.range (m.monitors n)).map (· + 1)
  let m := mons.foldl (fun m a => m.ntcStep n a dtN) m
  let pk := m.strPack n
  let sp := pk.bind fun p => m.loadStep n p
  let m := match sp with
    | some (a, b) => m.updStr n fun s =>
        { s with span := some { t0 := m.pck.instant, iPre := a, iPost := b, window := m.windowMode, w := m.windowSecs } }
    | none => m
  let m := if m.rippleOn then m.strRipple n else m
  let (m, starts) := match pk with
    | some p => m.capArm n p
    | none => (m, false)
  let cs := (m.livedCells).filter fun c => c / 512 = n
  let m := cs.foldl (fun m c => m.cellStep c dtN pk sp.isSome starts) m
  let i := m.stepI n
  let m := m.updStr n fun s =>
    { s with prevStep := i
             capCells := if s.cap ≠ 0 then ((m.stringCells n).filter fun c => !(m.cell c).capExcl).length else s.capCells
             capStrAh := if s.cap ≠ 0 && !starts then fAdd s.capStrAh (fDiv (fMul (i.getD 0) (fSecs dtN)) f3600) else s.capStrAh }
  let m := match pk with
    | none => m
    | some p => match m.capEnds n p with
      | 1 => m.capComplete n dtN p
      | 6 => m.capRunEnd n 6
      | _ => m
  m.spanFit n

/-! ### Digest and snapshot (R630, R635 to R637) -/

/-- Group sets in ascending first group: tile and groups. -/
def Module.groupSets (m : Module) : List (Nat × List Nat) :=
  let l := (m.tilesIn .live).map fun t => (t, (m.tile t).groups)
  (l.filter fun p => p.2 ≠ []).mergeSort fun a b => a.2.headD 0 ≤ b.2.headD 0

/-- The 16 string aggregate records a buffer holds (R286). -/
def OutBuf.aggBytes (b : OutBuf) : Bytes := (List.range 16).flatMap fun n =>
  let a := tabGet [] b.aggs n
  if a = [] then aggNone n 0 0 0 0 else a

/-- The 16 string aggregate records of the latest step. -/
def Module.aggBytes (m : Module) : Bytes := m.outBuf.aggBytes

/-- The step fills the output buffer of its pick's parity, which is complete from then on (R282, R286). -/
def Module.bufWrite (m : Module) : Module :=
  let b : OutBuf := { pick := some m.pck.index, cells := m.est.cells, lived := m.livedCells
                      aggs := (List.range 16).foldl (fun t n => tabPut [] t n (m.str n).agg) []
                      reinits := m.est.reinits, clamps := m.est.clamps }
  m.onEst fun e => { (if m.pck.index % 2 = 0 then { e with even := b } else { e with odd := b }) with
                     stepPick := some m.pck.index, stepAt := some m.pck.instant }

/-- The DIGEST entry of a step (R630). -/
def Module.digest (m : Module) : Module :=
  let items := m.groupSets.map fun p =>
    leBytes 2 (p.2.headD 0) ++ zeros 2 ++ leBytes 4 (crc32c ((m.tileCells p.1).flatMap fun c => m.cellOut c))
  let items := items ++ [leBytes 2 0xFFFF ++ zeros 2 ++ leBytes 4 (crc32c m.aggBytes)]
  m.cloAppend 2 0 m.pck.index (leBytes 2 items.length ++ zeros 2 ++ items.flatten)


end Sys2Proof.Machine
end

