-- ==== Sys2Proof/Machine/EstCmd.lean ====
section
/-! DEFINITION. Machine/EstCmd.lean: the commands of the estimator (R173 to R216, R635) and the automatic balance policy
(R151). -/
namespace Sys2Proof.Machine

/-! ### Snapshot slices (R635 to R638) -/

/-- The per-string work area of a slice: 128 bytes per string; its layout is the model's own (R281 gives none). -/
def Module.strWork (m : Module) : Bytes := (List.range 16).flatMap fun n =>
  let s := m.str n
  let b := fBytes s.ixRe ++ fBytes s.ixIm ++ leBytes 1 s.cap ++ leBytes 1 s.capEnd ++ leBytes 2 s.capCells ++ leBytes 8 s.capStart
    ++ leBytes 8 s.capStop ++ fBytes s.capStrAh ++ leBytes 8 s.rest ++ leBytes 1 (bit s.spanOn)
    ++ (match s.span with
        | some x => leBytes 8 x.t0 ++ fBytes x.iPre ++ fBytes x.iPost
        | none => zeros 16)
  b ++ zeros (128 - b.length)

/-- The string reduction state of the lead's slice: 32 bytes per string. -/
def Module.strReduce (m : Module) : Bytes := (List.range 16).flatMap fun n =>
  let s := m.str n
  fBytes s.limChg ++ fBytes s.limDis ++ leBytes 1 (bit s.lost) ++ leBytes 4 s.lostRun ++ fBytes s.lastI ++ zeros 15

/-- Settings of groups 0x02, 0x03 and 0x09 as listed in the cloth record (R632, R637). -/
def clothGroup (id : Nat) : Bool := decide (id / 256 = 2 ∨ id / 256 = 3 ∨ id / 256 = 9)
def Module.clothSettings (m : Module) : List (Nat × Nat) :=
  ((setSpecs.filter fun s => clothGroup s.id && s.bulk = 0).map (·.id)).mergeSort (· ≤ ·) |>.map fun i => (i, m.setting i)

/-- BEAM_SNAPSHOT_START (R635, R637): the SNAP_HEAD entry; the slices follow, one per step. -/
def Module.snapStart (t : Nat) (m : Module) : Module :=
  let due := match m.clo.snapAt with
    | none => true
    | some a => decide (a + secs 10 ≤ t)
  if !due || m.clo.snap.isSome || !m.clo.running then m
  else
    let sets := m.groupSets
    let lead := sets.filter fun p => p.1 = m.wft.lead
    let order := ((sets.filter fun p => p.1 ≠ m.wft.lead) ++ lead).map fun p => p.2.headD 0
    let ss := m.clothSettings
    let pack := fun k => (m.slotPack k).getD (zeros 2048)
    let body := leBytes 4 m.set.gen ++ leBytes 1 order.length ++ leBytes 1 (bit m.windowMode) ++ leBytes 2 ss.length ++ zeros 24
      ++ pack 0 ++ pack 1 ++ pack 2 ++ pack 3 ++ m.wftMap
      ++ ss.flatMap fun p => leBytes 2 p.1 ++ zeros 2 ++ leBytes 4 p.2
    let snap : Snap := { first := m.pck.index, sets := order, incomplete := decide (m.wft.unassigned ≠ []) }
    (m.cloAppendAt t 4 0 m.pck.index body).onClo fun c => { c with snap := some snap, snapAt := some t }
def execBeamSnapshotStart (t : Nat) (s : State) : Host.Outcome State Fault Refusal := s.go (·.snapStart t)

/-- The slice of one group set, by its first group (R637). -/
def Module.slice (g : Nat) (m : Module) : Option Bytes :=
  (m.tileOfGroup g).map fun t =>
    let cs := m.tileCells t
    leBytes 1 t ++ leBytes 1 (bit (t = m.wft.lead)) ++ leBytes 2 g ++ leBytes 2 cs.length ++ zeros 26
      ++ cs.flatMap (fun c => m.cellRecord c) ++ cs.flatMap (fun c => m.learnBytes c) ++ m.strWork
      ++ (if t = m.wft.lead then m.strReduce else [])

/-- One slice at the step (R635, R636, R638). -/
def Module.snapSlice (m : Module) : Module :=
  match m.clo.snap with
  | none => m
  | some sn =>
    let fin := fun (sn : Snap) (m : Module) =>
      if sn.sets = [] then
        (m.onClo fun c => { c with snap := none, snapPick := sn.first, snapIncomplete := sn.incomplete }).raise 416
      else m.onClo fun c => { c with snap := some sn }
    match sn.sets with
    | [] => fin sn m
    | g :: gs =>
      match m.slice g with
      | some b => fin { sn with sets := gs } (m.cloAppend 5 0 m.pck.index b)
      | none => fin { sn with sets := gs, incomplete := true } m

/-! ### The step (R173, R188, R198) -/

/-- ESTIMATOR_STEP: at every pick in instant mode, at the closing pick in window mode, once. -/
def Module.estStep (time : Nat) (cycles : List Nat) (m : Module) : Module :=
  if m.inBoot || !m.pck.released || !m.pck.running || m.est.stepPick = some m.pck.index || !m.cellPick then m
  else
    let dtN := match m.est.stepAt with
      | some a => m.pck.instant - a
      | none => 0
    let m := m.enabledChains.foldl (fun m n => m.strStep n dtN) m
    let m := m.enabledChains.foldl (fun m n => m.strPublish n dtN) m
    let m := ((m.onEst fun e => { e with restart := [] }).bufWrite).onFree (· + 8192)
    let m := (m.tilesIn .live).foldl (fun m t => m.updTile t fun x => { x with cycles := cycles.getD t 0 }) m
    let m := m.onWft fun w => { w with stepLast := satU16 time, stepMax := max w.stepMax (satU16 time) }
    m.digest.snapSlice
def execEstimatorStep (time : Nat) (cycles : List Nat) (s : State) : Host.Outcome State Fault Refusal :=
  s.go (·.estStep time cycles)

/-! ### What a time that has run brings about (R186, R190, R192) -/

def fTimer (x : Cell) (i : Nat) : F32 := x.timers.getD i 0
/-- A timer's restart. -/
def Cell.zeroTimer (i : Nat) (x : Cell) : Cell := { x with timers := x.timers.set i 0 }

/-- SHORT_WATCH_SET (R192): p_3 at 0.5 or more for 60 s. -/
def Module.shortWatch (c : Nat) (m : Module) : Module :=
  let x := m.cell c
  if x.init && fLe (fq 60 1) (fTimer x 0) && !x.flags.testBit 6 then
    (m.stepCell c fun x => { x with flags := setFlag 6 true x.flags }).raiseOnce 241
  else m
def execShortWatchSet (cell : Nat) (s : State) : Host.Outcome State Fault Refusal := s.go (·.shortWatch cell)

/-- MICRO_SHORT_SET (R192, R193): latched; the bolt counts code 544. -/
def Module.microShort (c : Nat) (m : Module) : Module :=
  let x := m.cell c
  if x.init && fLe (m.setF 0x0318 1) (fTimer x 1) && fLe (m.setF 0x0319 1000) ((x.hyps.getD 3 {}).s 8) && !x.flags.testBit 7 then
    ((m.stepCell c fun x => { x with flags := setFlag 7 true x.flags }).raise 242).boltCount 544
  else m
def execMicroShortSet (cell : Nat) (s : State) : Host.Outcome State Fault Refusal := s.go (·.microShort cell)

/-- RES_HIGH_CHANGE and FADE_CHANGE (R192): the flag's 300 s have run, for setting or for clearing. -/
def Module.slowFlag (c flag timer : Nat) (cond : Cell → Bool) (m : Module) : Module :=
  let x := m.cell c
  if !x.init || !fLe (fq 300 1) (fTimer x timer) then m
  else if x.flags.testBit flag then m.stepCell c fun x => ({ x with flags := setFlag flag false x.flags }).zeroTimer timer
  else if cond x then (m.stepCell c fun x => ({ x with flags := setFlag flag true x.flags }).zeroTimer timer).raise 247
  else m
def execResHighChange (cell : Nat) (s : State) : Host.Outcome State Fault Refusal :=
  s.go (·.slowFlag cell 8 2 fun x => fLe (fq 135 100) ((x.hyps.getD 1 {}).s 6))
def execFadeChange (cell : Nat) (s : State) : Host.Outcome State Fault Refusal :=
  s.go (·.slowFlag cell 9 3 fun x => fLe ((x.hyps.getD 2 {}).s 7) (fq 90 100))

/-- The initial parameter states and variances of a hypothesis, cross-covariances zero (R179). -/
def Hyp.resetParams (j : Nat) (h : Hyp) : Hyp :=
  { x := h.x.take 6 ++ paramInit
    p := triOf fun r c => if c < 6 then pAt h.p r c else if r = c then (paramVar j).getD (r - 6) 0 else 0 }

/-- Hypothesis `j` re-seeded from `d` (R190): states 0 to 5 and their block from `d`; its free parameter returns to R179, a pinned
one keeps its value. -/
def Hyp.reseed (j : Nat) (d h : Hyp) : Hyp :=
  { x := d.x.take 6 ++ (List.range 3).map fun i => if i + 1 = j then paramInit.getD i 0 else h.s (6 + i)
    p := triOf fun r c => if c < 6 then pAt d.p r c else if r = c then (paramVar j).getD (r - 6) 0 else 0 }

/-- HYP_RESEED (R190): a hypothesis below 0.001 for EST_RESEED_TIME takes states 0 to 5 of the dominant one. -/
def Module.hypReseed (c j : Nat) (m : Module) : Module :=
  let x := m.cell c
  if !x.init || x.reseed.getD j 0 < secs (m.setting 0x0316) then m
  else
    let d := x.hyps.getD (dominant x.prob) {}
    m.stepCell c fun x => { x with hyps := x.hyps.set j ((x.hyps.getD j {}).reseed j d), reseed := x.reseed.set j 0 }
def execHypReseed (cell j : Nat) (s : State) : Host.Outcome State Fault Refusal := s.go (·.hypReseed cell j)

/-- CELL_VALID_TIMEOUT (R186): 10 s without a voltage update. -/
def Module.validTimeout (c : Nat) (m : Module) : Module :=
  let x := m.cell c
  if !x.init || x.noV < secs 10 then m
  else
    let run := decide ((m.str (c / 512)).cap ≠ 0)
    m.stepCell c fun x => { x with init := false, flags := setFlag 0 false x.flags, capExcl := x.capExcl || run }
def execCellValidTimeout (cell : Nat) (s : State) : Host.Outcome State Fault Refusal := s.go (·.validTimeout cell)

/-! ### Requests (R214 to R216) -/

/-- A cell range lies within one string's configured cells (R214). -/
def Module.cellRange (first count : Nat) (m : Module) : Bool :=
  decide (1 ≤ count) && decide (first / 512 < 16) && m.chainEnabled (first / 512)
    && decide (first % 512 + count ≤ 16 * m.monitors (first / 512))

def reqFirst (r : Req) : Nat := field r.payload 0 2
def reqCount (r : Req) : Nat := field r.payload 2 2
def rangeOf (r : Req) : List Nat := (List.range (reqCount r)).map (reqFirst r + ·)

/-- The EST_STATUS_GET reply (R215), of the latest completed step (R211). -/
def Module.estStatus (m : Module) : Bytes :=
  let cs := m.allCells
  let lived := m.outBuf.lived
  let n := fun (p : Cell → Bool) => (cs.filter fun c => p (m.shownCell c)).length
  leBytes 8 (m.est.stepPick.getD 0) ++ leBytes 2 cs.length
    ++ leBytes 2 (cs.filter fun c => (m.shownCell c).valid && decide (c ∈ lived)).length
    ++ leBytes 2 (n fun x => x.flags.testBit 6) ++ leBytes 2 (n fun x => x.flags.testBit 7)
    ++ leBytes 2 (n fun x => x.flags.testBit 8 || x.flags.testBit 9)
    ++ leBytes 1 (maskOf 4 fun k => (m.slotPack k).isSome) ++ leBytes 1 (bit m.est.notReady + 2 * bit m.windowMode)
    ++ leBytes 4 m.outBuf.reinits ++ leBytes 4 m.outBuf.clamps ++ zeros 4

def cmdEstStatusGet (r : Req) (m : Module) : Resp := m.checks r 0 true .observe (.done m.estStatus m)
def execEstStatusGet (r : Req) (s : State) : Host.Outcome State Fault Refusal := s.go (·.request 0x0300 cmdEstStatusGet r)

def cmdEstCellsGet (r : Req) (m : Module) : Resp :=
  m.checks r 4 (m.cellRange (reqFirst r) (reqCount r)) .observe <|
    let (b, m) := m.readCells 1 32 m.cellOut (rangeOf r)
    .done b m
def execEstCellsGet (r : Req) (s : State) : Host.Outcome State Fault Refusal := s.go (·.request 0x0301 cmdEstCellsGet r)

def cmdEstStringsGet (r : Req) (m : Module) : Resp :=
  m.checks r 4 true .observe <|
    .done ((maskList 16 (field r.payload 0 2)).flatMap fun n => (m.aggBytes.drop (48 * n)).take 48) m
def execEstStringsGet (r : Req) (s : State) : Host.Outcome State Fault Refusal := s.go (·.request 0x0302 cmdEstStringsGet r)

/-- EST_CELL_RECORD_GET (R203, R214): clears DIVERGED. -/
def cmdEstCellRecordGet (r : Req) (m : Module) : Resp :=
  let c := reqFirst r
  m.checks r 4 (m.cellRange c 1) .engineer <|
    let (b, m) := m.readCells 0 1024 m.cellRecord [c]
    .done b (m.stepCell c fun x => { x with flags := setFlag 11 false x.flags })
def execEstCellRecordGet (r : Req) (s : State) : Host.Outcome State Fault Refusal :=
  s.go (·.request 0x0303 cmdEstCellRecordGet r)

/-- EST_FLAGS_CLEAR: applied at a pick boundary (R205). -/
def cmdEstFlagsClear (r : Req) (m : Module) : Resp :=
  let mask := field r.payload 4 2
  m.checks r 8 (m.cellRange (reqFirst r) (reqCount r) && decide (mask &&& 0x0380 = mask)) .engineer (.wait [] [] m)
def execEstFlagsClear (r : Req) (s : State) : Host.Outcome State Fault Refusal := s.go (·.request 0x0304 cmdEstFlagsClear r)

/-- EST_REINIT: outside COMMISSION, STANDBY and SAFE-HOLD WRONG_MODE; accepted, it sets ESTIMATOR_NOT_READY (R202). -/
def Module.reinitMode (m : Module) : Bool := decide (m.sys.mode ∈ [.commission, .standby, .safeHold])
def cmdEstReinit (r : Req) (m : Module) : Resp :=
  m.checks r 4 (m.cellRange (reqFirst r) (reqCount r)) .engineer <|
    if !m.reinitMode then .fail .wrongMode m else .wait [] [] m.setNotReady
def execEstReinit (r : Req) (s : State) : Host.Outcome State Fault Refusal := s.go (·.request 0x0305 cmdEstReinit r)

/-- EST_PACK_GET: a stored pack that is not valid is an empty slot (R181). -/
def cmdEstPackGet (r : Req) (m : Module) : Resp :=
  let k := byteAt r.payload 0
  m.checks r 4 (decide (k < 4) && (m.slotPack k).isSome) .observe (.done ((m.slotPack k).getD []) m)
def execEstPackGet (r : Req) (s : State) : Host.Outcome State Fault Refusal := s.go (·.request 0x0307 cmdEstPackGet r)

/-! ### Effects at the pick boundary (R205, R213) -/

def payFirst (p : Bytes) : Nat := field p 0 2
def payRange (p : Bytes) : List Nat := (List.range (field p 2 2)).map (field p 0 2 + ·)

/-- EST_FLAGS_CLEAR takes effect. -/
def Module.applyFlagsClear (p : Bytes) (m : Module) : Module :=
  let mask := field p 4 2
  let m := (payRange p).foldl (fun m c => m.updCell c fun x =>
    let x := { x with flags := x.flags - (x.flags &&& mask) }
    let x := if mask.testBit 8 then x.zeroTimer 2 else x
    if mask.testBit 9 then x.zeroTimer 3 else x) m
  m.cloInput 3 m.pck.index p

/-- EST_REINIT takes effect: the cells start cold at the step of the pick (R204). -/
def Module.applyReinit (p : Bytes) (m : Module) : Module :=
  ((m.dropCells (payRange p)).restartStrings (payRange p)).cloInput 4 m.pck.index p

/-! ### The automatic balance policy (R151) -/

/-- The cells of a monitor the policy selects: SOC above the string's lowest by more than BAL_AUTO_DELTA, the highest
BAL_MAX_PER_MON of them. -/
def Module.autoMask (n mon lo : Nat) (m : Module) : Nat :=
  let c0 := firstCell (n, mon)
  let cand := (List.range 16).filterMap fun i => (m.cellSoc (c0 + i)).bind fun s =>
    if lo + m.setting 0x0207 < s then some (i, s) else none
  let top := ((cand.mergeSort fun a b => b.2 < a.2 || (a.2 = b.2 && a.1 ≤ b.1)).take (m.setting 0x0206)).map (·.1)
  maskOf 16 fun i => i ∈ top

/-- AUTO_BALANCE_ISSUE (R150, R151): every active chain's string, PARTIAL too. The policy issues nothing in FORMATION; balancing
it has issued before is not stopped by entry into FORMATION, nor by BAL_MODE committed away from 2, and runs on to its DURATION
(DESIGN CHOICE: the manual is silent). -/
def Module.autoBalance (n : Nat) (m : Module) : Module :=
  if !m.balSource 2 || !(m.chain n).active then m
  else
    match (m.stringCells n).filterMap fun c => m.cellSoc c with
    | [] => m
    | s :: ss =>
      let lo := ss.foldl min s
      ((List.range (m.monitors n)).map (· + 1)).foldl (fun m mon =>
        let mask := m.autoMask n mon lo
        if mask = 0 || (m.balOf (64 * n + mon)).warm || ((m.chain n).dev mon).status.testBit 4 then m
        else m.balSend (64 * n + mon) { mask := mask, dur := m.setting 0x0208, start := m.pck.index + 4, source := 2 }) m
def execAutoBalanceIssue (string : Nat) (s : State) : Host.Outcome State Fault Refusal := s.go (·.autoBalance string)

end Sys2Proof.Machine
end

