-- ==== Sys2Proof/Machine/Cloth.lean ====
section
/-! DEFINITION. Machine/Cloth.lean: freezes, frozen slots and replay (R639 to R650, R661 to R668). -/
namespace Sys2Proof.Machine

/-! ### Triggers and captures (R639 to R641) -/

/-- A trigger as first seen. -/
def Module.newFreeze (cause : Nat) (waiter : Option Nat) (m : Module) : Freeze :=
  { cause := cause, mask := 2 ^ (cause - 1), pick := m.pck.index, time := m.plantAt m.pck.instant,
    opSeconds := m.blt.data.stamp.secs, cycles := m.blt.data.stamp.cycles, at_ := m.pck.instant,
    pre := m.setting 0x0700, post := m.setting 0x0701, keep := cause = 1 && decide (m.setting 0x0702 = 1),
    waiters := waiter.toList }

/-- A further trigger is merged (R641). -/
def Freeze.merge (g f : Freeze) : Freeze :=
  { f with triggers := satU16 (f.triggers + 1), mask := f.mask ||| g.mask, keep := f.keep || g.keep,
           waiters := f.waiters ++ g.waiters }

/-- A capture starts, or its trigger is lost (R640): event 422, and CLO_FREEZE completes with TIMEOUT. -/
def Module.cloCapture (f : Freeze) (m : Module) : Module :=
  let heads := headsBefore f.at_ m.clo.ring
  let want := heads.find? fun h => decide (h.at_ + secs f.pre ≤ f.at_)
  match want.or heads.getLast? with
  | none => ((m.bump 0x0B0088).raise 422).finishAll f.waiters .timeout []
  | some h =>
    let g := { f with first := h.pick, entries := spanFrom h.pick m.clo.ring, preShort := want.isNone }.fit
    (m.onClo fun c => { c with capture := some g }).shortEvents f g

def Module.cloMerged (m : Module) : Module := (m.bump 0x0B0084).raiseOnce 419

/-- A freeze trigger (R639): its entry and event 418; then it starts a capture, or is merged, or waits for the buffer. -/
def Module.cloTrigger (cause : Nat) (waiter : Option Nat) (m : Module) : Module :=
  let m := (m.cloAppend 6 0 m.pck.index (leBytes 1 cause ++ zeros 7)).raise 418
  let g := m.newFreeze cause waiter
  match m.clo.capture, m.clo.buffer, m.clo.queued with
  | some f, _, _ => (m.onClo fun c => { c with capture := some (g.merge f) }).cloMerged
  | none, some _, some f => (m.onClo fun c => { c with queued := some (g.merge f) }).cloMerged
  | none, some _, none => m.onClo fun c => { c with queued := some g }
  | none, none, _ => m.cloCapture g

/-- The last pick of a span: the newest no later than CLO_POST after the trigger (R640). -/
def Freeze.stop (f : Freeze) : Nat :=
  max f.pick (((f.entries.find? fun e => e.type = 1 && decide (e.at_ ≤ f.at_ + secs f.post)).map (·.pick)).getD f.pick)

/-- FREEZE_CAPTURE_END (R640, R643 step 3): the span is complete; it goes to a slot, or is HELD, event 421. -/
def Module.captureEnd (m : Module) : Module :=
  match m.clo.capture with
  | none => m
  | some f =>
    let es := f.entries.dropWhile fun e => decide (f.stop < e.pick)
    let g := { f with entries := es, last := (es.foldl (fun a e => max a e.pick) 0), seq := m.clo.seq + 1, waiters := [] }
    let m := (m.onClo fun c => { c with capture := none, buffer := some g }).finishAll f.waiters .done (leBytes 4 g.seq)
    let m := m.cloPlace
    m.raiseIf m.clo.target.isNone 421
def execFreezeCaptureEnd (s : State) : Host.Outcome State Fault Refusal := s.go Module.captureEnd

/-- FREEZE_SLOT_WRITTEN (R643 step 5, R645): the valid mark is written, inside the write window; a queued trigger is then
captured. -/
def Module.slotWritten (m : Module) : Module :=
  match m.clo.target, m.clo.buffer with
  | some k, some f =>
    if !m.flashOk then m
    else
      let m := m.onClo fun c =>
        { c with target := none, buffer := none, queued := none, seq := f.seq
                 slots := tabUpd {} c.slots k fun x => { x with state := 2 } }
      ((m.bump 0x0B0080).raise 420).boltCount 548
  | _, _ => m
def Module.slotWrittenStep (m : Module) : Module :=
  let q := m.clo.queued
  let n := m.slotWritten
  match q with
  | some g => if n.clo.buffer.isNone && n.clo.capture.isNone && m.clo.buffer.isSome then n.cloCapture g else n
  | none => n
def execFreezeSlotWritten (s : State) : Host.Outcome State Fault Refusal := s.go Module.slotWrittenStep

/-! ### Slots as read (R644, R661, R668) -/

/-- An entry as stored (R629). -/
def CloEntry.bytes (e : CloEntry) : Bytes :=
  leBytes 1 e.type ++ leBytes 1 e.flags ++ zeros 2 ++ leBytes 4 e.body.length ++ leBytes 8 e.pick ++ e.body
    ++ zeros (ceilDiv e.body.length 8 * 8 - e.body.length)

/-- The 64-byte header of a slot. -/
def Slot.header (x : Slot) : Bytes :=
  match x.freeze with
  | none => zeros 64
  | some f =>
    [0x43, 0x46, 0x52, 0x5A, 0x01] ++ leBytes 1 f.cause ++ leBytes 1 f.mask ++ leBytes 1 (bit f.preShort + 2 * bit f.postShort)
      ++ leBytes 4 f.seq ++ leBytes 2 f.triggers ++ zeros 2 ++ leBytes 8 f.pick ++ leBytes 8 f.time ++ leBytes 8 f.first
      ++ leBytes 8 f.last ++ leBytes 4 (entriesSize f.entries) ++ leBytes 4 x.release ++ leBytes 4 f.opSeconds
      ++ leBytes 4 f.cycles

/-- CLO_SLOTs_STATE (R668). -/
def Module.slotState (k : Nat) (m : Module) : Nat :=
  let x := m.slot k
  match x.freeze with
  | none => 0
  | some f => x.state + 4 * bit x.keep + 8 * bit (m.slotInUse k) + 16 * f.cause + 128 * f.mask + 1024 * bit f.preShort
    + 2048 * bit f.postShort

/-- A slot's content as exported: header, entries, valid mark (R644). -/
def Slot.image (x : Slot) : Bytes :=
  let es := match x.freeze with
    | some f => f.entries.reverse.flatMap (·.bytes)
    | none => []
  let seq := match x.freeze with
    | some f => f.seq
    | none => 0
  let b := x.header ++ es
  b ++ [0x43, 0x46, 0x4F, 0x4B] ++ leBytes 4 seq ++ zeros 4 ++ leBytes 4 (crc32c b)

/-- CLO_STATUS (R667). -/
def Module.cloStatus (m : Module) : Nat :=
  let fr := if m.clo.capture.isSome then 1 else if m.clo.target.isSome then 2 else if m.clo.buffer.isSome then 3 else 0
  let span := match m.clo.ring, m.clo.ring.getLast? with
    | a :: _, some b => (a.at_ - b.at_) / secs 1
    | _, _ => 0
  bit (m.clo.running && !m.inBoot) + 2 * fr + 8 * bit m.clo.queued.isSome + 16 * bit m.clo.snap.isSome
    + 32 * bit m.clo.snapIncomplete + 65536 * satU16 span

def Module.cloCfg (m : Module) : Nat := m.setting 0x0700 + 32 * m.setting 0x0701 + 512 * m.setting 0x0702

/-- Bytes appended per second over the last 10 s (R666). -/
def Module.cloRate (m : Module) : Nat :=
  entriesSize (m.clo.ring.takeWhile fun e => decide (m.sys.clock < e.at_ + secs 10)) / 10

/-- CLO and REP registers (R666); the counters are in the counter table. -/
def Module.cloReg (off : Nat) (m : Module) : Option Nat :=
  let o := off - 0x0B0000
  if off < 0x0B0000 ∨ 0x0B8020 ≤ off then none
  else if o = 0 then some m.cloStatus
  else if o = 4 then some m.cloCfg
  else if o = 8 then some (m.clo.headPick % 2 ^ 32)
  else if o = 0xC then some (m.clo.headPick / 2 ^ 32)
  else if o = 0x10 then some (m.clo.tailPick % 2 ^ 32)
  else if o = 0x14 then some (m.clo.tailPick / 2 ^ 32)
  else if o = 0x18 then some (m.clo.snapPick % 2 ^ 32)
  else if o = 0x1C then some (m.clo.snapPick / 2 ^ 32)
  else if o = 0x20 then some (satU32 m.cloRate)
  else if o = 0x24 then some (m.clo.appendLast + 65536 * m.clo.appendMax)
  else if 0x40 ≤ o ∧ o < 0x80 then
    let k := (o - 0x40) / 16
    let pick := match (m.slot k).freeze with
      | some f => f.pick
      | none => 0
    let size := match (m.slot k).freeze with
      | some f => entriesSize f.entries
      | none => 0
    if o % 16 = 0 then some (m.slotState k)
    else if o % 16 = 4 then some (pick % 2 ^ 32)
    else if o % 16 = 8 then some (pick / 2 ^ 32)
    else if o % 16 = 12 then some size
    else none
  else if o = 0x8000 then
    some (m.rep.state + 4 * m.rep.result + 64 * m.rep.used + 4096 * m.rep.pass + 2 ^ 18 * m.rep.passes
      + 2 ^ 24 * bit m.rep.stringsChecked + 2 ^ 25 * bit m.rep.cellKnown)
  else if o = 0x8004 then some (m.rep.progress % 2 ^ 32)
  else if o = 0x8008 then some (m.rep.progress / 2 ^ 32)
  else if o = 0x800C then some (m.rep.divPick % 2 ^ 32)
  else if o = 0x8010 then some (m.rep.divPick / 2 ^ 32)
  else if o = 0x8014 then some (m.rep.divSet + 65536 * m.rep.divCell)
  else if o = 0x8018 then some m.rep.rate
  else none

/-! ### Requests of the cloth record (R661, R665) -/

def cmdCloStatusGet (r : Req) (m : Module) : Resp :=
  m.basic r 0 .observe <|
    .done (leBytes 4 m.cloStatus ++ leBytes 4 m.cloCfg ++ leBytes 4 (satU32 m.cloRate) ++ leBytes 8 m.clo.snapPick
      ++ leBytes 8 m.clo.tailPick ++ zeros 4) m
def execCloStatusGet (r : Req) (s : State) : Host.Outcome State Fault Refusal := s.go (·.request 0x0700 cmdCloStatusGet r)

/-- CLO_FREEZE (R639): DONE with the SEQ of the span once it is captured; TIMEOUT where its trigger is lost. The trigger
follows the acceptance. -/
def cmdCloFreeze (r : Req) (m : Module) : Resp := m.basic r 0 .operate (.waitFixed [] [] m)
def execCloFreeze (r : Req) (s : State) : Host.Outcome State Fault Refusal :=
  s.go fun m =>
    let n := m.request 0x0701 cmdCloFreeze r
    match n.outst? m.cmd.nextId with
    | some o => n.cloTrigger 2 (some o.id)
    | none => n

def cmdCloSlotsGet (r : Req) (m : Module) : Resp :=
  m.basic r 0 .observe <|
    .done ((List.range 4).flatMap fun k =>
      (if (m.slot k).state = 0 then zeros 64 else (m.slot k).header) ++ leBytes 4 (m.slotState k) ++ zeros 12) m
def execCloSlotsGet (r : Req) (s : State) : Host.Outcome State Fault Refusal := s.go (·.request 0x0702 cmdCloSlotsGet r)

def reqSlot (r : Req) : Nat := byteAt r.payload 0

/-- CLO_SLOT_EXPORT: a slot not VALID is BUSY. -/
def cmdCloSlotExport (r : Req) (m : Module) : Resp :=
  m.checks r 4 (decide (reqSlot r < 4)) .observe <|
    if (m.slot (reqSlot r)).state ≠ 2 then .fail .busy m
    else .export_ (m.slot (reqSlot r)).image (some (reqSlot r)) m
def execCloSlotExport (r : Req) (s : State) : Host.Outcome State Fault Refusal := s.go (·.request 0x0703 cmdCloSlotExport r)

/-- CLO_SLOT_RELEASE: KEEP is cleared, event 425; a HELD span may then take the slot (R642). -/
def cmdCloSlotRelease (r : Req) (m : Module) : Resp :=
  m.checks r 4 (decide (reqSlot r < 4)) .engineer <|
    .done [] ((m.onClo fun c => { c with slots := tabUpd {} c.slots (reqSlot r) fun x => { x with keep := false } }).raise 425
      |>.cloPlace)
def execCloSlotRelease (r : Req) (s : State) : Host.Outcome State Fault Refusal :=
  s.go (·.request 0x0704 cmdCloSlotRelease r)

/-- A slot is erased; a HELD span may then take it. -/
def Module.slotErase (k : Nat) (m : Module) : Module :=
  (m.onClo fun c => { c with slots := tabPut {} c.slots k {} }).cloPlace

/-- CLO_SLOT_ERASE: BUSY for a slot with KEEP or IN_USE or being written; it waits for the write window (R716). -/
def cmdCloSlotErase (r : Req) (m : Module) : Resp :=
  let k := reqSlot r
  m.checks r 4 (decide (k < 4)) .engineer <|
    if (m.slot k).keep || m.slotInUse k || (m.slot k).state = 1 then .fail .busy m
    else if m.flashOk then .late [] (m.slotErase k)
    else .waitFixed [] [] (m.onClo fun c => { c with erasing := c.erasing ++ [(m.thisId, k)] })
def execCloSlotErase (r : Req) (s : State) : Host.Outcome State Fault Refusal := s.go (·.request 0x0705 cmdCloSlotErase r)

/-- The write window opens: the erases that waited are made, unless the slot has been taken meanwhile. -/
def Module.cloWindowOpen (m : Module) : Module :=
  let l := m.clo.erasing
  l.foldl (fun m p =>
    if (m.outst? p.1).isNone then m
    else if (m.slot p.2).keep || m.slotInUse p.2 || (m.slot p.2).state = 1 then m.finish p.1 .busy []
    else (m.slotErase p.2).finish p.1 .done []) (m.onClo fun c => { c with erasing := [] })

/-- The write window closes during a slot write: event 424 (R645). -/
def Module.cloWindowClose (m : Module) : Module := m.raiseIf m.clo.target.isSome 424

/-! ### Replay (R646 to R650, R662, R663) -/

/-- A source's entries, newest first. -/
def Module.repEntries (src : Nat) (m : Module) : List CloEntry :=
  if src = 0xFF then m.clo.ring
  else if (m.slot src).state = 2 then (match (m.slot src).freeze with
    | some f => f.entries
    | none => [])
  else []

/-- First groups of a snapshot's sets, ascending, from the map in its SNAP_HEAD (R637). -/
def headSets (e : CloEntry) : List Nat :=
  ((List.range 32).filterMap fun t =>
    let o := 8224 + 8 * t
    if byteAt e.body o = 3 ∧ byteAt e.body (o + 1) ≠ 0 then some (field e.body (o + 2) 2) else none).mergeSort (· ≤ ·)

/-- First groups that have a slice after a snapshot's head and before the next, entries oldest first. -/
def slicesAfter : List CloEntry → List Nat
  | [] => []
  | e :: es => if e.type = 4 then [] else if e.type = 5 then field e.body 2 2 :: slicesAfter es else slicesAfter es

/-- The start snapshot of a replay: its head and the entries after it, oldest first. -/
def Module.repStart (src start : Nat) (m : Module) : Option (CloEntry × List CloEntry) :=
  let es := (m.repEntries src).reverse.dropWhile fun e => !(e.type = 4 && (start = 0 || e.pick = start))
  match es with
  | e :: rest => some (e, rest)
  | [] => none

/-- The last pick of a source. -/
def lastPickOf (es : List CloEntry) : Nat := es.foldl (fun a e => max a e.pick) 0

/-- What REP_START asks for, if it is in order: start pick, end pick, sets, whether they are all of the snapshot. -/
def Module.repAsk (p : Bytes) (m : Module) : Option (Nat × Nat × List Nat × Bool) :=
  let src := byteAt p 0
  let mask := field p 4 4
  let fin := field p 16 8
  if 3 < src ∧ src ≠ 0xFF then none
  else if src ≠ 0xFF ∧ (m.slot src).release ≠ m.sys.release then none
  else match m.repStart src (field p 8 8) with
    | none => none
    | some (h, es) =>
      let sets := headSets h
      let have_ := slicesAfter es
      let want := maskList 32 mask
      let stop := if fin = 0 then lastPickOf es else fin
      if want = [] || want.any (fun i => decide (sets.length ≤ i)) || want.any (fun i => !(sets.getD i 0 ∈ have_))
          || decide (stop < h.pick) then none
      else some (h.pick, stop, want.map fun i => sets.getD i 0, decide (want.length = sets.length))

/-- Pool tiles a replay may use: healthy, neither live nor spare, not kept for a takeover. -/
def Module.replayTiles (m : Module) : List Nat :=
  tileNos.filter fun t => decide ((m.tile t).state ∈ [.off, .idle]) && !(t ∈ m.wft.take.map (·.repl))

/-- The replay tiles' banks are requested for master 33, which loads them and hands them to the tiles (R289, R290). -/
def Module.repLoad (ts : List Nat) (m : Module) : Module :=
  let m := ts.foldl (fun m t =>
    let m := (m.updTile t fun x => { x with state := .replay }).updDom t fun d => { d with state := 1, dest := none }
    let m := m.updDom (32 + t / 2) fun d => { d with state := 1, dest := none }
    (m.ownReq true (2 * t) false 33).ownReq true (2 * t + 1) false 33) m
  m.updDom 48 fun d => { d with state := 1, dest := none }

/-- REP_START: BUSY while a replay runs, with no pool tile, or while shedding; DONE when the first pass starts. -/
def cmdRepStart (r : Req) (m : Module) : Resp :=
  m.checks r 24 (m.repAsk r.payload).isSome .engineer <|
    if m.rep.state = 1 ∨ m.rep.state = 2 ∨ m.replayTiles = [] ∨ m.wft.shed then .fail .busy m
    else match m.repAsk r.payload with
      | none => .fail .badParam m
      | some (start, stop, sets, whole) =>
        let ts := m.replayTiles.take sets.length
        let rep : Rep :=
          { state := 2, tiles := ts, used := ts.length, pass := 1, passes := ceilDiv sets.length ts.length
            stringsChecked := whole && decide (sets.length ≤ ts.length), stopAtFirst := (byteAt r.payload 1).testBit 0
            source := byteAt r.payload 0, sets := sets, start := start, finish := stop, progress := start
            ended := m.rep.ended }
        let m := (m.onRep fun _ => rep).onWft fun w => { w with replayKeep := true }
        .late [] ((m.repLoad ts).power.raise 426)
def execRepStart (r : Req) (s : State) : Host.Outcome State Fault Refusal := s.go (·.request 0x0710 cmdRepStart r)

/-- REPLAY_PASS_END (R647, R648): how far the pass came, the first divergence if any (event 428), and the output records
of its cells; the next sets are loaded if a pass is left. -/
def Module.passEnd (last : Nat) (div : Option (Nat × Nat × Nat)) (rate : Nat) (outs : List (Nat × List Byte)) (m : Module) :
    Module :=
  if m.rep.state ≠ 2 then m
  else
    let m : Module := match div with
      | some (p, set_, cell) =>
        if m.rep.divPick = 0 ∧ m.rep.divSet = 0xFFFF then
          (m.onRep fun x => { x with divPick := p, divSet := set_, divCell := cell, cellKnown := decide (cell ≠ 0xFFFF) }).raise 428
        else m
      | none => m
    let m := m.onRep fun x =>
      { x with rate := satU32 rate, outputs := outs.foldl (fun t p => tabPut none t p.1 (some p.2)) x.outputs }
    if decide (m.rep.pass < m.rep.passes) && !(m.rep.stopAtFirst && decide (m.rep.divSet ≠ 0xFFFF)) then
      m.onRep fun x => { x with pass := x.pass + 1, progress := x.start }
    else m.onRep fun x => { x with progress := last }
def execReplayPassEnd (last : Nat) (div : Option (Nat × Nat × Nat)) (rate : Nat) (outs : List (Nat × List Byte)) (s : State) :
    Host.Outcome State Fault Refusal := s.go (·.passEnd last div rate outs)

/-- REPLAY_END (R649): a replay that reached its end is MATCH or DIVERGED as its passes found. -/
def execReplayEnd (result : Nat) (s : State) : Host.Outcome State Fault Refusal :=
  s.go fun m => m.replayEnd (if result ≤ 2 then (if m.rep.divSet = 0xFFFF then 1 else 2) else result)

def cmdRepStatusGet (r : Req) (m : Module) : Resp :=
  m.basic r 0 .observe <|
    let x := m.rep
    .done (leBytes 1 x.state ++ leBytes 1 x.result ++ leBytes 1 x.pass ++ leBytes 1 x.passes ++ leBytes 1 x.used
      ++ leBytes 1 (bit x.stringsChecked + 2 * bit x.cellKnown) ++ zeros 2 ++ leBytes 8 x.start ++ leBytes 8 x.finish
      ++ leBytes 8 x.progress ++ leBytes 8 x.divPick ++ leBytes 2 x.divSet ++ leBytes 2 x.divCell ++ leBytes 4 x.rate) m
def execRepStatusGet (r : Req) (s : State) : Host.Outcome State Fault Refusal := s.go (·.request 0x0711 cmdRepStatusGet r)

/-- REP_ABORT: DONE once the replay has ended; with none running, at once. -/
def cmdRepAbort (r : Req) (m : Module) : Resp :=
  m.basic r 0 .engineer <|
    if m.rep.state = 1 ∨ m.rep.state = 2 then .waitFixed [] [] (m.onRep fun x => { x with aborters := x.aborters ++ [m.thisId] })
    else .done [] m
def execRepAbort (r : Req) (s : State) : Host.Outcome State Fault Refusal := s.go (·.request 0x0712 cmdRepAbort r)

/-- REP_CELLS_GET: BUSY before any replay has ended; what it answers for a cell not replayed is not stated. -/
def cmdRepCellsGet (r : Req) (m : Module) : Resp :=
  m.checks r 4 (m.cellRange (reqFirst r) (reqCount r)) .observe <|
    if !m.rep.ended then .fail .busy m
    else
      .done ((rangeOf r).flatMap fun c => match tabGet none m.rep.outputs c with
        | some b => b
        | none => leBytes 32 (Config.freeNat (m.free + c))) (m.onFree (· + 8192))
def execRepCellsGet (r : Req) (s : State) : Host.Outcome State Fault Refusal := s.go (·.request 0x0713 cmdRepCellsGet r)

end Sys2Proof.Machine
end

