-- ==== Sys2Proof/Machine/Bolt.lean ====
section
/-! DEFINITION. Machine/Bolt.lean: the bolt recorder (R651 to R659, R661, R664, R669). -/
namespace Sys2Proof.Machine

/-! ### Histograms (R652) -/

def histKey (h x b : Nat) : Nat := (h * 8192 + x) * 32 + b
/-- The bin of a value's quotient (v − edge) / width, already floored. -/
def histBin (q : Int) : Nat := (max 0 (min 31 q)).toNat

/-- One count, saturating at 64 bits. -/
def Module.histAdd (h x : Nat) (q : Int) (m : Module) : Module :=
  m.onBlt fun b => { b with data := { b.data with
    hist := tabUpd 0 b.data.hist (histKey h x (histBin q)) fun v => min (v + 1) (2 ^ 64 - 1) } }

/-- floor(k × i / q) for a current in mA and a capacity in Ah held as FP32; none for a capacity that is not positive. -/
def perC (k : Int) (i : Int) (q : F32) : Option Int :=
  if !fFinite q || fSMant q ≤ 0 then none
  else if 0 ≤ fPow q then some (k * i / (1000 * fSMant q * (2 : Int) ^ (fPow q).toNat))
  else some (k * i * (2 : Int) ^ (-fPow q).toNat / (1000 * fSMant q))

/-- Primary reading of a cell at the latest pick, µV. -/
def Module.vPri (c : Nat) (m : Module) : Option Nat :=
  (m.estFrame (c / 512) (c % 512 / 16 + 1)).bind fun b =>
    let v := field b (10 + 3 * (c % 16)) 3
    if v = 0xFFFFFF then none else some v

/-- The value of a cell's NTC input as it last reported, 0.1 °C; none where that was invalid, or is substituted (R185). -/
def Module.cellNtc (c : Nat) (m : Module) : Option Int :=
  let x := m.ntc (ntcKey (c / 512) (c % 512 / 16 + 1) (c % 16 / 2))
  if secs 60 ≤ x.noT then none else x.last

def Module.histCell (c : Nat) (m : Module) : Module :=
  let m := match m.vPri c with
    | some v => m.histAdd 0 (c / 512) (((v : Int) - 2000000) / 75000)
    | none => m
  let m := match m.cellNtc c with
    | some t => m.histAdd 2 c ((t + 200) / 25)
    | none => m
  match m.cellSoc c with
  | some z => m.histAdd 3 c ((2 * z : Nat) / 625 : Nat)
  | none => m

/-- The counts of one second from the latest pick. -/
def Module.histCount (m : Module) : Module :=
  let m := m.allCells.foldl (fun m c => m.histCell c) m
  let m := m.enabledChains.foldl (fun m n => match m.strPack n, m.strCurrent n with
    | some pk, some i => (match perC 8 i (packQ pk) with
      | some q => m.histAdd 1 n (q + 16)
      | none => m)
    | _, _ => m) m
  let m := match m.hk.dieLast with
    | some t => m.histAdd 4 0 (t / 35)
    | none => m
  m.onBlt fun b => { b with histDue := false }

/-- BOLT_SECOND (R651, R652): an operating second; the histograms count outside BOOT, from the latest pick once it is
released. -/
def Module.boltSecond (m : Module) : Module :=
  let m := m.onBlt fun b => { b with data := { b.data with stamp := { b.data.stamp with secs := b.data.stamp.secs + 1 } } }
  if m.inBoot || !m.pck.running then m
  else if m.pck.released then m.histCount
  else m.onBlt fun b => { b with histDue := true }

/-! ### Extremes (R653) -/

def Module.extreme (i : Nat) (m : Module) : Option Extreme := tabGet none m.blt.data.extremes i

/-- Take a value beyond an extreme. -/
def Module.extremeTake (i : Nat) (high : Bool) (v : Int) (str cell serial : Nat) (m : Module) : Module :=
  let beyond := match m.extreme i with
    | none => true
    | some x => if high then decide (x.value < v) else decide (v < x.value)
  if !beyond then m
  else
    let e : Extreme := { value := v, stamp := m.blt.data.stamp, string := str, cell := cell, serial := serial }
    m.onBlt fun b => { b with data := { b.data with extremes := tabPut none b.data.extremes i (some e) } }

def Module.monSerial (n a : Nat) (m : Module) : Nat := ((m.chain n).dev a).serial

/-- Values of one cell. -/
def Module.extremeCell (c : Nat) (m : Module) : Module :=
  let n := c / 512
  let ser := m.monSerial n (c % 512 / 16 + 1)
  let m := match m.vPri c with
    | some v => (m.extremeTake 0 true v n c ser).extremeTake 1 false v n c ser
    | none => m
  let m := if c % 2 = 0 then (match m.cellNtc c with
      | some t => (m.extremeTake 2 true t n c ser).extremeTake 3 false t n c ser
      | none => m)
    else m
  match tempField (m.cellOut c) 6 with
  | some p => m.extremeTake 7 false p n c ser
  | none => m

/-- Values of one string. -/
def Module.extremeStr (n : Nat) (m : Module) : Module :=
  let ser := m.monSerial n 0
  let m := match m.strCurrent n with
    | some i => (m.extremeTake 4 false i n 0xFFFF ser).extremeTake 5 true i n 0xFFFF ser
    | none => m
  match m.estFrame n 0 with
  | none => m
  | some b =>
    let p := field b 20 2
    let q := field b 22 2
    if p = 0xFFFF ∨ q = 0xFFFF then m else m.extremeTake 6 false (min p q : Nat) n 0xFFFF ser

/-- The extremes at a released pick; event 432 for each one replaced. -/
def Module.boltExtremes (m : Module) : Module :=
  let old := m.blt.data.extremes
  let m := m.allCells.foldl (fun m c => m.extremeCell c) m
  let m := m.enabledChains.foldl (fun m n => m.extremeStr n) m
  let m : Module := match m.hk.dieLast with
    | some t => (m.extremeTake 8 true t 0xFF 0xFFFF 0).extremeTake 9 false t 0xFF 0xFFFF 0
    | none => m
  ((List.range 10).filter fun i => decide (tabGet none old i ≠ m.extreme i)).foldl (fun m _ => m.raiseOnce 432) m

/-! ### Stamps and flushes (R655, R656, R657) -/

/-- BOLT_STAMP_HOLD_END (R655): LAST takes the latest held occurrence and another 60 s begin, or the code is open again. -/
def Module.stampHoldEnd (c : Nat) (m : Module) : Module :=
  let b := tabGet ({} : BoltCode) m.blt.data.codes c
  match b.held with
  | some s => m.onBlt fun x =>
      { x with data := { x.data with codes := tabPut {} x.data.codes c { b with last := s, held := none } }
               prompt := x.prompt || boltPrompt c }
  | none => m.onBlt fun x => { x with data := { x.data with codes := tabPut {} x.data.codes c { b with closed := false } } }
def execBoltStampHoldEnd (code : Nat) (s : State) : Host.Outcome State Fault Refusal := s.go (·.stampHoldEnd code)

/-- The newest valid flush of either kind. -/
def Blt.newest (b : Blt) : Option BoltFlush :=
  match b.newestQuick, b.newestFull with
  | some q, some f => if q.seq < f.seq then some f else some q
  | some q, none => some q
  | none, f => f

def flushSeq (f : Option BoltFlush) : Nat := match f with
  | some x => x.seq
  | none => 0
def flushSecs (f : Option BoltFlush) : Nat := match f with
  | some x => x.data.stamp.secs
  | none => 0

/-- The flush asked for starts, with the sections as they stand. -/
def Module.flushStart (m : Module) : Module :=
  match m.blt.pending, m.blt.flush with
  | some full, none =>
    m.onBlt fun b =>
      { b with flush := some { full := full, seq := flushSeq b.newest + 1, data := b.data }, pending := none, deferred := false
               prompt := false, waiters := b.waitersNext, waitersNext := [] }
  | _, _ => m

/-- A deferral: counted, event 430. -/
def Module.flushDefer (m : Module) : Module :=
  if m.blt.deferred then m else ((m.onBlt fun b => { b with deferred := true }).bump 0x0C0024).raise 430

/-- A flush is requested (R656): after the one being written, once the write window is open, or later for load. -/
def Module.flushWant (full heavy : Bool) (id : Option Nat) (m : Module) : Module :=
  let m := m.onBlt fun b => { b with pending := some (full || b.pending.getD false), waitersNext := b.waitersNext ++ id.toList }
  if m.blt.flush.isSome then m
  else if !m.flashOk || heavy then m.flushDefer
  else m.flushStart

/-- BOLT_FLUSH_DUE (R656): a periodic flush, or a prompt QUICK one; above 90 % command load a periodic one is deferred. -/
def Module.flushDue (full periodic : Bool) (m : Module) : Module :=
  if periodic then m.flushWant full (decide (900 < m.cmd.loadLast)) none
  else if m.blt.prompt then (m.onBlt fun b => { b with prompt := false }).flushWant false false none
  else m
def execBoltFlushDue (full periodic : Bool) (s : State) : Host.Outcome State Fault Refusal := s.go (·.flushDue full periodic)

/-- A deferred flush starts once nothing holds it back: the write window opens, or its deferral for load ends. -/
def Module.flushResume (m : Module) : Module := if m.blt.deferred && m.flashOk then m.flushStart else m
def execBoltFlushDeferEnd (s : State) : Host.Outcome State Fault Refusal := s.go Module.flushResume

/-- BOLT_FLUSH_WRITTEN (R657): the valid mark is written; a further flush asked for follows. -/
def Module.flushWritten (m : Module) : Module :=
  match m.blt.flush with
  | none => m
  | some f =>
    if !m.flashOk then m
    else
      let ws := m.blt.waiters
      let m := m.onBlt fun b =>
        { b with flush := none, waiters := [], torn := false, newestFull := if f.full then some f else b.newestFull
                 newestQuick := if f.full then b.newestQuick else some f }
      (((m.bump 0x0C0020).raise 429).finishAll ws .done []).flushStart
def execBoltFlushWritten (s : State) : Host.Outcome State Fault Refusal := s.go Module.flushWritten

/-! ### Records and registers (R653, R654, R664, R669) -/

def Stamp.bytes (s : Stamp) : Bytes := leBytes 4 (satU32 s.secs) ++ leBytes 4 (satU32 s.cycles)

/-- A counter record (R654). -/
def Module.codeRecord (c : Nat) (m : Module) : Bytes :=
  let b := tabGet ({} : BoltCode) m.blt.data.codes c
  leBytes 2 c ++ zeros 2 ++ leBytes 4 b.count ++ b.first.bytes ++ b.last.bytes ++ zeros 8

/-- An extreme record (R653). -/
def Module.extremeRecord (i : Nat) (m : Module) : Bytes :=
  match m.extreme i with
  | none => leBytes 1 i ++ zeros 1 ++ leBytes 1 0xFF ++ zeros 1 ++ leBytes 2 0xFFFF ++ zeros 26
  | some x => leBytes 1 i ++ leBytes 1 1 ++ leBytes 1 x.string ++ zeros 1 ++ leBytes 2 x.cell ++ zeros 2
      ++ leBytes 4 (ofInt 32 x.value) ++ x.stamp.bytes ++ leBytes 8 x.serial ++ zeros 4

/-- The 256 bytes of one scope of a histogram. -/
def Module.histBytes (h x : Nat) (m : Module) : Bytes :=
  (List.range 32).flatMap fun b => leBytes 8 (tabGet 0 m.blt.data.hist (histKey h x b))

def Module.codesCounted (m : Module) : Nat := (m.blt.data.codes.filter fun p => p.2.count ≠ 0).length

/-- BLT_READ's summary (R664). -/
def Module.boltSummary (m : Module) : Bytes :=
  m.blt.data.stamp.bytes ++ leBytes 4 (flushSeq m.blt.newest) ++ leBytes 4 (satU32 (flushSecs m.blt.newestQuick))
    ++ leBytes 4 (satU32 (flushSecs m.blt.newestFull)) ++ leBytes 4 (m.counter 0x0C0028) ++ leBytes 4 m.codesCounted ++ zeros 4

/-- BLT registers (R669). -/
def Module.bltReg (off : Nat) (m : Module) : Option Nat :=
  if off = 0x0C0000 then some ((match m.blt.flush with
      | none => 0
      | some f => if f.full then 2 else 1) + 4 * bit m.blt.deferred + 8 * bit (m.blt.flush.isSome && m.blt.pending.isSome))
  else if off = 0x0C0004 then some (satU32 m.blt.data.stamp.secs)
  else if off = 0x0C0008 then some (satU32 m.blt.data.stamp.cycles)
  else if off = 0x0C000C then some (satU32 (flushSecs m.blt.newest))
  else if off = 0x0C0010 then some (satU32 (flushSecs m.blt.newestFull))
  else if off = 0x0C0014 then some (flushSeq m.blt.newest)
  else none

/-! ### Requests (R661, R664, R665) -/

/-- What BLT_READ returns; none for a range outside its table. -/
def Module.boltSection (sec first count : Nat) (m : Module) : Option Bytes :=
  let l := (List.range count).map (first + ·)
  let within := fun n => decide (1 ≤ count ∧ first + count ≤ n)
  match sec with
  | 0 => some m.boltSummary
  | 1 => if within 1024 then some (l.flatMap fun c => m.codeRecord c) else none
  | 2 => if within 10 then some (l.flatMap fun i => m.extremeRecord i) else none
  | 3 => if within 16 then some (l.flatMap fun n => m.histBytes 0 n ++ m.histBytes 1 n) else none
  | 4 => some (m.histBytes 4 0)
  | 5 => if m.cellRange first count then some (l.flatMap fun c => m.histBytes 2 c ++ m.histBytes 3 c) else none
  | _ => none

def cmdBltRead (r : Req) (m : Module) : Resp :=
  let sec := m.boltSection (byteAt r.payload 0) (field r.payload 2 2) (field r.payload 4 2)
  m.checks r 8 sec.isSome .observe (.done (sec.getD []) m)
def execBltRead (r : Req) (s : State) : Host.Outcome State Fault Refusal := s.go (·.request 0x0720 cmdBltRead r)

/-- A section with its CRC. -/
def sectionBytes (b : Bytes) : Bytes := withCrc b

/-- The DRAM bolt laid out as a FULL flush (R657); where in the header and the mark each field lies is the model's own. -/
def Module.boltImage (m : Module) : Bytes :=
  let seq := flushSeq m.blt.newest
  let head := leBytes 1 1 ++ zeros 3 ++ leBytes 4 seq ++ m.blt.data.stamp.bytes
  let strs := fun h => (List.range 16).flatMap fun n => m.histBytes h n
  let cells := fun h => (List.range 8192).flatMap fun c => m.histBytes h c
  head ++ sectionBytes m.blt.data.stamp.bytes ++ sectionBytes ((List.range 1024).flatMap fun c => m.codeRecord c)
    ++ sectionBytes ((List.range 10).flatMap fun i => m.extremeRecord i) ++ sectionBytes (strs 0) ++ sectionBytes (strs 1)
    ++ sectionBytes (m.histBytes 4 0) ++ sectionBytes (cells 2) ++ sectionBytes (cells 3)
    ++ leBytes 4 seq ++ leBytes 4 (crc32c head)

def cmdBltExport (r : Req) (m : Module) : Resp := m.basic r 0 .observe (.export_ m.boltImage none m)
def execBltExport (r : Req) (s : State) : Host.Outcome State Fault Refusal := s.go (·.request 0x0721 cmdBltExport r)

/-- BLT_FLUSH_NOW: DONE at the valid mark. -/
def cmdBltFlushNow (r : Req) (m : Module) : Resp :=
  m.checks r 4 (decide (byteAt r.payload 0 ≤ 1)) .operate <|
    .waitFixed [] [] (m.flushWant (decide (byteAt r.payload 0 = 1)) false (some m.thisId))
def execBltFlushNow (r : Req) (s : State) : Host.Outcome State Fault Refusal := s.go (·.request 0x0722 cmdBltFlushNow r)

/-- H2 and H3 of a cell set to zero. -/
def Module.histClear (c : Nat) (m : Module) : Module :=
  m.onBlt fun b => { b with data := { b.data with hist := b.data.hist.filter fun p =>
    p.1 / 32 ≠ 2 * 8192 + c && p.1 / 32 ≠ 3 * 8192 + c } }

/-- BLT_CELL_RESET (R659): code 549, event 433. -/
def cmdBltCellReset (r : Req) (m : Module) : Resp :=
  m.checks r 4 (m.cellRange (reqFirst r) (reqCount r)) .engineer <|
    .late [] ((((rangeOf r).foldl (fun m c => m.histClear c) m).boltCount 549).raise 433)
def execBltCellReset (r : Req) (s : State) : Host.Outcome State Fault Refusal := s.go (·.request 0x0723 cmdBltCellReset r)

end Sys2Proof.Machine
end

