-- ==== Sys2Proof/Machine/Command.lean ====
section
/-! DEFINITION. Machine/Command.lean: contexts, the event subscription and the bulk window (R484 to R508, R522 to
R529). -/
namespace Sys2Proof.Machine

/-- SYS_IDENT_GET (R529). -/
def cmdSysIdentGet (r : Req) (m : Module) : Resp :=
  if r.payload.length ≠ 0 then .fail .badLength m
  else .done (leBytes 8 m.sys.serial ++ leBytes 4 m.sys.release ++ leBytes 1 m.set.format ++ leBytes 1 m.rng.addr
    ++ leBytes 1 (bit m.isHead) ++ zeros 1 ++ leBytes 4 m.set.gen ++ leBytes 4 m.plantId) m
def execSysIdentGet (r : Req) (s : State) : Host.Outcome State Fault Refusal := s.go (·.request 0x0000 cmdSysIdentGet r)

/-- The key of a role, if present (R375, R490). -/
def Module.roleKey (role : Nat) (m : Module) : Option Bytes := (tabGet ({} : RoleKey) m.com.keys role).key

/-- The privilege a role's key opens (R488). -/
def rolePriv : Nat → Priv
  | 0 => .observe | 1 => .operate | 2 => .engineer | 3 => .safety | _ => .none

/-- CTX_OPEN (R490). -/
def cmdCtxOpen (r : Req) (m : Module) : Resp :=
  let role := byteAt r.payload 0
  let rm := field r.payload 2 2
  if r.payload.length ≠ 24 then .fail .badLength m
  else if role > 3 ∧ role ≠ 0xFF then .fail .badParam m
  else if rm < 1472 ∨ 65507 < rm then .fail .badParam m
  else
    let m := m.closeCtx r.ctx
    if role = 0xFF then
      let m := m.putCtx r.ctx (some { replyMax := rm, lastReq := m.sys.clock })
      .done (zeros 16 ++ leBytes 2 0 ++ zeros 2 ++ leBytes 8 m.sys.serial ++ zeros 4) (m.raise 480)
    else match m.roleKey role with
      | none => .fail .denied m
      | some _ =>
        let nonce := leBytes 16 (Config.nonce m.free).toNat
        let m := m.useFree.putCtx r.ctx (some
          { role := some role, moduleNonce := nonce, hostNonce := (r.payload.drop 4).take 16, replyMax := rm,
            lastReq := m.sys.clock })
        .done (nonce ++ leBytes 2 (tabGet ({} : RoleKey) m.com.keys role).version ++ zeros 2 ++ leBytes 8 m.sys.serial
          ++ zeros 4) (m.raise 480)
def execCtxOpen (r : Req) (s : State) : Host.Outcome State Fault Refusal := s.go (·.request 0x0001 cmdCtxOpen r)

/-- The message of a proof or of the session key (R491): label, nonces, ring address, context, and for a proof the
role. -/
def proofMsg (label : Bytes) (c : Ctx) (addr ctx : Nat) (role : Bytes) : Bytes :=
  label ++ c.moduleNonce ++ c.hostNonce ++ leBytes 1 addr ++ leBytes 2 ctx ++ role

def labelA : Bytes := [0x44, 0x4E, 0x43, 0x41]
def labelM : Bytes := [0x44, 0x4E, 0x43, 0x4D]
def labelK : Bytes := [0x44, 0x4E, 0x53, 0x4B]

/-- CTX_AUTH (R491, R492): a wrong proof, or one with no keyed open before it, completes with DENIED; a wrong proof also
closes the context, event 482. -/
def cmdCtxAuth (r : Req) (m : Module) : Resp :=
  if r.payload.length ≠ 16 then .fail .badLength m
  else match m.ctx? r.ctx with
    | none => .fail .denied m
    | some c => match c.role with
      | none => .fail .denied m
      | some role =>
        if c.authed then .fail .denied m
        else match m.roleKey role with
          | none => .fail .denied m
          | some k =>
            let rb := leBytes 1 role
            if r.payload = (Config.hmac k (proofMsg labelA c m.rng.addr r.ctx rb)).take 16 then
              .doneThen ((Config.hmac k (proofMsg labelM c m.rng.addr r.ctx rb)).take 16) m fun m =>
                m.updCtx r.ctx fun x =>
                  { x with authed := true, priv := rolePriv role
                           sessionKey := Config.hmac k (proofMsg labelK c m.rng.addr r.ctx []) }
            else .failThen .denied m fun m => (m.closeCtx r.ctx).raise 482
def execCtxAuth (r : Req) (s : State) : Host.Outcome State Fault Refusal := s.go (·.request 0x0002 cmdCtxAuth r)

/-- CTX_AUTH_TIMEOUT (R492): a keyed context that holds NONE, 10 s after its open, is closed. -/
def Module.authTimeout (c : Nat) (m : Module) : Module :=
  match m.ctx? c with
  | some x => if x.role.isSome && !x.authed then m.closeCtx c else m
  | none => m
def execCtxAuthTimeout (ctx : Nat) (s : State) : Host.Outcome State Fault Refusal := s.go (·.authTimeout ctx)

/-- CTX_CLOSE (R496): DONE is the last reply in the context. -/
def cmdCtxClose (r : Req) (m : Module) : Resp :=
  if r.payload.length ≠ 0 then .fail .badLength m
  else .doneThen [] m fun m => m.closeCtx r.ctx
def execCtxClose (r : Req) (s : State) : Host.Outcome State Fault Refusal := s.go (·.request 0x0003 cmdCtxClose r)

/-- CTX_IDLE_TIMEOUT (R496): no request for CTX_IDLE_TIME. -/
def execCtxIdleTimeout (ctx : Nat) (s : State) : Host.Outcome State Fault Refusal := s.go (·.closeCtx ctx)

/-! ### Events -/

/-- EVT_SUBSCRIBE (R506): the mask replaces the context's subscription. -/
def cmdEvtSubscribe (r : Req) (m : Module) : Resp :=
  m.basic r 64 .observe (.done [] (m.updCtx r.ctx fun c => { c with subs := leNat r.payload }))
def execEvtSubscribe (r : Req) (s : State) : Host.Outcome State Fault Refusal := s.go (·.request 0x0005 cmdEvtSubscribe r)

/-- An event record as sent (R508). -/
def evtBytes (e : EvtRec) : Bytes :=
  leBytes 2 e.event ++ leBytes 2 e.count ++ zeros 4 ++ leBytes 8 e.pick ++ leBytes 8 e.time ++ zeros 8

/-- EVENT_PACKET_SEND (R508): at most 40 waiting records leave in queue order. -/
def Module.sendEvents (c : Nat) (m : Module) : Module :=
  match m.ctx? c with
  | none => m
  | some x =>
    if x.waiting = [] then m
    else
      let recs := x.waiting.take 40
      let seq := x.evtSeq + 1
      let tr := m.sendTrailer c 0 0 0x0020 0 seq (recs.flatMap evtBytes)
      (m.updCtx c fun y => { y with waiting := y.waiting.drop 40, evtSeq := seq }).emit (.events c seq recs tr)
def execEventPacketSend (ctx : Nat) (s : State) : Host.Outcome State Fault Refusal := s.go (·.sendEvents ctx)

/-- CMD_LOAD_HIGH (R505, R531): the load of the last second; above 90 % it raises event 488. -/
def execCmdLoadHigh (load : Nat) (s : State) : Host.Outcome State Fault Refusal :=
  s.go fun m => (m.onCmd fun c => { c with loadLast := load, loadMax := max c.loadMax load }).raiseIf (900 < load) 488

/-- REQUEST_MALFORMED (R486): such a datagram is dropped without reply and counted; any other is no malformed request. -/
def malformed (d : Bytes) (fragmented : Bool) : Bool :=
  fragmented || decide (1472 < d.length ∨ d.length < 32 ∨ d.take 3 ≠ [0x44, 0x4E, 0x01]
    ∨ 32 + field d 12 2 + (if (byteAt d 3).testBit 2 then 16 else 0) ≠ d.length ∨ (byteAt d 3).testBit 1 = true)
def execRequestMalformed (datagram : List Byte) (fragmented : Bool) (s : State) : Host.Outcome State Fault Refusal :=
  s.go fun m => if malformed datagram fragmented then m.bump 0x000220 else m

/-- BAD_OPCODE (R503): a request with an opcode not known completes with BAD_OPCODE, after the packet checks and before
those of the queues. -/
def Module.badOpcode (op : Nat) (r : Req) (m0 : Module) : Module :=
  match m0.gate op r with
  | (m, false) => m
  | (m, true) => (m.onCmd fun d => { d with nextId := d.nextId + 1 }).reply (m.newOutst op r) .badOpcode []
def execBadOpcode (op : Nat) (r : Req) (s : State) : Host.Outcome State Fault Refusal := s.go (·.badOpcode op r)

/-! ### The bulk window (R522 to R526) -/

/-- BULK_STATUS_GET (R525). -/
def cmdBulkStatusGet (r : Req) (m : Module) : Resp :=
  m.basic r 0 .observe <|
    let n := m.bulk.owner.length
    let g := match m.ctx? r.ctx with
      | some c => c.given.length
      | none => 0
    .done (leBytes 2 m.bulk.pages ++ leBytes 2 (m.bulk.pages - n) ++ leBytes 2 n ++ leBytes 2 g ++ zeros 4) m
def execBulkStatusGet (r : Req) (s : State) : Host.Outcome State Fault Refusal := s.go (·.request 0x0A00 cmdBulkStatusGet r)

/-- BULK_GIVE (R525): the pages become MODULE, given to the context, after those it holds. -/
def cmdBulkGive (r : Req) (m : Module) : Resp :=
  let ps := (List.range (field r.payload 4 2)).map (field r.payload 0 4 + ·)
  if r.payload.length ≠ 8 then .fail .badLength m
  else if ps.any (fun p => m.bulk.pages ≤ p) then .fail .badParam m
  else if m.lacks r.ctx .observe then .fail .denied m
  else if m.inBoot then .fail .wrongMode m
  else if ps.any (fun p => m.pageOwner p ≠ .host) then .fail .pageNotOwned m
  else .done [] ((m.ownPages ps (.given r.ctx)).updCtx r.ctx fun c => { c with given := c.given ++ ps })
def execBulkGive (r : Req) (s : State) : Host.Outcome State Fault Refusal := s.go (·.request 0x0A01 cmdBulkGive r)

/-- BULK_RECLAIM (R525): every given page returns to HOST. -/
def cmdBulkReclaim (r : Req) (m : Module) : Resp :=
  m.basic r 0 .observe <|
    let ps := match m.ctx? r.ctx with
      | some c => c.given
      | none => []
    .done (leBytes 2 ps.length) ((m.ownPages ps .host).updCtx r.ctx fun c => { c with given := [] })
def execBulkReclaim (r : Req) (s : State) : Host.Outcome State Fault Refusal := s.go (·.request 0x0A02 cmdBulkReclaim r)

/-- A bulk packet on a MODULE page: not touched, counted, event 498 once per cycle (R523). -/
def Module.bulkRefused (m : Module) : Resp := .fail .pageNotOwned ((m.bump 0x000240).raiseOnce 498)

/-- BULK_WRITE (R523). -/
def cmdBulkWrite (r : Req) (m : Module) : Resp :=
  let page := field r.payload 0 4
  let off := field r.payload 4 4
  let n := field r.payload 8 2
  if r.payload.length < 12 ∨ r.payload.length ≠ 12 + n then .fail .badLength m
  else if m.bulk.pages ≤ page ∨ off % 4 ≠ 0 ∨ n % 4 ≠ 0 ∨ n < 4 ∨ 1024 < n ∨ 65536 < off + n then .fail .badParam m
  else if m.lacks r.ctx .operate then .fail .denied m
  else if m.inBoot then .fail .wrongMode m
  else if m.pageOwner page ≠ .host then m.bulkRefused
  else .done [] (m.winWrite (page * 65536 + off) (r.payload.drop 12))
def execBulkWrite (r : Req) (s : State) : Host.Outcome State Fault Refusal := s.go (·.request 0x0A10 cmdBulkWrite r)

/-- BULK_READ (R523). -/
def cmdBulkRead (r : Req) (m : Module) : Resp :=
  let page := field r.payload 0 4
  let off := field r.payload 4 4
  let n := field r.payload 8 2
  if r.payload.length ≠ 12 then .fail .badLength m
  else if m.bulk.pages ≤ page ∨ n < 4 ∨ 1024 < n ∨ 65536 < off + n then .fail .badParam m
  else if m.lacks r.ctx .observe then .fail .denied m
  else if m.inBoot then .fail .wrongMode m
  else if m.pageOwner page ≠ .host then m.bulkRefused
  else .done (m.winRead (page * 65536 + off) n) m
def execBulkRead (r : Req) (s : State) : Host.Outcome State Fault Refusal := s.go (·.request 0x0A11 cmdBulkRead r)

/-- The leading contiguous run of a list of pages. -/
def pageRun : List Nat → List Nat
  | [] => []
  | [p] => [p]
  | p :: q :: ps => if q = p + 1 then p :: pageRun (q :: ps) else [p]

/-- One batch of bulk output (R526): given pages filled in order to the end of a contiguous run or of the data, returned
to HOST, and CONTINUE or the final reply sent. -/
def Module.bulkBatch (b : BulkOut) (c : Ctx) (o : Outst) (m : Module) : Module :=
  let rest := b.data.drop b.offset
  let ps := (pageRun c.given).take (ceilDiv rest.length 65536)
  let batch := rest.take (ps.length * 65536)
  let first := ps.headD 0
  let last := decide (rest.length ≤ batch.length)
  let m := ((m.winWrite (first * 65536) batch).ownPages ps .host).updCtx o.ctx fun x =>
    { x with given := x.given.drop ps.length }
  let d := bulkDescriptor b.data.length b.offset batch.length first ps.length (bit last)
    (if batch = [] then 0 else crc32c batch)
  if last then m.finalReply o b.status d
  else
    let (o, m) := m.sendReply o .continued true d
    (m.putOutst o).onCmd fun x =>
      { x with bulkOut := x.bulkOut.map fun y =>
          if y.id = b.id then { y with offset := y.offset + batch.length, needed := false } else y }

/-- BULK_OUTPUT_BATCH (R526). -/
def Module.bulkOutput (ctx tag : Nat) (m : Module) : Module :=
  match m.cmd.outst.find? fun o => o.ctx = ctx && o.tag = tag && o.live with
  | none => m
  | some o => match m.cmd.bulkOut.find? (·.id = o.id), m.ctx? ctx with
    | some b, some c =>
      if c.given = [] then (if b.needed then m else m.askPages b) else m.bulkBatch b c o
    | _, _ => m
def execBulkOutputBatch (ctx tag : Nat) (s : State) : Host.Outcome State Fault Refusal := s.go (·.bulkOutput ctx tag)

/-- BULK_PAGE_WAIT_TIMEOUT (R526): no pages given within 120 s; the final reply is TIMEOUT with the descriptor. -/
def Module.bulkTimeout (ctx tag : Nat) (m : Module) : Module :=
  match m.cmd.outst.find? fun o => o.ctx = ctx && o.tag = tag && o.live with
  | none => m
  | some o => match m.cmd.bulkOut.find? (·.id = o.id) with
    | some b =>
      if b.needed then (m.finalReply o .timeout (bulkDescriptor b.data.length b.offset 0 0 0 2 0)).raise 497 else m
    | none => m
def execBulkPageWaitTimeout (ctx tag : Nat) (s : State) : Host.Outcome State Fault Refusal := s.go (·.bulkTimeout ctx tag)

end Sys2Proof.Machine
end

