-- ==== Sys2Proof/Machine/RngOps.lean ====
section
/-! DEFINITION. Machine/RngOps.lean: the shuttle ring as operations: ports, paths, frames, epochs, plant time, headship and
the host port (R534 to R568). -/
namespace Sys2Proof.Machine

/-! ### Ports and frames (R536 to R544) -/

def Module.port (p : Nat) (m : Module) : RPort := if p = 0 then m.rng.portA else m.rng.portB
def Module.updPort (p : Nat) (f : RPort → RPort) (m : Module) : Module :=
  m.onRng fun r => if p = 0 then { r with portA := f r.portA } else { r with portB := f r.portB }
def Module.portUp (p : Nat) (m : Module) : Bool := decide ((m.port p).state = .up)

def portCode : PortState → Nat
  | .disabled => 0 | .down => 1 | .up => 2 | .wrapped => 3 | .miswired => 4

def arbCode : ArbState → Nat
  | .notArbiter => 0 | .held => 1 | .guard_ => 2 | .probe => 3 | .window => 4 | .granting => 5 | .noHead => 6 | .fault => 7

/-- SRC of the frames this module sends (R538). -/
def Module.srcAddr (m : Module) : Nat := if m.rng.addr < 64 then m.rng.addr else 0xFE

/-- The optic is accepted in its cage (R7): H takes SR, LR and 1000BASE-X, RA and RB take SR and LR. -/
def opticOk (cage kind : Nat) : Bool := decide (kind = 1 ∨ kind = 2 ∨ (kind = 3 ∧ cage = 0))

/-- Cage H holds an optic that is refused: it stays disabled, its transmitter off (R8). -/
def Module.hostRefused (m : Module) : Bool := decide (m.rng.cageH ≠ 0) && !opticOk 0 m.rng.cageH

/-- The host-port transmitter is enabled (R8, R559). -/
def Module.gate_ (m : Module) : Bool := !m.hostRefused && ((m.rng.holdOut && m.rng.latch) || m.rng.local_)

/-- RNG_HEAD.STATE (R575). -/
def Module.headCode (m : Module) : Nat :=
  if m.rng.local_ then 5 else match m.rng.head with
    | .member => 0 | .candidate => 1 | .claiming => 2 | .head => 3 | .holdoff => 4

/-- RNG_HEAD (R575). -/
def Module.headReg (m : Module) : Nat :=
  let r := m.rng
  m.headCode + 8 * r.side + 0x20 * r.grantIn + 0x80 * bit r.holdOut + 0x100 * bit (r.holdOut || r.holdLine)
    + 0x200 * bit m.gate_ + 0x400 * bit r.arbiterSeen + 0x10000 * r.lastRefuse

/-- A frame of this module (R538): a fresh message number, TTL 128, its epoch. -/
def Module.frame (type cls dst : Nat) (payload : Bytes) (m : Module) : RFrame :=
  { type := type, flags := cls, dst := dst, src := m.srcAddr, epoch := m.rng.epoch, msgId := m.rng.msgId,
    serial := m.sys.serial, payload := payload }

/-- Put a frame on a port; where the link is down it is turned onto the other direction, WRAPPED (R542). -/
def Module.ringOut (p : Nat) (f : RFrame) (m : Module) : Module :=
  if m.portUp p then m.emit (.ring p f)
  else if m.portUp (1 - p) then m.emit (.ring (1 - p) { f with flags := f.flags ||| 2 })
  else m

/-- Bytes a frame takes of the bulk credit (R538, R548). -/
def frameSize (f : RFrame) : Nat := 36 + f.payload.length

/-- Grant the peer room for what has left (R539, R548): CREDIT in 64-byte units. -/
def Module.grant (p n : Nat) (m : Module) : Module :=
  m.emit (.ring p (m.frame 0x0E 0 0xFF (leBytes 4 (ceilDiv n 64) ++ zeros 28)))

/-- Send a bulk frame while the port's credit allows it, else hold it (R548). -/
def Module.bulkSend (p : Nat) (f : RFrame) (m : Module) : Module :=
  if (m.port p).bulkQ = [] && decide ((frameSize f) ≤ (m.port p).credit) then
    ((m.updPort p fun x => { x with credit := x.credit - (frameSize f) }).ringOut p f)
  else m.updPort p fun x => { x with bulkQ := x.bulkQ ++ [f] }

/-- Send what a port holds for as long as its credit lasts (R548). -/
def Module.bulkDrain (p : Nat) : List RFrame → Module → Module
  | [], m => m
  | f :: fs, m =>
    if (frameSize f) ≤ (m.port p).credit then
      ((m.updPort p fun x => { x with credit := x.credit - (frameSize f), bulkQ := fs }).ringOut p f).bulkDrain p fs
    else m

/-! ### Topology (R541 to R545) -/

def Module.anns (m : Module) : List (Nat × Ann) := m.rng.ann.filterMap fun p => p.2.map fun a => (p.1, a)

/-- Hops to a module going out of RA, and going out of RB: a broadcast leaves from its sender's RA, so an unwrapped one
has come from the RB direction; in a line, wrapped ones come from the RA direction with the detour to its end. -/
def Module.hopsA (a : Ann) (m : Module) : Option Nat :=
  let w := m.anns.filter fun x => x.2.wrapped
  if w = [] then some (m.anns.length + 1 - a.hops)
  else if a.wrapped then some (2 * (w.foldl (fun n x => min n x.2.hops) a.hops) - a.hops) else none
def Module.hopsB (a : Ann) : Option Nat := if a.wrapped then none else some a.hops

/-- The way to a module is whole in a direction: this port is up, every module on the way has both ports up, and the
module's own near port is up. -/
def Module.wayA (a : Ann) (m : Module) : Option Nat :=
  match m.hopsA a with
  | none => none
  | some h =>
    let mid := m.anns.all fun x => match m.hopsA x.2 with
      | some k => !(decide (k < h)) || decide (x.2.stateA = 2 ∧ x.2.stateB = 2)
      | none => true
    if m.portUp 0 && mid && decide (a.stateB = 2) then some h else none
def Module.wayB (a : Ann) (m : Module) : Option Nat :=
  match hopsB a with
  | none => none
  | some h =>
    let mid := m.anns.all fun x => match hopsB x.2 with
      | some k => !(decide (k < h)) || decide (x.2.stateA = 2 ∧ x.2.stateB = 2)
      | none => true
    if m.portUp 1 && mid && decide (a.stateA = 2) then some h else none

/-- The direction of R541, and its hops: the fewer hops, RA on a tie. -/
def Module.way (a : Ann) (m : Module) : Option (Nat × Nat) :=
  match m.wayA a, m.wayB a with
  | some x, some y => if x ≤ y then some (0, x) else some (1, y)
  | some x, none => some (0, x)
  | none, some y => some (1, y)
  | none, none => none

/-- The announced module at a ring address. -/
def Module.annAt (addr : Nat) (m : Module) : Option Ann := (m.anns.find? fun x => x.2.addr = addr).map (·.2)

/-- The direction to an address; RA where none is known. -/
def Module.dirTo (dst : Nat) (m : Module) : Nat := match (m.annAt dst).bind (fun a => m.way a) with
  | some (d, _) => d
  | none => 0

/-- The ring state (R545). Links down show at both their ends; modules that have left the table make it SEGMENTED. -/
def Module.ringState (m : Module) : Nat :=
  let dn := fun (s : Nat) => bit (s ≠ 2)
  let downs := bit (!m.portUp 0) + bit (!m.portUp 1) + (m.anns.map fun x => dn x.2.stateA + dn x.2.stateB).sum
  if !m.portUp 0 && !m.portUp 1 then 0
  else if downs = 0 then 1
  else if 2 < downs ∨ m.rng.missing ≠ [] then 3
  else 2

/-- Serial numbers in ring order in the RA direction (R570). -/
def Module.ringOrder (m : Module) : List Nat :=
  let a := m.anns.filterMap fun x => (m.hopsA x.2).map fun h => (x.1, h)
  let b := (m.anns.filter fun x => (m.hopsA x.2).isNone).filterMap fun x => (hopsB x.2).map fun h => (x.1, h)
  ((a.mergeSort fun x y => x.2 ≤ y.2) ++ (b.mergeSort fun x y => y.2 ≤ x.2)).map (·.1)

/-- Recompute the direction to every destination; one that changes starts the hold of R543. -/
def Module.repath (m : Module) : Module :=
  m.anns.foldl (fun m x =>
    let d := m.dirTo x.2.addr + 1
    let old := tabGet 0 m.rng.dirs x.2.addr
    m.onRng fun r =>
      { r with dirs := tabPut 0 r.dirs x.2.addr d
               holds := if old ≠ 0 ∧ old ≠ d ∧ (tabGet none r.holds x.2.addr).isNone
                 then tabPut none r.holds x.2.addr (some []) else r.holds }) m

/-- What follows a change of ports or announcements: paths, events 388, 389 and 392 (R542, R549). -/
def Module.ringJudge (m old : Module) : Module :=
  let m := m.repath
  let m := m.raiseIf (m.ringState = 3 && old.ringState ≠ 3) 388
  let m := if m.ringState = 1 then m.onRng fun r => { r with missing := [] } else m
  let m := m.raiseIf (m.ringOrder ≠ old.ringOrder) 389
  let dup := decide (m.rng.addr < 64) && m.anns.any fun x => x.2.addr = m.rng.addr
  (m.onRng fun r => { r with dup := dup }).raiseIf (dup && !m.rng.dup) 392

/-- Release a frame towards a destination: held for 500 µs after a change of path (R543). -/
def Module.ringTo (f : RFrame) (m : Module) : Module :=
  match tabGet none m.rng.holds f.dst with
  | some fs => m.onRng fun r => { r with holds := tabPut none r.holds f.dst (some (fs ++ [f])) }
  | none =>
    let p := m.dirTo f.dst
    let f := { f with flags := f.flags ||| 4 * p }
    if f.flags % 2 = 1 then m.bulkSend p f else m.ringOut p f

/-- The fragments of a message (R538). -/
def fragments : Nat → Nat → Bytes → List (Nat × Bytes × Bool)
  | 0, _, _ => []
  | n + 1, i, b => if b.length ≤ 2048 then [(i, b, true)] else (i, b.take 2048, false) :: fragments n (i + 1) (b.drop 2048)

/-- Send a message to a destination or to all, in fragments, each message under its own number (R538, R541). -/
def Module.ringSend (type cls dst : Nat) (payload : Bytes) (m : Module) : Module :=
  let base := m.frame type cls dst payload
  let m := m.onRng fun r => { r with msgId := (r.msgId + 1) % 2 ^ 32 }
  (fragments (payload.length / 2048 + 1) 0 payload).foldl (fun m x =>
    let f := { base with frag := x.1, payload := x.2.1,
                         flags := cls + (if x.1 = 0 then 8 else 0) + (if x.2.2 then 16 else 0) }
    if dst = 0xFF then m.ringOut 0 f else m.ringTo f) m

/-- Broadcast ANNOUNCE (R539). -/
def Module.announce (m : Module) : Module :=
  (m.onRng fun r => { r with announced := true }).ringSend 0x02 0 0xFF
    (leBytes 8 m.sys.serial ++ leBytes 1 m.srcAddr ++ leBytes 1 m.rng.role ++ leBytes 1 (portCode m.rng.portA.state)
      ++ leBytes 1 (portCode m.rng.portB.state) ++ leBytes 4 m.headReg ++ zeros 16)

/-- A link goes down (R537, R542): the module wraps and announces. -/
def Module.linkDown (p : Nat) (m : Module) : Module :=
  let st := (m.port p).state
  let m1 := m.updPort p fun x =>
    { x with hellos := 0, state := if x.state = .disabled then .disabled else .down, peerKnown := false, delay := none }
  if st = .up ∨ st = .wrapped then
    let m1 := m1.raise 385
    let m1 := if st = .up && m.portUp (1 - p) then (m1.bump 0x0D0048).raise 386 else m1
    m1.announce.ringJudge m
  else m1

/-! ### Headship (R557 to R565) -/

/-- A module stops being head (R565). -/
def Module.stopHead (m : Module) : Module :=
  if !m.isHead then m
  else (m.onRng fun r => { r with head := .holdoff, holdOut := false, latch := false, releasing := false, arpLeft := 0,
                                  headAddr := none }).raise 399

/-- Local mode (R557): COMMISSION, FUSE_EN asserted, not head, cage H with link. -/
def Module.judgeLocal (m : Module) : Module :=
  let l := decide (m.sys.mode = .commission) && m.com.fuseEn && !m.isHead && m.rng.hostUp
  (m.onRng fun r => { r with local_ := l }).raiseIf (l && !m.rng.local_) 407

/-- Cage H gains or loses its link (R557, R576). -/
def Module.hostTo (up : Bool) (m : Module) : Module :=
  if m.rng.hostUp = up then m
  else ((m.onRng fun r => { r with hostUp := up }).raise (if up then 405 else 406)).judgeLocal

/-- Take a higher HEAD_EPOCH (R564): every context is closed, here and at every module, so nothing forwarded or bound by an
earlier head stands (R489, R550). -/
def Module.adoptEpoch (e : Nat) (m : Module) : Module :=
  let m := (m.cmd.ctxs.map (·.1)).foldl (fun m c => m.closeCtx c) m
  (m.onRng fun r =>
    { r with epoch := e, epochSeen := max r.epochSeen e, headAddr := none, fwd := [], bind := [] }).bump 0x0D0050

/-- Whether a frame of a lower HEAD_EPOCH is taken all the same (R564). -/
def anyEpoch (type : Nat) : Bool := decide (type = 0x01 ∨ type = 0x02 ∨ type = 0x0C)

/-- Send a frame on, one hop further (R538, R540): its TTL falls by 1. -/
def Module.ringPass (f : RFrame) (full : Bool) (m : Module) : Module :=
  let p := 1 - f.port
  if f.ttl ≤ 1 then (if f.flags % 2 = 0 then m.bump 0x0D0044 else m.grant f.port (frameSize f))
  else
    let g := { f with ttl := f.ttl - 1 }
    if f.flags % 2 = 1 then (m.bulkSend p g).grant f.port (frameSize f)
    else if full then (m.bump 0x0D0044).raiseOnce 395
    else m.ringOut p g

/-- The port takes no frame of this type: a refused optic leaves it disabled (R8), a miswired one carries HELLO alone (R536). -/
def Module.portShut (f : RFrame) (m : Module) : Bool :=
  let st := (m.port f.port).state
  decide (st = .disabled ∨ (st = .miswired ∧ f.type ≠ 0x01))

/-- A frame goes no further on the ring (R540, R548): a bulk one makes room again for its sender. -/
def Module.ringTake (f : RFrame) (m : Module) : Module :=
  if f.flags % 2 = 1 then m.grant f.port (frameSize f) else m

/-- A frame that arrives (R538 to R540, R564): HCRC, removal of a broadcast that comes back, a HEAD_EPOCH below the one held,
forwarding, CRC, a higher epoch, type; `k` is what its destination does with it, none for a command or a frame of another
module. -/
def Module.ringIn (type : Option Nat) (full : Bool) (f : RFrame) (k : Module → Module) (m : Module) : Module :=
  if !f.hcrcOk || (f.serial = m.sys.serial && f.type ≠ 0x01) || m.portShut f then m
  else
    let link := decide (f.type = 0x01 ∨ f.type = 0x0E)
    let mine := decide (f.dst = m.rng.addr ∨ f.dst = 0xFF) || link
    if f.epoch < m.rng.epoch && !anyEpoch f.type then (if link then m else m.ringTake f)
    else
      let m := if link then m else if f.dst = 0xFF ∨ f.dst ≠ m.rng.addr then m.ringPass f full else m.ringTake f
      if !f.crcOk then (m.bump 0x0D0040).raiseOnce 394
      else
        let m := m.onRng fun r => { r with epochSeen := max r.epochSeen f.epoch }
        let m := if m.rng.epoch < f.epoch then m.adoptEpoch f.epoch else m
        if !mine then m
        else match type with
          | none => if 1 ≤ f.type ∧ f.type ≤ 0x0E then m else m.bump 0x0D0040
          | some ty => if f.type ≠ ty then m.bump 0x0D0040 else k m

/-- As `ringIn` for a message, in one fragment or more (R538): `k` takes the whole message. The fragments of a message come in
order; one that is missing loses the message. -/
def Module.ringMsg (type : Nat) (full : Bool) (f : RFrame) (k : Bytes → Module → Module) (m : Module) : Module :=
  m.ringIn (some type) full f fun m =>
    let key := f.serial * 256 + type
    let have_ := if f.flags.testBit 3 then some (0, []) else tabGet none m.rng.parts key
    let put := fun (v : Option (Nat × Bytes)) (m : Module) => m.onRng fun r => { r with parts := tabPut none r.parts key v }
    match have_ with
    | none => m
    | some (n, b) =>
      if f.frag ≠ n then put none m
      else if f.flags.testBit 4 then k (b ++ f.payload) (put none m)
      else put (some (n + 1, b ++ f.payload)) m

/-! ### Plant time and the grid index (R81, R82, R551 to R555) -/

/-- Correct plant time by a value taken at clock `t` (R554, R600): up to 1 ms is slewed out, more is stepped. The answer
says whether it was stepped. -/
def Module.plantCorrect (v t : Nat) (m : Module) : Bool × Module :=
  let cur := m.plantAt t
  let d : Int := (v : Int) - cur
  let step := decide (1000000 < d.natAbs)
  (step, m.onRng fun r =>
    { r with plant := some (if step then v else cur, t), slew := if step then 0 else d, timeOffset := sat32s d })

/-- Take a pair (G, t_G) (R82): adopted if the start of the treadle cycle nearest to t_G lies within ¼ cycle of it. The
answer says which counts an adoption that moves the count forward skips. -/
def Module.gridAdopt (g tg : Nat) (m : Module) : Option (Nat × Nat) × Module :=
  let c : Int := (m.runCycle / 4 : Nat)
  let start : Int := m.plantAt m.ang.cycleStart
  let d : Int := (tg : Int) - start
  let k : Int := if c = 0 then 0 else (2 * d + c) / (2 * c)
  if c ≠ 0 ∧ 4 * (d - k * c).natAbs ≤ c.natAbs then
    let now := ofInt 64 ((g : Int) - k)
    let old := m.ang.gridIndex
    let m := m.raiseIf m.ang.gridLocal 43
    (if old < now then some (old, now) else none,
     m.onAng fun a => { a with gridIndex := now, gridLocal := false, adopted := true })
  else
    let m := (m.bump 0x040068).raiseIf (!m.ang.gridLocal) 44
    (none, m.onAng fun a => { a with gridLocal := true })

/-- The TIME payload of the head (R553). -/
def Module.timePayload (t : Nat) (m : Module) : Bytes :=
  leBytes 8 (m.plantAt t) ++ zeros 8 ++ leBytes 8 m.ang.gridIndex ++ leBytes 8 (m.plantAt m.ang.cycleStart)

/-! ### The host port (R550, R556) -/

/-- Send a datagram from the host port (R556): beyond the netmask through HOST_GATEWAY, dropped where there is none. -/
def Module.hostSend (ip port from_ : Nat) (data : Bytes) (m : Module) : Module :=
  let mask := m.setting 0x0D03
  let near := decide (ip &&& mask = m.setting 0x0D02 &&& mask) || m.rng.local_
  if near || m.setting 0x0D04 ≠ 0 then m.emit (.udp ip port from_ data) else m.bump 0x0D0058

/-- The head's own answer (R550): reason 1 NOT_PRESENT, 2 LOST. -/
def Module.notPresent (q : Fwd) (reason : Nat) (m : Module) : Module :=
  (m.hostSend q.ip q.port (if isBulkOp q.opcode then 47522 else 47520) (pktHeader 0 q.dst q.ctx q.tag q.opcode 0x0600 4 0 ++ leBytes 1 reason ++ zeros 3)).bump 0x0D004C

/-- A forwarded request is answered for good. -/
def Module.dropFwd (p : Fwd → Bool) (m : Module) : Module := m.onRng fun r => { r with fwd := r.fwd.filter fun q => !p q }

/-- A module no longer holds a context open (R489); a binding that no module holds is released. -/
def Module.unbind (ctx : Option Nat) (mod_ : Nat) (m : Module) : Module :=
  m.onRng fun r => { r with bind := r.bind.filterMap fun p =>
    match p.2 with
    | none => none
    | some b =>
      if ctx.all (· = p.1) && mod_ ∈ b.open_ then
        let o := b.open_.filter (· ≠ mod_)
        if o = [] then none else some (p.1, some { b with open_ := o })
      else some p }

end Sys2Proof.Machine
end

