-- ==== Sys2Proof/Machine/Ring.lean ====
section
/-! DEFINITION. Machine/Ring.lean: the events and requests of the shuttle ring, the head and the arbiter (R534 to R576). -/
namespace Sys2Proof.Machine

/-! ### Links (R535 to R544) -/

/-- RING_BLOCK_LOCK_CHANGE (R537). -/
def Module.lockChange (p : Nat) (ok : Bool) (t : Nat) (m : Module) : Module :=
  let m := (m.tick t).updPort p fun x => { x with pcs := ok }
  if ok then m else m.linkDown p
def execRingBlockLockChange (port : Nat) (ok : Bool) (t : Nat) (s : State) : Host.Outcome State Fault Refusal :=
  s.go (·.lockChange port ok t)

/-- HELLO_SEND (R537, R539). -/
def Module.helloSend (p turn : Nat) (m : Module) : Module :=
  if (m.port p).state = .disabled then m
  else
    let pay := leBytes 8 m.sys.serial ++ leBytes 1 m.srcAddr ++ leBytes 1 m.rng.role ++ leBytes 1 p
      ++ leBytes 1 (bit m.rng.hostUp) ++ leBytes 4 turn ++ zeros 16
    let f := m.frame 0x01 (24 + 4 * p) 0xFF pay
    (m.onRng fun r => { r with msgId := (r.msgId + 1) % 2 ^ 32 }).emit (.ring p f)
def execHelloSend (port turn : Nat) (s : State) : Host.Outcome State Fault Refusal := s.go (·.helloSend port turn)

/-- A link that meets R537 comes up: used at once the first time, after 100 ms thereafter (R544). -/
def Module.linkUp (p t : Nat) (m : Module) : Module :=
  let x := m.port p
  if x.pcs && decide (16 ≤ x.hellos) && decide (x.state = .down) then
    let m1 := m.updPort p fun x =>
      { x with state := if x.everUp then .wrapped else .up, everUp := true, upAt := t }
    ((m1.raise 384).announce).ringJudge m
  else m

/-- A port changed otherwise than by its link: the module announces it (R539). -/
def Module.portChanged (m old : Module) : Module :=
  if m.rng.portA.state = old.rng.portA.state ∧ m.rng.portB.state = old.rng.portB.state then m else m.announce.ringJudge old

/-- HELLO_RX (R536, R537): the peer's identity, the wiring, the link delay, and the count towards link up. -/
def Module.hello (f : RFrame) (trip t : Nat) (m : Module) : Module :=
  let p := f.port
  let b := f.payload
  (m.tick t).ringIn (some 0x01) false f fun m =>
    if (m.port p).state = .disabled then m
    else if byteAt b 10 = p then
      let was := (m.port p).state
      let m := if was = .up ∨ was = .wrapped then m.linkDown p else m
      let old := m
      let m := (m.updPort p fun x =>
        { x with state := .miswired, hellos := 0, peerKnown := decide (byteAt b 8 < 64)
                 peerAddr := byteAt b 8 % 64, peerPort := byteAt b 10 }).raiseIf (was ≠ .miswired) 391
      Module.portChanged m old
    else
      let late := fun (x : RPort) => x.delay.isNone || decide (x.delayAt + msec 100 ≤ t)
      (m.updPort p fun x =>
        { x with state := if x.state = .miswired then .down else x.state, hellos := min 16 (x.hellos + 1)
                 peerKnown := decide (byteAt b 8 < 64), peerAddr := byteAt b 8 % 64, peerPort := byteAt b 10 % 2
                 delay := if late x then some ((trip - field b 12 4) / 2) else x.delay
                 delayAt := if late x then t else x.delayAt }).linkUp p t
def execHelloRx (f : RFrame) (trip t : Nat) (s : State) : Host.Outcome State Fault Refusal := s.go (·.hello f trip t)

/-- HELLO_TIMEOUT (R537): no HELLO for 300 µs. -/
def execHelloTimeout (port t : Nat) (s : State) : Host.Outcome State Fault Refusal := s.go fun m => (m.tick t).linkDown port

/-- RING_UNWRAP (R544): a port up for 100 ms is used again. -/
def Module.unwrap (p t : Nat) (m : Module) : Module :=
  let m := m.tick t
  if (m.port p).state = .wrapped && decide ((m.port p).upAt + msec 100 ≤ t) then
    (((m.updPort p fun x => { x with state := .up }).raise 387).announce).ringJudge m
  else m
def execRingUnwrap (port t : Nat) (s : State) : Host.Outcome State Fault Refusal := s.go (·.unwrap port t)

/-- PATH_HOLD_END (R543): the frames held for a destination leave on its path. -/
def Module.holdRelease (dst : Nat) (m : Module) : Module :=
  match tabGet none m.rng.holds dst with
  | none => m
  | some fs => fs.foldl (fun m f => m.ringTo f) (m.onRng fun r => { r with holds := tabPut none r.holds dst none })
def execPathHoldEnd (dst : Nat) (s : State) : Host.Outcome State Fault Refusal := s.go (·.holdRelease dst)

/-- CAGE_OPTIC_CHANGE (R8, R535): a refused optic leaves its cage disabled, event 390. -/
def Module.optic (cage kind : Nat) (m : Module) : Module :=
  let ok := opticOk cage kind
  let m := if cage = 0 then
      let m := m.onRng fun r => { r with cageH := kind }
      if m.hostRefused then m.hostTo false else m
    else
      let p := cage - 1
      let m := m.onRng fun r => if p = 0 then { r with cageA := kind } else { r with cageB := kind }
      let m := if ok then m else m.linkDown p
      Module.portChanged (m.updPort p fun x =>
        { x with state := if !ok then .disabled else if x.state = .disabled then .down else x.state }) m
  m.raiseIf (!ok && kind ≠ 0) 390
def execCageOpticChange (cage kind : Nat) (s : State) : Host.Outcome State Fault Refusal := s.go (·.optic cage kind)

/-! ### Announcements (R539, R549, R550) -/

/-- Complete a RING_ADDR_ASSIGN. -/
def Module.assignEnd (p : Assign → Bool) (st : Status) (m : Module) : Module :=
  let fin := m.rng.assign.filter p
  (m.onRng fun r => { r with assign := r.assign.filter fun a => !p a }).finishAll (fin.map (·.cmd)) st []

/-- ANNOUNCE_SEND (R539), every 100 ms; an assignment that nothing announced within 1 s ends (R571). -/
def Module.announceSend (la lb t : Nat) (m : Module) : Module :=
  let m := (((m.tick t).updPort 0 fun x => { x with load := la }).updPort 1 fun x => { x with load := lb }).announce
  m.assignEnd (fun a => decide (a.at_ + secs 1 ≤ m.sys.clock)) .timeout
def execAnnounceSend (loadA loadB t : Nat) (s : State) : Host.Outcome State Fault Refusal := s.go (·.announceSend loadA loadB t)

/-- What the arbiter and the members learn from a head's ANNOUNCE (R563, R566). -/
def Module.hearHead (a : Ann) (f : RFrame) (m : Module) : Module :=
  if a.head % 8 ≠ 3 then m
  else
    let m := m.onRng fun r => { r with headAddr := if f.epoch = r.epoch then some a.addr else r.headAddr, holdLine := true }
    if m.rng.arb = .held && m.rng.granted.isNone then
      m.onRng fun r => { r with granted := some a.addr, drive := a.head / 8 % 4 }
    else if m.rng.arb = .granting && m.rng.granted = some a.addr then m.onRng fun r => { r with arb := .held }
    else m

/-- ANNOUNCE_RX (R539, R545, R549, R550). -/
def Module.announceRx (f : RFrame) (up : Bool) (t : Nat) (m0 : Module) : Module :=
  let b := f.payload
  (m0.tick t).ringIn (some 0x02) false f fun m =>
    let key := leNat (b.take 8)
    let a : Ann := { addr := byteAt b 8, role := byteAt b 9, stateA := byteAt b 10, stateB := byteAt b 11,
                     head := field b 12 4, hostUp := up, hops := 129 - f.ttl, wrapped := f.flags.testBit 1 }
    let new := (tabGet none m.rng.ann key).isNone
    let m1 := m.onRng fun r => { r with ann := tabPut none r.ann key (some a), missing := r.missing.filter (· ≠ key) }
    let m1 := ((m1.hearHead a f).ringJudge m).raiseIf (new && m.isHead) 408
    m1.assignEnd (fun q => q.serial = key && q.addr = a.addr) .done
def execAnnounceRx (f : RFrame) (hostUp : Bool) (t : Nat) (s : State) : Host.Outcome State Fault Refusal :=
  s.go (·.announceRx f hostUp t)

/-- MODULE_ANNOUNCE_TIMEOUT (R550): the module leaves the table; at the head its commands get LOST answers. -/
def Module.moduleLeft (key : Nat) (m : Module) : Module :=
  match tabGet none m.rng.ann key with
  | none => m
  | some a =>
    let m1 := m.onRng fun r =>
      { r with ann := tabPut none r.ann key none, missing := key :: r.missing.filter (· ≠ key) }
    let m1 := m1.ringJudge m
    if !m.isHead then m1
    else
      let lost := m1.rng.fwd.filter fun q => q.dst = a.addr
      ((lost.foldl (fun m q => m.notPresent q 2) (m1.raise 409)).dropFwd fun q => q.dst = a.addr).unbind none a.addr
def execModuleAnnounceTimeout (serial : Nat) (s : State) : Host.Outcome State Fault Refusal := s.go (·.moduleLeft serial)

/-- Store a ring address in the settings (R549): in force and in the valid flash copies. -/
def Module.storeAddr (a : Nat) (m : Module) : Module :=
  let put := fun (c : SetCopy) => if c.valid then { c with scalars := tabPut none c.scalars 0x0D00 (some a) } else c
  m.onSet fun s => { s with scalars := tabPut none s.scalars 0x0D00 (some a), copyA := put s.copyA, copyB := put s.copyB }

/-- ADDR_ASSIGN_RX (R549): an unassigned module named by its serial number takes the address at once. -/
def Module.addrAssign (f : RFrame) (m : Module) : Module :=
  m.ringIn (some 0x0D) false f fun m =>
    if leNat (f.payload.take 8) = m.sys.serial && m.rng.addr = 255 then
      let a := byteAt f.payload 8
      let m1 := (m.onRng fun r => { r with addr := a }).storeAddr a
      ((m1.raise 393).announce).ringJudge m
    else m
def execAddrAssignRx (f : RFrame) (s : State) : Host.Outcome State Fault Refusal := s.go (·.addrAssign f)

/-! ### Frames (R538 to R548) -/

/-- RING_FRAME_FORWARD (R540): a frame for another module. -/
def execRingFrameForward (f : RFrame) (full : Bool) (s : State) : Host.Outcome State Fault Refusal :=
  s.go (·.ringIn none full f id)

/-- The head passes a reply to its host endpoint, from the port its request came to (R484, R550); a final reply ends the
forwarded request. -/
def Module.passReply (from_ : Nat) (b : Bytes) (m : Module) : Module :=
    if !m.isHead then m
    else
      let d := b.drop 8
      let src := field d 4 2 % 64
      let ctx := field d 4 2 / 64 % 512
      let op := field d 8 2
      let st := field d 10 2
      let m := m.hostSend (field b 0 4) (field b 4 2) from_ d
      let m := if (byteAt d 3).testBit 1 || st = 1 || st = 2 then m
        else m.dropFwd fun q => q.dst = src && q.ctx = ctx && q.tag = field d 6 2
      let m := if op = 1 ∧ st = 0 then m.onRng fun r => { r with bind := r.bind.map fun p =>
          if p.1 = ctx then (p.1, p.2.map fun b => { b with open_ := src :: b.open_.filter (· ≠ src) }) else p } else m
      if op = 3 ∧ st = 0 then m.unbind (some ctx) src else m

/-- REPLY_FRAME_RX (R550). -/
def Module.replyRx (f : RFrame) (m : Module) : Module := m.ringMsg 0x04 false f (Module.passReply 47520)
def execReplyFrameRx (f : RFrame) (s : State) : Host.Outcome State Fault Refusal := s.go (·.replyRx f)

/-- EVENT_FRAME_RX (R539): the head passes an event packet to the host endpoint the frame names. -/
def execEventFrameRx (f : RFrame) (s : State) : Host.Outcome State Fault Refusal :=
  s.go fun m => m.ringMsg 0x05 false f fun b m =>
    if m.isHead then m.hostSend (field b 0 4) (field b 4 2) 47521 (b.drop 8) else m

/-- BULK_FRAME_RX (R539, R548): passed on against credit; at its destination it makes room again, and the head passes it
to the host. -/
def execBulkFrameRx (f : RFrame) (s : State) : Host.Outcome State Fault Refusal :=
  s.go fun m => m.ringMsg 0x06 false f (Module.passReply 47522)

/-- CREDIT_RX (R539, R548): room for bulk frames in 64-byte units. -/
def execCreditRx (f : RFrame) (s : State) : Host.Outcome State Fault Refusal :=
  s.go fun m => m.ringIn (some 0x0E) false f fun m =>
    let m := m.updPort f.port fun x => { x with credit := x.credit + 64 * field f.payload 0 4 }
    m.bulkDrain f.port (m.port f.port).bulkQ

/-! ### Time (R552, R554) -/

/-- TIME_FRAME_SEND (R552): every 10 ms, the head alone. -/
def execTimeFrameSend (t : Nat) (s : State) : Host.Outcome State Fault Refusal :=
  s.go fun m => let m := m.tick t; if m.isHead then m.ringSend 0x07 0 0xFF (m.timePayload t) else m

/-- TIME_HOLDOVER (R554): no TIME frame for 10 s. -/
def execTimeHoldover (t : Nat) (s : State) : Host.Outcome State Fault Refusal :=
  s.go fun m =>
    let m := m.tick t
    if m.isHead || m.rng.plant.isNone || m.rng.timeHoldover then m
    else (m.onRng fun r => { r with timeHoldover := true }).raise 396

/-! ### The host port (R550, R556, R557) -/

/-- The head serves cage H: its transmitter is enabled and it has an address (R556, R557). -/
def Module.serves (m : Module) : Bool := m.gate_ && (m.rng.local_ || decide (m.setting 0x0D02 ≠ 0))
/-- The MAC address of the host port (R556): 0x02, then the low 40 bits of the serial number. -/
def Module.hostMac (m : Module) : Nat := 2 * 2 ^ 40 + m.sys.serial % 2 ^ 40
/-- The address it serves. -/
def Module.hostIp (m : Module) : Nat := if m.rng.local_ then 0xC0A8FE01 else m.setting 0x0D02

/-- A binding is in force while a module holds its context open (R489). -/
def Module.bound (ctx : Nat) (m : Module) : Option Binding :=
  match tabGet none m.rng.bind ctx with
  | none => none
  | some b =>
    if b.open_ ≠ [] || (m.ctx? ctx).isSome || m.rng.fwd.any (fun q => q.ctx = ctx && q.opcode = 1) then some b else none

/-- Forward a request by its ring address, or answer for the module (R550). A packet for this module itself is taken as
its own request. -/
def Module.forwardHost (ip port dport : Nat) (d : Bytes) (m : Module) : Module :=
  let dst := field d 4 2 % 64
  let q : Fwd := { dst := dst, ctx := field d 4 2 / 64 % 512, tag := field d 6 2, opcode := field d 8 2, ip := ip, port := port }
  if dst = m.rng.addr && !m.rng.dup then m
  else
    let there := match m.annAt dst with
      | some a => (m.way a).isSome && (m.anns.filter fun x => x.2.addr = dst).length = 1 && decide (dst ≠ m.rng.addr)
      | none => false
    if !there then m.notPresent q 1
    else
      let pay := leBytes 4 ip ++ leBytes 2 port ++ zeros 2 ++ d
      let m := if dport = 47522 then m.ringSend 0x06 1 dst pay else m.ringSend 0x03 0 dst pay
      m.onRng fun r => { r with fwd := r.fwd.filter (fun x => !(x.dst = q.dst && x.ctx = q.ctx && x.tag = q.tag)) ++ [q] }

/-- HOST_DATAGRAM_RX (R489, R550, R556). -/
def Module.hostDatagram (ip port dport : Nat) (bcast : Bool) (d : Bytes) (m : Module) : Module :=
  if !m.serves then m
  else if bcast || decide (dport ≠ 47520 ∧ dport ≠ 47522) then m.bump 0x0D0058
  else if malformed d false then m.bump 0x000220
  else if m.rng.local_ then m
  else
    let ctx := field d 4 2 / 64 % 512
    match m.bound ctx with
    | some b => if b.ip = ip ∧ b.port = port then m.forwardHost ip port dport d else m.bump 0x00023C
    | none =>
      let m := if field d 8 2 = 1 then
          m.onRng fun r => { r with bind := tabPut none r.bind ctx (some { ip := ip, port := port }) }
        else m
      m.forwardHost ip port dport d
def execHostDatagramRx (ip port dport : Nat) (bcast : Bool) (d : List Byte) (s : State) : Host.Outcome State Fault Refusal :=
  s.go (·.hostDatagram ip port dport bcast d)

/-- HOST_ARP_RX (R556): answered for HOST_IP only; 64 entries are kept for 300 s. -/
def Module.hostArp (ip mac target t : Nat) (m : Module) : Module :=
  let m := m.tick t
  if !m.serves || target ≠ m.hostIp then m
  else (m.onRng fun r =>
    { r with arp := ((ip, mac, t) :: r.arp.filter fun e => e.1 ≠ ip && decide (t < e.2.2 + secs 300)).take 64 }).emit
      (.arp (some ip) m.hostIp m.hostMac)
def execHostArpRx (ip mac target t : Nat) (s : State) : Host.Outcome State Fault Refusal := s.go (·.hostArp ip mac target t)

/-- HOST_ICMP_ECHO (R556): up to 100 answers per second, of at most 1,472 bytes. -/
def Module.hostEcho (ip t : Nat) (d : Bytes) (m : Module) : Module :=
  let m := m.tick t
  if !m.serves then m
  else
    let fresh := decide (m.rng.icmpAt + secs 1 ≤ t)
    let n := if fresh then 0 else m.rng.icmpCount
    if d.length ≤ 1472 ∧ n < 100 then
      (m.onRng fun r => { r with icmpAt := if fresh then t else r.icmpAt, icmpCount := n + 1 }).emit (.icmp ip d)
    else m.bump 0x0D0058
def execHostIcmpEcho (ip t : Nat) (d : List Byte) (s : State) : Host.Outcome State Fault Refusal := s.go (·.hostEcho ip t d)

/-- HOST_LINK_CHANGE (R557, R576): a cage whose optic is refused gets no link (R8). -/
def Module.hostLink (up : Bool) (t : Nat) (m : Module) : Module :=
  let m := m.tick t
  m.hostTo (up && !m.hostRefused)
def execHostLinkChange (up : Bool) (t : Nat) (s : State) : Host.Outcome State Fault Refusal := s.go (·.hostLink up t)

/-- GRATUITOUS_ARP_SEND (R563, R568): one of three, 100 ms apart. -/
def execGratuitousArpSend (s : State) : Host.Outcome State Fault Refusal :=
  s.go fun m => if m.serves && decide (0 < m.rng.arpLeft) then
      (m.onRng fun r => { r with arpLeft := r.arpLeft - 1 }).emit (.arp none m.hostIp m.hostMac)
    else m

/-! ### The arbiter (R561 to R566) -/

def Module.isArbiter (m : Module) : Bool := decide (m.rng.role = 2 ∧ m.rng.arbFault ≠ 1)

/-- HEAD_HOLD_RELEASE_SENSED (R561): the grant is over and the guard begins. -/
def execHeadHoldReleaseSensed (t : Nat) (s : State) : Host.Outcome State Fault Refusal :=
  s.go fun m =>
    let m := (m.tick t).onRng fun r => { r with holdLine := false }
    if m.isArbiter then
      m.onRng fun r => { r with arb := .guard_, granted := none, arbFault := if r.arbFault = 2 then 0 else r.arbFault }
    else m

/-- Open a claim round (R561): a new epoch stored, CLAIM_OPEN, the probe's first phase. -/
def Module.openRound (m : Module) : Module :=
  let e := (1 + max m.rng.arbEpoch (max m.rng.epoch m.rng.epochSeen)) % 65536
  (m.onRng fun r => { r with arbEpoch := e, drive := 1, arb := .probe, claims := [] }).ringSend 0x09 0 0xFF
    (leBytes 2 e ++ zeros 30)

/-- ARB_GUARD_END (R561). -/
def execArbGuardEnd (t : Nat) (s : State) : Host.Outcome State Fault Refusal :=
  s.go fun m => let m := m.tick t; if m.isArbiter && m.rng.arb = .guard_ then m.openRound else m

/-- ARB_REOPEN (R561): 1 s after a window that granted nothing. -/
def execArbReopen (t : Nat) (s : State) : Host.Outcome State Fault Refusal :=
  s.go fun m => let m := m.tick t; if m.isArbiter && m.rng.arb = .noHead then m.openRound else m

/-- ARB_PROBE_PHASE_END (R561): positive, then negative, then zero and the window. -/
def execArbProbePhaseEnd (t : Nat) (s : State) : Host.Outcome State Fault Refusal :=
  s.go fun m =>
    let m := m.tick t
    if !m.isArbiter || m.rng.arb ≠ .probe then m
    else if m.rng.drive = 1 then m.onRng fun r => { r with drive := 2 }
    else m.onRng fun r => { r with drive := 0, arb := .window }

/-- HEAD_CLAIM_RX (R560, R561): claims outside a window are ignored. -/
def Module.claimRx (f : RFrame) (m : Module) : Module :=
  m.ringIn (some 0x0A) false f fun m =>
    let b := f.payload
    if m.isArbiter && m.rng.arb = .window then
      let c : Claim := { serial := leNat (b.take 8), addr := byteAt b 8, capable := (byteAt b 9).testBit 0,
                         plantFused := (byteAt b 9).testBit 1, side := byteAt b 10, plant := field b 12 4 }
      m.onRng fun r => { r with claims := r.claims ++ [c] }
    else m
def execHeadClaimRx (f : RFrame) (s : State) : Host.Outcome State Fault Refusal := s.go (·.claimRx f)

/-- Causes 1 to 3 of R562; 0 where none applies. -/
def Module.claimCause (c : Claim) (m : Module) : Nat :=
  if !c.capable then 1
  else if (m.fuse? 3).isNone || !c.plantFused || c.plant ≠ m.plantId then 2
  else if c.side = 0 then 3 else 0

/-- The cause each claim is refused for (R562), 0 for a valid one. -/
def Module.claimCauses (cs : List Claim) (m : Module) : List (Claim × Nat) :=
  let ok := cs.filter fun c => m.claimCause c = 0
  cs.map fun c =>
    let k := m.claimCause c
    (c, if k = 0 && decide (2 ≤ (ok.filter fun d => d.side = c.side).length) then 4 else k)

/-- ARB_WINDOW_CLOSE (R561 to R563): claims judged, the lowest ring address granted, HEAD_GRANTED broadcast. -/
def Module.windowCloseArb (m : Module) : Module :=
  if !m.isArbiter || m.rng.arb ≠ .window then m
  else
    let js := m.claimCauses m.rng.claims
    let bad := js.filter (·.2 ≠ 0)
    let clash := bad.any (·.2 = 4)
    let m := bad.foldl (fun m _ => (m.bump 0x0D0054).raise 400) m
    let m := m.raiseIf clash 404
    let m := m.onRng fun r => { r with arbFault := if (m.fuse? 3).isNone then 4 else if clash then 3 else 0 }
    let good := (js.filter (·.2 = 0)).map (·.1)
    let best := good.foldl (fun a c => match a with
      | none => some c
      | some b => if c.addr < b.addr then some c else a) (none : Option Claim)
    let ent := (bad.take 4)
    let pad := zeros (4 - ent.length)
    let tail := ent.flatMap (fun x => leBytes 1 x.1.addr) ++ pad ++ ent.flatMap (fun x => leBytes 1 x.2) ++ pad ++ zeros 12
    match best with
    | some c =>
      let m := m.adoptEpoch m.rng.arbEpoch
      let m := m.onRng fun r => { r with arb := .granting, drive := c.side, granted := some c.addr, headAddr := some c.addr }
      (m.ringSend 0x0B 0 0xFF (leBytes 2 m.rng.arbEpoch ++ leBytes 1 c.addr ++ leBytes 1 c.side ++ leBytes 8 c.serial ++ tail)).raise 401
    | none =>
      let m := m.onRng fun r => { r with arb := .noHead, drive := 0, granted := none }
      (m.ringSend 0x0B 0 0xFF (leBytes 2 m.rng.arbEpoch ++ leBytes 1 0xFF ++ zeros 9 ++ tail)).raise 402
def execArbWindowClose (t : Nat) (s : State) : Host.Outcome State Fault Refusal := s.go fun m => (m.tick t).windowCloseArb

/-- ARB_GRANT_HOLD_TIMEOUT (R563): HEAD_HOLD not asserted within 20 ms of the grant. -/
def execArbGrantHoldTimeout (t : Nat) (s : State) : Host.Outcome State Fault Refusal :=
  s.go fun m =>
    let m := m.tick t
    if m.isArbiter && m.rng.arb = .granting then
      m.onRng fun r => { r with arb := .noHead, drive := 0, granted := none, headAddr := none }
    else m

/-- ARB_HOLD_NO_HEAD (R566): HEAD_HOLD asserted and no head announced for 1 s. -/
def execArbHoldNoHead (t : Nat) (s : State) : Host.Outcome State Fault Refusal :=
  s.go fun m =>
    let m := m.tick t
    if m.isArbiter && m.rng.arb ≠ .fault then (m.onRng fun r => { r with arb := .fault, arbFault := 2 }).raise 404 else m

/-- ARB_BEACON_SEND (R539). -/
def execArbBeaconSend (s : State) : Host.Outcome State Fault Refusal :=
  s.go fun m => if m.rng.role = 2 then
      m.ringSend 0x0C 0 0xFF (leBytes 1 (arbCode m.rng.arb) ++ leBytes 1 m.rng.drive ++ leBytes 2 m.rng.epoch
        ++ leBytes 4 m.plantId ++ zeros 24)
    else m

/-- ARB_BEACON_RX (R566): two arbiters that hear each other both stop. -/
def execArbBeaconRx (f : RFrame) (s : State) : Host.Outcome State Fault Refusal :=
  s.go fun m => m.ringIn (some 0x0C) false f fun m =>
    let m := m.onRng fun r => { r with arbiterSeen := true }
    if m.isArbiter then (m.onRng fun r => { r with arb := .fault, arbFault := 1, drive := 0, granted := none }).raise 404
    else m

/-- ARB_BEACON_TIMEOUT (R566). -/
def execArbBeaconTimeout (s : State) : Host.Outcome State Fault Refusal :=
  s.go fun m => (m.onRng fun r => { r with arbiterSeen := false }).raiseIf (m.rng.role = 1) 403

/-! ### Candidates and the head (R559 to R565) -/

/-- ARB_GRANT_CHANGE (R559): the grant latch. GRANT_IN shows the polarity the arbiter drives: a side N pair reads it
swapped. -/
def Module.grantChange (level : Nat) (m : Module) : Module :=
  m.onRng fun r =>
    { r with grantIn := if r.side = 2 ∧ level ≠ 0 then 3 - level else level
             latch := if level = 1 then r.latch || r.holdOut else if level = 2 then false else r.latch }
def execArbGrantChange (level : Nat) (s : State) : Host.Outcome State Fault Refusal := s.go (·.grantChange level)

/-- CLAIM_OPEN_RX (R560): a candidate that meets every condition claims. -/
def Module.claimOpen (f : RFrame) (side : Nat) (m : Module) : Module :=
  m.ringIn (some 0x09) false f fun m =>
    let m := m.onRng fun r => { r with epochSeen := max r.epochSeen (field f.payload 0 2), holdLine := false }
    if m.rng.role ≠ 1 then m
    else
      let m := m.onRng fun r => { r with side := side }
      if decide (m.rng.addr < 64) && m.rng.hostUp && !m.inBoot && !m.com.fuseEn
          && decide (m.rng.head = .candidate ∨ m.rng.head = .claiming) then
        (m.onRng fun r => { r with head := .claiming }).ringSend 0x0A 0 f.src
          (leBytes 8 m.sys.serial ++ leBytes 1 m.rng.addr ++ leBytes 1 (bit m.headCapable + 2 * bit (m.fuse? 3).isSome)
            ++ leBytes 1 side ++ zeros 1 ++ leBytes 4 m.plantId ++ zeros 16)
      else m
def execClaimOpenRx (f : RFrame) (side : Nat) (s : State) : Host.Outcome State Fault Refusal := s.go (·.claimOpen f side)

/-- Become head (R563): HEAD_HOLD asserted, the latch set where the grant reads this side, ARP replies and TIME frames. -/
def Module.becomeHead (t : Nat) (m : Module) : Module :=
  let m := m.onRng fun r =>
    { r with head := .head, holdOut := true, arpLeft := 3
             latch := decide ((r.side = 1 ∧ r.grantIn = 1) ∨ (r.side = 2 ∧ r.grantIn = 2)) }
  let m := m.onAng fun a => { a with gridLocal := false }
  (m.raise 398).ringSend 0x07 0 0xFF (m.timePayload t)

/-- HEAD_GRANTED_RX (R563 to R565). -/
def Module.headGranted (f : RFrame) (t : Nat) (m : Module) : Module :=
  (m.tick t).ringIn (some 0x0B) false f fun m =>
    let b := f.payload
    let a := byteAt b 2
    let won := decide (leNat ((b.drop 4).take 8) = m.sys.serial ∧ a = m.rng.addr)
    let why := ((List.range 4).filterMap fun i =>
      if byteAt b (12 + i) = m.rng.addr ∧ byteAt b (16 + i) ≠ 0 then some (byteAt b (16 + i)) else none).head?
    let m := m.onRng fun r =>
      { r with headAddr := if a = 0xFF then none else some a, holdLine := decide (a ≠ 0xFF)
               lastRefuse := why.getD r.lastRefuse
               head := if r.head = .claiming then .candidate else if r.head = .holdoff && a = 0xFF then .candidate
                       else r.head }
    if won && m.rng.role = 1 && !m.isHead then m.becomeHead t else m
def execHeadGrantedRx (f : RFrame) (t : Nat) (s : State) : Host.Outcome State Fault Refusal := s.go (·.headGranted f t)

/-- Another candidate announces host link up (R565, R571). -/
def Module.otherReady (m : Module) : Bool := m.anns.any fun x => x.2.role = 1 && x.2.hostUp

/-- HEAD_HOST_LOSS_TIMEOUT (R565). -/
def execHeadHostLossTimeout (t : Nat) (s : State) : Host.Outcome State Fault Refusal :=
  s.go fun m => let m := m.tick t; if !m.rng.hostUp && m.otherReady then m.stopHead else m

/-- HEAD_RING_LOSS_TIMEOUT (R565). -/
def execHeadRingLossTimeout (t : Nat) (s : State) : Host.Outcome State Fault Refusal :=
  s.go fun m => let m := m.tick t; if !m.portUp 0 && !m.portUp 1 then m.stopHead else m

/-- HEAD_RELEASE_EXECUTE (R565): 10 ms after the DONE of HEAD_RELEASE. -/
def execHeadReleaseExecute (t : Nat) (s : State) : Host.Outcome State Fault Refusal :=
  s.go fun m => let m := m.tick t; if m.rng.releasing then m.stopHead else m

/-! ### Registers (R572 to R575) -/

/-- A cage's code (R574). -/
def cageCode (cage kind : Nat) (link : Bool) : Nat :=
  if kind = 0 then 0 else if kind = 5 then 4 else if !opticOk cage kind then 3 else if link then 2 else 1

/-- RNG_PORT_x (R573). -/
def portReg (x : RPort) : Nat :=
  portCode x.state + 8 * x.peerAddr + 0x200 * bit x.peerKnown + 0x400 * x.peerPort + 0x10000 * x.load

/-- The ring counters in map order (R569). -/
def ringCounters : List Nat := [0x0D0040, 0x0D0044, 0x0D0048, 0x0D004C, 0x0D0050, 0x0D0054, 0x0D0058]

/-- Addresses announced and reachable, this module's own among them (R572). -/
def Module.ringPresent (m : Module) : Nat :=
  maskOf 64 fun a => (m.rng.announced && m.rng.addr = a) || (match m.annAt a with
    | some x => (m.way x).isSome
    | none => false)

/-- The registers of the RNG block. -/
def Module.rngReg (off : Nat) (m : Module) : Option Nat :=
  let r := m.rng
  match off with
  | 0x0D0000 => some ((if r.addr < 64 then r.addr else 0) + 0x40 * bit (decide (r.addr < 64)) + 0x80 * r.role)
  | 0x0D0004 => some (m.ringState + 4 * (m.anns.length + bit r.announced) + 0x200 * bit r.plant.isSome
      + 0x400 * bit r.timeHoldover + 0x800 * bit r.dup + 0x1000 * bit r.local_)
  | 0x0D0008 => some (portReg r.portA)
  | 0x0D000C => some (portReg r.portB)
  | 0x0D0010 => some (cageCode 0 r.cageH r.hostUp
      + 0x10 * cageCode 1 r.cageA (r.portA.state = .up || r.portA.state = .wrapped)
      + 0x100 * cageCode 2 r.cageB (r.portB.state = .up || r.portB.state = .wrapped)
      + 0x1000 * (if !opticOk 0 r.cageH then 0 else if r.cageH = 3 then 1 else 2))
  | 0x0D0014 => some m.headReg
  | 0x0D0018 => some (if r.role = 2 then arbCode r.arb + 8 * r.drive + 0x20 * r.granted.getD 0 + 0x800 * bit r.granted.isSome
      + 0x1000 * r.arbFault else 0)
  | 0x0D001C => some (r.epoch + 0x10000 * r.headAddr.getD 0 + 0x400000 * bit r.headAddr.isSome)
  | 0x0D0020 => some (m.ringPresent % 2 ^ 32)
  | 0x0D0024 => some (m.ringPresent / 2 ^ 32)
  | 0x0D0028 => some (ofInt 32 r.timeOffset)
  | 0x0D002C => some (satU16 (r.portA.delay.getD 0xFFFF) + 0x10000 * satU16 (r.portB.delay.getD 0xFFFF))
  | _ => if off ∈ ringCounters then some (m.counter off) else none

/-! ### Requests (R569 to R571) -/

def cmdRingStatusGet (r : Req) (m : Module) : Resp :=
  m.basic r 0 .observe <|
    .done ([0x0D0004, 0x0D0008, 0x0D000C, 0x0D0010, 0x0D0014, 0x0D0018, 0x0D001C, 0x0D002C].flatMap fun o =>
      leBytes 4 ((m.rngReg o).getD 0)) m
def execRingStatusGet (r : Req) (s : State) : Host.Outcome State Fault Refusal := s.go (·.request 0x0D00 cmdRingStatusGet r)

/-- An entry of the topology (R570). -/
def Module.topoEntry (key : Nat) (a : Ann) (m : Module) : Bytes :=
  let twice := decide (1 < (m.anns.filter fun x => x.2.addr = a.addr).length ∨ a.addr = m.rng.addr)
  leBytes 1 a.addr ++ leBytes 1 a.role
    ++ leBytes 1 (bit (decide (a.head % 8 = 3)) + 2 * bit a.hostUp + 4 * bit (twice && decide (a.addr < 64)) + 8 * bit (m.way a).isNone)
    ++ leBytes 1 (match m.way a with
        | some w => w.2
        | none => 0)
    ++ zeros 4 ++ leBytes 8 key

/-- The answering module's own entry, with which the order begins once it has announced itself (DEDUCED, log entry 102). -/
def Module.topoSelf (m : Module) : List Bytes :=
  if m.rng.announced then
    [leBytes 1 m.srcAddr ++ leBytes 1 m.rng.role ++ leBytes 1 (bit m.isHead + 2 * bit m.rng.hostUp + 4 * bit m.rng.dup)
      ++ zeros 5 ++ leBytes 8 m.sys.serial]
  else []

def cmdRingTopologyGet (r : Req) (m : Module) : Resp :=
  m.basic r 0 .observe <|
    let es := m.topoSelf ++ m.ringOrder.filterMap fun k => (tabGet none m.rng.ann k).map fun a => m.topoEntry k a
    .done (leBytes 1 m.ringState ++ leBytes 1 es.length ++ leBytes 2 m.rng.epoch ++ zeros 12 ++ es.flatten) m
def execRingTopologyGet (r : Req) (s : State) : Host.Outcome State Fault Refusal := s.go (·.request 0x0D01 cmdRingTopologyGet r)

/-- RING_ADDR_ASSIGN (R549, R571). -/
def cmdRingAddrAssign (r : Req) (m : Module) : Resp :=
  let serial := leNat (r.payload.take 8)
  let a := byteAt r.payload 8
  if r.payload.length ≠ 16 then .fail .badLength m
  else if 63 < a ∨ (m.annAt a).isSome ∨ a = m.rng.addr then .fail .badParam m
  else if m.lacks r.ctx .engineer then .fail .denied m
  else if !m.isHead || m.inBoot then .fail .wrongMode m
  else
    let m := m.ringSend 0x0D 0 0xFF (leBytes 8 serial ++ leBytes 1 a ++ zeros 23)
    .waitFixed [] [] (m.onRng fun x => { x with assign := x.assign ++ [{ cmd := m.thisId, serial := serial, addr := a, at_ := m.sys.clock }] })
def execRingAddrAssign (r : Req) (s : State) : Host.Outcome State Fault Refusal := s.go (·.request 0x0D02 cmdRingAddrAssign r)

/-- HEAD_RELEASE (R565, R571). -/
def cmdHeadRelease (r : Req) (m : Module) : Resp :=
  if r.payload.length ≠ 4 then .fail .badLength m
  else if 1 < byteAt r.payload 0 then .fail .badParam m
  else if m.lacks r.ctx .engineer then .fail .denied m
  else if !m.isHead || m.inBoot then .fail .wrongMode m
  else if byteAt r.payload 0 = 0 && !m.otherReady then .fail .busy m
  else .done [] (m.onRng fun x => { x with releasing := true })
def execHeadRelease (r : Req) (s : State) : Host.Outcome State Fault Refusal := s.go (·.request 0x0D03 cmdHeadRelease r)

def cmdRingCountersGet (r : Req) (m : Module) : Resp :=
  m.basic r 0 .observe (let (p, m) := m.readCounters ringCounters; .done p m)
def execRingCountersGet (r : Req) (s : State) : Host.Outcome State Fault Refusal := s.go (·.request 0x0D04 cmdRingCountersGet r)

end Sys2Proof.Machine
end

