-- ==== Sys2Proof/Machine/SlvOps.lean ====
section
/-! DEFINITION. Machine/SlvOps.lean: what the lanes compare, voting, trips and the safety outputs (R311 to R338). -/
namespace Sys2Proof.Machine

/-! ### Envelope, armed block and calibration -/

/-- The fused envelope (R354); none while it is blank. -/
def Module.envelope (m : Module) : Option Bytes := m.fuse? 0
def envVMax (e : Bytes) : Int := field e 0 4
def envVMin (e : Bytes) : Int := field e 4 4
def envTMax (e : Bytes) : Int := sInt 16 (field e 8 2)
def envTMin (e : Bytes) : Int := sInt 16 (field e 10 2)
def envIChg (e : Bytes) : Int := sInt 32 (field e 12 4)
def envIDis (e : Bytes) : Int := sInt 32 (field e 16 4)

/-- Fields of a safety parameter block (R360). -/
def blkStrings (b : Bytes) : Nat := field b 16 2
def blkMonitors (b : Bytes) (n : Nat) : Nat := byteAt b (20 + n)
def blkVMax (b : Bytes) : Int := field b 36 4
def blkVMin (b : Bytes) : Int := field b 40 4
def blkTMax (b : Bytes) : Int := sInt 16 (field b 44 2)
def blkTMin (b : Bytes) : Int := sInt 16 (field b 46 2)
def blkTChg (b : Bytes) : Int := sInt 16 (field b 48 2)
def blkICold (b : Bytes) : Int := sInt 32 (field b 52 4)
def blkIChg (b : Bytes) (n : Nat) : Int := sInt 32 (field b (56 + 4 * n) 4)
def blkIDis (b : Bytes) (n : Nat) : Int := sInt 32 (field b (120 + 4 * n) 4)
def blkPlausAbs (b : Bytes) : Int := sInt 32 (field b 184 4)
def blkPlausRel (b : Bytes) : Nat := field b 188 2
def blkPlausV (b : Bytes) : Int := field b 192 4
def blkIsoMin (b : Bytes) : Nat := field b 196 2
def blkDciMask (b : Bytes) : Nat := field b 198 2
def blkDciFs (b : Bytes) (n : Nat) : Nat := field b (200 + 2 * n) 2
def blkBlind (b : Bytes) : Nat := field b 232 4
def blkTBlind (b : Bytes) : Nat := field b 236 2
def blkSingle (b : Bytes) : Nat := field b 238 2
def blkDegraded (b : Bytes) : Nat := field b 240 2
def blkConf (b : Bytes) (f : Nat) : Nat := byteAt b (242 + f)
def blkSiFunc (b : Bytes) (i : Nat) : Nat := byteAt b (256 + i)
def blkSiType (b : Bytes) (i : Nat) : Nat := byteAt b (264 + i)
def blkSiDiscrep (b : Bytes) (i : Nat) : Nat := field b (272 + 2 * i) 2
def blkSoKind (b : Bytes) (x : Nat) : Nat := byteAt b (288 + x)
def blkCrc (b : Bytes) : Nat := field b 508 4

/-- The armed block in the lanes. -/
def Module.block (m : Module) : Option Bytes := m.com.armed.map (·.block)

/-- Lanes A and B use the envelope in place of the armed limits (R320). -/
def Module.envOnly (m : Module) : Bool :=
  decide (m.sys.mode = .commission) || (decide (m.sys.mode = .safeHold) && m.block.isNone)

/-- The functions evaluated in the present mode (R320, R358). -/
def Module.evaluated (f : Nat) (m : Module) : Bool :=
  !m.inBoot && m.envelope.isSome &&
    (if m.envOnly then decide (f ∈ [0, 1, 2, 3, 5, 6, 10]) else decide (f < 13) && m.block.isSome)

/-- N_CONF of a function (R316, R320). -/
def Module.nConf (f : Nat) (m : Module) : Nat :=
  match m.block with
  | some b => if m.envOnly then 1 else if f < 12 then max 1 (blkConf b f) else 1
  | none => 1

/-! ### Values as a lane has them (R312, R313, R318) -/

/-- A frame as it reached a lane; `bad` the frames that did not reach it intact, as 64 × chain + address. -/
def Module.laneFrame (bad : List Nat) (n a : Nat) (m : Module) : Option Bytes :=
  if 64 * n + a ∈ bad then none else m.frameAt n a

/-- V_PRI and 100 × V_SEC of a cell, µV. -/
def Module.laneV (bad : List Nat) (sec : Bool) (c : Nat) (m : Module) : Option Int :=
  if !m.cellPick then none
  else (m.laneFrame bad (c / 512) (c % 512 / 16 + 1)).bind fun b =>
    if sec then (let v := field b (58 + 2 * (c % 16)) 2; if v = 0xFFFF then none else some (100 * v : Nat))
    else (let v := field b (10 + 3 * (c % 16)) 3; if v = 0xFFFFFF then none else some (v : Nat))

/-- The NTC value of an input at this pick; the outer none where this pick does not report the input. -/
def Module.laneNtc (bad : List Nat) (n mon i : Nat) (m : Module) : Option Int :=
  if !m.cellPick then none
  else (m.laneFrame bad n mon).bind fun b =>
    if m.windowMode then tempField b (90 + 2 * i) else if byteAt b 7 = i then tempField b 8 else none

/-- I_PRI and I_SEC of a string, mA. -/
def Module.laneI (bad : List Nat) (sec : Bool) (n : Nat) (m : Module) : Option Int :=
  (m.laneFrame bad n 0).bind fun b => curField b (if sec then 12 else 8)

/-- min(ISO_POS, ISO_NEG) of a string, 10 kΩ; with `new`, only from a frame with ISO_NEW set. -/
def Module.laneIso (bad : List Nat) (new : Bool) (n : Nat) (m : Module) : Option Nat :=
  (m.laneFrame bad n 0).bind fun b =>
    let p := field b 20 2
    let q := field b 22 2
    if p = 0xFFFF ∨ q = 0xFFFF ∨ (new = true ∧ (byteAt b 6).testBit 3 = false) then none else some (min p q)

/-- Currents are compared as exact numbers of mA over this denominator (R313). -/
def dciDen : Int := 32767 * 1000000000000

/-- I_DCI of string `n` times `dciDen`; none where DCI n is not fitted, or without a factory page (R722). -/
def Module.laneDci (n : Nat) (m : Module) : Option Int :=
  match m.block with
  | none => none
  | some b =>
    if !(blkDciMask b).testBit n || m.hk.factoryBad then none
    else some (sInt 16 (m.pck.dci.getD n 0) * (blkDciFs b n : Int) * 1000 * (m.slv.gains.getD n 1000000 : Nat)
      * (m.slv.scales.getD n 1000000 : Nat))

/-- A DCI code at its end of scale: beyond the envelope in its own direction, 1 discharge, −1 charge (R313). -/
def Module.dciEnd (n : Nat) (m : Module) : Int :=
  let c := sInt 16 (m.pck.dci.getD n 0)
  if m.hk.factoryBad then 0 else if c = 32767 then 1 else if c = -32768 then -1 else 0

/-- CURRENT_PLAUS of a pair of currents, each times `dciDen`. -/
def plausTrip (b : Bytes) (x y : Int) : Bool :=
  decide (1000 * (x - y).natAbs > 1000 * (blkPlausAbs b * dciDen).natAbs + blkPlausRel b * max x.natAbs y.natAbs)

/-! ### Conditions at an evaluation (R314 to R316) -/

def ckey (f item : Nat) : Nat := f * 65536 + item

/-- Conditions of the present values: key and whether the condition holds; absent values give nothing. -/
def condOf (f item : Nat) (v : Option Int) (p : Int → Bool) : List (Nat × Bool) :=
  match v with
  | some x => [(ckey f item, p x)]
  | none => []

/-- The limits lanes A and B compare with: V_MAX, V_MIN, T_MAX, T_MIN. -/
def Module.limV (m : Module) : Int × Int × Int × Int :=
  match m.envelope, m.block with
  | some e, some b =>
    if m.envOnly then (envVMax e, envVMin e, envTMax e, envTMin e) else (blkVMax b, blkVMin b, blkTMax b, blkTMin b)
  | some e, none => (envVMax e, envVMin e, envTMax e, envTMin e)
  | none, _ => (0, 0, 0, 0)

/-- I_CHG_MAX_n and I_DIS_MAX_n, or the envelope. -/
def Module.limI (n : Nat) (m : Module) : Int × Int :=
  match m.envelope, m.block with
  | some e, some b => if m.envOnly then (envIChg e, envIDis e) else (blkIChg b n, blkIDis b n)
  | some e, none => (envIChg e, envIDis e)
  | none, _ => (0, 0)

/-- Cell functions 0, 1 and 8 of one cell; lane 0 A, 1 B, 2 C. -/
def Module.condCell (lane : Nat) (bad : List Nat) (c : Nat) (m : Module) : List (Nat × Bool) :=
  let vp := m.laneV bad false c
  let vs := m.laneV bad true c
  let (hi, lo, _, _) := m.limV
  let (eh, el) := match m.envelope with
    | some e => (envVMax e, envVMin e)
    | none => (0, 0)
  let own := if lane = 0 then condOf 0 c vp (fun v => decide (hi < v)) ++ condOf 1 c vp (fun v => decide (v < lo))
    else if lane = 1 then condOf 0 c vs (fun v => decide (hi < v)) ++ condOf 1 c vs (fun v => decide (v < lo))
    else condOf 0 c vp (fun v => decide (eh < v)) ++ condOf 1 c vp (fun v => decide (v < el))
      ++ condOf 0 (8192 + c) vs (fun v => decide (eh < v)) ++ condOf 1 (8192 + c) vs (fun v => decide (v < el))
  own ++ (match vp, vs, m.block with
    | some p, some q, some b => [(ckey 8 c, decide (blkPlausV b < (p - q).natAbs))]
    | _, _, _ => [])

/-- Temperature functions 2 and 3 of one NTC input. -/
def Module.condNtc (lane : Nat) (bad : List Nat) (n mon i : Nat) (m : Module) : List (Nat × Bool) :=
  let v := m.laneNtc bad n mon i
  let (_, _, hi, lo) := m.limV
  let (hi, lo) := if lane = 2 then (match m.envelope with
      | some e => (envTMax e, envTMin e)
      | none => (0, 0))
    else (hi, lo)
  condOf 2 (ntcKey n mon i) v (fun t => decide (hi < t)) ++ condOf 3 (ntcKey n mon i) v (fun t => decide (t < lo))

/-- The lowest of a lane's latest NTC values of a string. -/
def Lane.lowest (n mons : Nat) (l : Lane) : Option Int :=
  (List.range (8 * mons)).foldl (fun a k => match a, tabGet none l.ntc (256 * n + k) with
    | some x, some y => some (min x y)
    | none, y => y
    | x, none => x) none

/-- Current functions 4 to 7 and insulation of one string. -/
def Module.condStr (lane : Nat) (bad : List Nat) (l : Lane) (n : Nat) (m : Module) : List (Nat × Bool) :=
  let ip := m.laneI bad false n
  let is_ := m.laneI bad true n
  let dci := m.laneDci n
  let own := if lane = 0 then ip else is_
  let (chg, dis) := m.limI n
  let (ec, ed) := match m.envelope with
    | some e => (envIChg e, envIDis e)
    | none => (0, 0)
  let cold := match m.block, own, l.lowest n (m.monitors n) with
    | some b, some i, some t =>
      if lane = 2 ∨ blkTChg b = blkTMin b then [] else [(ckey 4 n, decide (i < -blkICold b ∧ t < blkTChg b))]
    | _, _, _ => []
  let ovr := if lane < 2 then condOf 5 n own (fun i => decide (i < -chg)) ++ condOf 6 n own (fun i => decide (dis < i))
    else condOf 5 n ip (fun i => decide (i < -ec)) ++ condOf 6 n ip (fun i => decide (ed < i))
      ++ condOf 5 (16 + n) is_ (fun i => decide (i < -ec)) ++ condOf 6 (16 + n) is_ (fun i => decide (ed < i))
      ++ condOf 5 (32 + n) dci (fun i => decide (m.dciEnd n = -1 ∨ i < -ec * dciDen))
      ++ condOf 6 (32 + n) dci (fun i => decide (m.dciEnd n = 1 ∨ ed * dciDen < i))
  let pair := fun (k : Nat) (x y : Option Int) => match x, y, m.block with
    | some a, some c, some b => [(ckey 7 (16 * k + n), plausTrip b a c)]
    | _, _, _ => []
  let p := ip.map (· * dciDen)
  let q := is_.map (· * dciDen)
  let plaus := match dci with
    | some _ =>
      if lane = 0 then pair 0 p dci else if lane = 1 then pair 1 q dci
      else pair 0 p dci ++ pair 1 q dci ++ pair 2 p q
    | none => pair 2 p q
  let iso := match m.laneIso bad true n, m.block with
    | some v, some b => if lane = 2 ∨ blkIsoMin b = 0 then [] else [(ckey 9 n, decide (v < blkIsoMin b))]
    | _, _ => []
  cold ++ ovr ++ plaus ++ iso

/-! ### Safety inputs (R335 to R337) -/

def Module.sin (i : Nat) (m : Module) : Sin := tabGet {} m.slv.sins i
def Module.updSin (i : Nat) (f : Sin → Sin) (m : Module) : Module :=
  m.onSlv fun v => { v with sins := tabUpd {} v.sins i f }

/-- The input is judged as antivalent (R336: never while no block is armed). -/
def Module.siAnti (i : Nat) (m : Module) : Bool := match m.block with
  | some b => decide (blkSiType b i = 1)
  | none => false

/-- The channels show the active combination, and the inactive one. -/
def Module.siActive (i : Nat) (m : Module) : Bool :=
  let x := m.sin i
  if i = 7 then x.a && (if m.siAnti i then !x.b else x.b)
  else !x.a && (if m.siAnti i then x.b else !x.b)
def Module.siInactive (i : Nat) (m : Module) : Bool :=
  let x := m.sin i
  if i = 7 then !x.a && (if m.siAnti i then x.b else !x.b)
  else x.a && (if m.siAnti i then !x.b else x.b)

/-- SI_DISCREP_i in force, 0.25 ns. -/
def Module.siLimit (i : Nat) (m : Module) : Nat := match m.block with
  | some b => msec (blkSiDiscrep b i)
  | none => msec 500

/-- The input has function STOP. -/
def Module.siStop (i : Nat) (m : Module) : Bool := match m.block with
  | some b => decide (i < 7 ∧ blkSiFunc b i = 1)
  | none => false

/-- A STOP input in demand, or in discrepancy. -/
def Module.siDemand (i : Nat) (m : Module) : Bool := m.siStop i && (m.siActive i || (m.sin i).discrep)

/-! ### All conditions of a lane -/

def Module.laneConds (lane : Nat) (bad : List Nat) (l : Lane) (m : Module) : List (Nat × Bool) :=
  let cells := m.allCells.flatMap fun c => m.condCell lane bad c
  let ntcs := m.groups.flatMap fun g => (List.range 8).flatMap fun i => m.condNtc lane bad g.1 g.2 i
  let strs := m.enabledChains.flatMap fun n => m.condStr lane bad l n
  let sis := (List.range 7).flatMap fun i => if m.siStop i then [(ckey 11 i, m.siDemand i)] else []
  (cells ++ ntcs ++ strs ++ sis).filter fun p => m.evaluated (p.1 / 65536)

/-- The consecutive counts after an evaluation (R316). -/
def countStep (cs : List (Nat × Bool)) (t : Tab Nat) : Tab Nat :=
  cs.foldl (fun t p => if p.2 then tabUpd 0 t p.1 (fun n => min (n + 1) 16) else tabPut 0 t p.1 0) t

/-! ### Missing data (R318) -/

def pkey (kind item : Nat) : Nat := kind * 65536 + item

/-- The configured values, with whether they are present at this pick: kinds 0 V_PRI, 1 V_SEC, 2 I_PRI, 3 I_SEC, 4 NTC,
5 insulation. -/
def Module.lanePresence (bad : List Nat) (m : Module) : List (Nat × Bool) :=
  let cells := m.allCells.flatMap fun c =>
    [(pkey 0 c, (m.laneV bad false c).isSome), (pkey 1 c, (m.laneV bad true c).isSome)]
  let ntcs := m.groups.flatMap fun g => (List.range 8).map fun i =>
    (pkey 4 (ntcKey g.1 g.2 i), (m.laneNtc bad g.1 g.2 i).isSome)
  let strs := m.enabledChains.flatMap fun n =>
    [(pkey 2 n, (m.laneI bad false n).isSome), (pkey 3 n, (m.laneI bad true n).isSome),
     (pkey 5 n, (m.laneIso bad false n).isSome)]
  cells ++ ntcs ++ strs

/-- Record what is present at a pick; a value never present is missing from the first pick at which it is configured (R318). -/
def presStep (inst : Nat) (ps : List (Nat × Bool)) (t : Tab (Option Nat)) : Tab (Option Nat) :=
  ps.foldl (fun t p => if p.2 || (tabGet none t p.1).isNone then tabPut none t p.1 (some inst) else t) t

/-- The length of a window at FREQ_MIN (R340). -/
def Module.windowTime (m : Module) : Nat :=
  let c := cycleOfFreq m.freqMin
  match m.setting 0x0203 with
  | 0 => c / 2 | 1 => c | 2 => 2 * c | _ => 4 * c

/-- BLIND_TIME, T_BLIND and SINGLE_READING_MAX in force, for cells with the window's length (R318, R320). -/
def Module.blindCell (m : Module) : Nat :=
  (match m.block with
   | some b => if m.envOnly then usec 100000 else usec (blkBlind b)
   | none => usec 100000) + (if m.windowMode then m.windowTime else 0)
def Module.blindCur (m : Module) : Nat := match m.block with
  | some b => if m.envOnly then usec 100000 else usec (blkBlind b)
  | none => usec 100000
def Module.blindNtc (m : Module) : Nat := match m.block with
  | some b => if m.envOnly then secs 60 else secs (blkTBlind b)
  | none => secs 60
def Module.blindSingle (m : Module) : Nat := match m.block with
  | some b => if m.envOnly then secs 3600 else secs (blkSingle b)
  | none => secs 3600

/-- How long a value has been missing to a lane at time `t`. -/
def Lane.missing (t k : Nat) (l : Lane) : Nat := match tabGet none l.pres k with
  | some p => t - p
  | none => 0

/-- The blind time of a value by its kind. -/
def Module.blindOf (kind : Nat) (m : Module) : Nat :=
  if kind < 2 then m.blindCell else if kind < 4 then m.blindCur else if kind = 4 then m.blindNtc
  else secs (3 * m.setting 0x0209)

/-- The insulation blind check is made: ISO_MIN not 0, and not on the envelope alone. -/
def Module.isoWatched (m : Module) : Bool := match m.block with
  | some b => !m.envOnly && decide (blkIsoMin b ≠ 0)
  | none => false

/-- A lane votes BLIND for a value at time `t` (R318). -/
def Module.isBlind (lane : Nat) (l : Lane) (t k : Nat) (m : Module) : Bool :=
  let kind := k / 65536
  let item := k % 65536
  let miss := fun k => l.missing t k
  if lane = 2 then
    if kind < 2 then decide (m.blindCell ≤ min (miss (pkey 0 item)) (miss (pkey 1 item)) ∨ m.blindSingle ≤ miss k)
    else if kind < 4 then decide (m.blindCur ≤ min (miss (pkey 2 item)) (miss (pkey 3 item)))
    else kind = 4 && decide (m.blindNtc ≤ miss k)
  else if kind = lane ∨ kind = 2 + lane ∨ kind = 4 then decide (m.blindOf kind ≤ miss k)
  else kind = 5 && m.isoWatched && decide (m.blindOf 5 ≤ miss k)

/-- A value still configured (R318). -/
def Module.valueConfigured (k : Nat) (m : Module) : Bool :=
  let item := k % 65536
  let n := if k / 65536 < 2 then item / 512 else if k / 65536 = 4 then item / 256 else item
  let mon := if k / 65536 < 2 then item % 512 / 16 else if k / 65536 = 4 then item % 256 / 8 else 0
  decide (n < 16) && m.chainEnabled n && decide (mon < m.monitors n)

/-- A counted condition of a cell, input, string or safety input still configured. -/
def Module.itemConfigured (k : Nat) (m : Module) : Bool :=
  let f := k / 65536
  let item := k % 65536
  if f = 11 then m.siStop item
  else
    let n := if f ∈ [0, 1, 8] then item % 8192 / 512 else if f ∈ [2, 3] then item / 256 else item % 16
    let mon := if f ∈ [0, 1, 8] then item % 512 / 16 else if f ∈ [2, 3] then item % 256 / 8 else 0
    decide (n < 16) && m.chainEnabled n && decide (mon < m.monitors n)

/-- A lane's values checked at time `t`. -/
def Module.blindAll (lane : Nat) (l : Lane) (t : Nat) (m : Module) : List Nat :=
  if !m.evaluated 10 then [] else (l.pres.filter fun p => m.valueConfigured p.1 && m.isBlind lane l t p.1).map (·.1)

/-! ### Lanes and votes (R321 to R327) -/

def Slv.lane (i : Nat) (v : Slv) : Lane := if i = 0 then v.laneA else if i = 1 then v.laneB else v.laneC
def Module.lane (i : Nat) (m : Module) : Lane := m.slv.lane i
def Module.updLane (i : Nat) (f : Lane → Lane) (m : Module) : Module :=
  m.onSlv fun v => if i = 0 then { v with laneA := f v.laneA } else if i = 1 then { v with laneB := f v.laneB }
    else { v with laneC := f v.laneC }
def Lane.healthy (l : Lane) : Bool := decide (l.state = .healthy)
def Module.healthyLanes (m : Module) : List Nat := [0, 1, 2].filter fun i => (m.lane i).healthy
/-- HEALTHY lanes that vote trip. -/
def Module.votingLanes (m : Module) : List Nat := m.healthyLanes.filter fun i => decide ((m.lane i).votes ≠ 0)

/-- DEGRADED_TIMEOUT holds (R314, R327). -/
def Module.degradedOut (m : Module) : Bool :=
  decide (m.slv.voting = 2) && m.evaluated 12 && (match m.block with
    | some b => decide (3600 * blkDegraded b ≤ m.slv.degraded)
    | none => false)

/-- The functions a lane votes on, from its counts, its blind values and the degraded timer. -/
def Module.votesOf (l : Lane) (m : Module) : Nat :=
  maskOf 13 fun f =>
    m.evaluated f && (if f = 10 then decide (l.blind ≠ []) else if f = 12 then m.degradedOut
      else l.counts.any fun p => p.1 / 65536 = f && decide (m.nConf f ≤ p.2))

/-! ### Safety outputs (R321, R328, R331) -/

def Module.sout (x : Nat) (m : Module) : Out1 := tabGet {} m.slv.outs x
def Module.updSout (x : Nat) (f : Out1 → Out1) (m : Module) : Module :=
  m.onSlv fun v => { v with outs := tabUpd {} v.outs x f }
def Out1.fault (o : Out1) : Nat :=
  if o.shown ≠ 0 then o.shown else if o.ovr && o.openLoad then o.soft else if o.ovr then 5 else if o.openLoad then 6 else 0

/-- SO_KIND_x of the armed block; 0 if none armed. -/
def Module.soKind (x : Nat) (m : Module) : Nat := match m.block with
  | some b => blkSoKind b x
  | none => 0

/-- The output is requested (R328). -/
def Module.soReq (x : Nat) (m : Module) : Bool :=
  (m.slv.reqHost.testBit x && !m.slv.blockHost.testBit x) || (m.slv.reqDraft.testBit x && !m.slv.blockDraft.testBit x)

/-- A lane's line for an output is on (R321, R322). -/
def Module.laneLine (x i : Nat) (m : Module) : Bool :=
  let l := m.lane i
  l.healthy && decide (l.votes = 0) && !l.latch && decide (m.sys.mode ∈ [.standby, .dispatch, .formation])
    && (decide (m.soKind x = 1) || (decide (m.soKind x = 2) && m.soReq x)) && decide ((m.sout x).fault = 0)

/-- Both voters of the output are on; an activation switches every output off (R691). -/
def Module.soPermit (x : Nat) (m : Module) : Bool :=
  decide (m.upd.state ≠ .activating) && decide (2 ≤ ([0, 1, 2].filter fun i => m.laneLine x i).length)

/-- The voters act on the lines: outputs start or stop conducting, event 134; a pulse test of an output that goes off is
abandoned, SKIPPED (R333). -/
def Module.soUpdate (m : Module) : Module :=
  let on := maskOf 24 fun x => m.soPermit x
  let changed := (List.range 24).filter fun x => on.testBit x != m.slv.on.testBit x
  let m := m.onSlv fun v =>
    let v := { v with on := on }
    match v.pulse with
    | some p => if on.testBit p.so then v else { v with pulse := none, ptSo := p.so, ptLow := p.low, ptResult := 3 }
    | none => v
  changed.foldl (fun m _ => m.raiseOnce 134) m

/-- Every request of the outputs of a mask is cleared, and both sources blocked (R328). -/
def Module.clearReq (mask : Nat) (m : Module) : Module :=
  (m.onSlv fun v =>
    { v with reqHost := v.reqHost - (v.reqHost &&& mask), blockHost := v.blockHost ||| mask,
             blockDraft := v.blockDraft ||| mask }).soUpdate

def allOuts : Nat := 2 ^ 24 - 1

/-- A fault of an output (R331, R352): event 133 and its bolt code; its requests are cleared. -/
def Module.soFault (x code : Nat) (m : Module) : Module :=
  let o := m.sout x
  let held := if code ≤ 4 then o.stuck.testBit code else if code = 5 then o.ovr else o.openLoad
  if held then m
  else
    let m := m.updSout x fun o =>
      if code ≤ 4 then { o with stuck := o.stuck ||| 2 ^ code, shown := if o.shown = 0 then code else o.shown }
      else if code = 5 then { o with ovr := true, soft := 5 } else { o with openLoad := true, soft := 6 }
    ((m.raise 133).boltCount (536 + code)).clearReq (2 ^ x)

/-- OVERLOAD and OPEN_LOAD clear (R331). -/
def Module.softClear (x : Nat) (m : Module) : Module := m.updSout x fun o => { o with ovr := false, openLoad := false }

/-- The requests of a source change (R328): a request newly made clears OVERLOAD and OPEN_LOAD of its output; a withdrawal
unblocks the source. -/
def Module.setReqHost (set_ clr : Nat) (m : Module) : Module :=
  let m := (maskList 24 set_).foldl (fun m x => if m.soReq x then m else m.softClear x) m
  (m.onSlv fun v =>
    { v with reqHost := (v.reqHost ||| set_) - ((v.reqHost ||| set_) &&& clr), blockHost := v.blockHost - (v.blockHost &&& clr) }).soUpdate
def Module.setReqDraft (x : Nat) (on : Bool) (m : Module) : Module :=
  let m := if on && !m.soReq x && !m.slv.blockDraft.testBit x then m.softClear x else m
  (m.onSlv fun v =>
    if on then { v with reqDraft := v.reqDraft ||| 2 ^ x }
    else { v with reqDraft := v.reqDraft - (v.reqDraft &&& 2 ^ x), blockDraft := v.blockDraft - (v.blockDraft &&& 2 ^ x) }).soUpdate

/-! ### Voted trips (R323, R347, R348) -/

/-- String and cell of a counted item (R347): cell 0xFFFF where the function is not a cell's. -/
def itemPlace (f item : Nat) : Nat × Nat :=
  if f = 0 ∨ f = 1 ∨ f = 8 then (item % 8192 / 512, item % 8192)
  else if f = 2 ∨ f = 3 then (item / 256, 512 * (item / 256) + 2 * (item % 256))
  else if f = 11 then (0, 0xFFFF)
  else (item % 16, 0xFFFF)
/-- String and cell of a missing value. -/
def valuePlace (k : Nat) : Nat × Nat :=
  let item := k % 65536
  if k / 65536 < 2 then (item / 512, item) else if k / 65536 = 4 then (item / 256, 512 * (item / 256) + 2 * (item % 256))
  else (item, 0xFFFF)

/-- Where a lane votes on a function: string and cell of each item. -/
def Module.votePlaces (f : Nat) (l : Lane) (m : Module) : List (Nat × Nat) :=
  if f = 10 then l.blind.map valuePlace
  else if f = 12 then [(0, 0xFFFF)]
  else (l.counts.filter fun p => p.1 / 65536 = f && decide (m.nConf f ≤ p.2)).map fun p => itemPlace f (p.1 % 65536)

/-- The lower of two places: string, then cell. -/
def placeMin (a b : Nat × Nat) : Nat × Nat := if b.1 < a.1 ∨ (b.1 = a.1 ∧ b.2 < a.2) then b else a

/-- Record the trip: event 128, bolt code, a freeze, every request cleared; R30 takes the module to SAFE-HOLD. -/
def Module.tripRecord (m : Module) : Module :=
  let ls := m.votingLanes
  let all_ := ls.foldl (fun a i => a ||| (m.lane i).votes) 0
  let f := (maskList 13 all_).headD 0
  let on := ls.filter fun i => (m.lane i).votes.testBit f
  let places := on.flatMap fun i => m.votePlaces f (m.lane i)
  let (str, cell) := places.foldl placeMin (places.headD (0, 0xFFFF))
  let si := if f = 11 then ((List.range 7).find? fun i => m.siDemand i) else none
  let m := m.onSlv fun v =>
    { v with tripOn := true, tripFunc := f, tripString := str, tripLanes := maskOf 3 fun i => i ∈ on, tripAll := all_
             tripCell := cell, tripSi := si, tripPick := m.pck.index }
  let m := ((m.raise 128).boltCount (512 + f)).clearReq allOuts
  (m.onSys fun y => { y with tripSeen := true }).cloTrigger 1 none

/-- A lane reads the vote lines (R323): at a voted trip it sets its latch. -/
def Module.readVotes (lane : Nat) (m : Module) : Module :=
  let n := m.votingLanes.length
  let trip := (m.slv.voting = 1 && decide (2 ≤ n)) || (m.slv.voting = 2 && decide (1 ≤ n))
  if !trip then m.onSlv fun v => { v with tripOn := false }
  else
    let m := if (m.lane lane).healthy then m.updLane lane fun l => { l with latch := true } else m
    if m.slv.tripOn then m.soUpdate else m.tripRecord

/-- A lone vote begins (R325), judged once every HEALTHY lane has evaluated the same pick. -/
def Module.loneVote (m : Module) : Module :=
  let same := match m.healthyLanes with
    | [] => false
    | i :: is => is.all fun j => (m.lane i).evalPick = (m.lane j).evalPick
  if !same then m
  else
    let lone := m.slv.voting = 1 && decide (m.votingLanes.length = 1)
    let was := m.slv.lone
    let m := m.onSlv fun v => { v with lone := lone }
    if lone && !was then (m.bump 0x0800F0).raiseOnce 129 else m

/-! ### Failed lanes (R326, R327) -/

/-- A lane is declared FAILED: event 130, its bolt code, and the voting state. -/
def Module.laneFail (i cause : Nat) (m : Module) : Module :=
  if (m.lane i).state ≠ .healthy then m
  else
    let m := m.updLane i fun l =>
      { l with state := .failed, cause := cause, votes := 0, latch := false, dispute := false, decl := [], counts := []
               blind := [], half := [] }
    let m := [0, 1, 2].foldl (fun m j => m.updLane j fun l => { l with decl := l.decl.filter (·.1 ≠ i) }) m
    let m := ((m.raise 130).boltCount (528 + cause))
    let m := if m.slv.voting = 1 then
        (m.onSlv fun v => { v with voting := 2, degraded := 0, degWarned := false, lone := false }).raise 131
      else if m.slv.voting = 2 then
        ((m.onSlv fun v => { v with voting := 0, tripOn := false }).raise 131).onSys fun y => { y with lanesSeen := true }
      else m
    m.soUpdate

/-- Declarations between lanes are judged (R326): both others, or in ONE_OF_TWO the single other, fail a lane with the cause
the lowest of them found. -/
def Module.declaredOne (m : Module) : Module :=
  let accusers := fun i => m.healthyLanes.filter fun j => j ≠ i && (m.lane j).decl.any (·.1 = i)
  let need := if m.slv.voting = 1 then 2 else 1
  if m.slv.voting = 0 then m
  else match m.healthyLanes.find? fun i => decide (need ≤ (accusers i).length) with
    | none => m
    | some i =>
      let cause := match accusers i with
        | j :: _ => (((m.lane j).decl.find? (·.1 = i)).map (·.2)).getD 0
        | [] => 0
      m.laneFail i cause

/-- A lane that alone declares another failed, in TWO_OF_THREE: a dispute, event 140 when it is raised. -/
def Module.disputes (m : Module) : Module :=
  [0, 1, 2].foldl (fun m i =>
    let now := (m.lane i).healthy && m.slv.voting = 1 && decide ((m.lane i).decl ≠ [])
    let was := (m.lane i).dispute
    let m := m.updLane i fun l => { l with dispute := now }
    if now && !was then (m.bump 0x080100).raise 140 else m) m

/-- Judge the declarations; one failure may bring the next (R326). -/
def Module.declared (m : Module) : Module := m.declaredOne.declaredOne.disputes

end Sys2Proof.Machine
end

