-- ==== Sys2Proof/Machine/Selvedge.lean ====
section
/-! DEFINITION. Machine/Selvedge.lean: the steps of the lanes, the safety outputs and their tests (R316 to R337), and the
registers of R344 to R352. -/
namespace Sys2Proof.Machine

/-! ### Lanes -/

/-- A lane misses the 200 µs deadline of the latest pick: counted once for the pick, event 139 once per cycle; at two picks
in a row it fails with WATCHDOG (R326). -/
def Module.laneLate (i : Nat) (m : Module) : Module :=
  if (m.lane i).latePick = some m.pck.index then m
  else
    let m := m.updLane i fun l => { l with late := true, lateRun := l.lateRun + 1, latePick := some m.pck.index }
    let m := (m.bump 0x0800F4).raiseOnce 139
    if 2 ≤ (m.lane i).lateRun then (m.laneFail i 1).declared else m

/-- The lane's counts, presence and votes after the evaluation of a pick. What is configured no more is forgotten: a count of it, and
since when it has been missing (R318: since the lane was configured with it). -/
def Module.laneStep (i : Nat) (bad : List Nat) (t : Nat) (m : Module) : Module :=
  let m := m.updLane i fun l =>
    { l with pres := presStep m.pck.instant (m.lanePresence bad) (l.pres.filter fun p => m.valueConfigured p.1)
             ntc := (m.groups.flatMap fun g => (List.range 8).map fun j => (g, j)).foldl (fun x p =>
               match m.laneNtc bad p.1.1 p.1.2 p.2 with
               | some v => tabPut none x (ntcKey p.1.1 p.1.2 p.2) (some v)
               | none => x) l.ntc }
  let l := m.lane i
  let cs := m.laneConds i bad l
  let l := { l with counts := countStep cs (l.counts.filter fun p => m.itemConfigured p.1), blind := m.blindAll i l t, evalPick := some m.pck.index }
  let l := { l with half := l.half.filter fun k => decide (m.blindOf (k / 65536) ≤ 2 * l.missing t k) }
  m.updLane i fun _ => { l with votes := m.votesOf l }

/-- LANE_EVALUATION (R316, R323, R339): `bad` the frames that did not reach the lane intact; completed at `t`. -/
def Module.laneEval (i : Nat) (bad : List Nat) (t : Nat) (m : Module) : Module :=
  if m.inBoot || !(m.lane i).healthy || !m.pck.released || (m.lane i).evalPick = some m.pck.index then m
  else
    let m := m.tick t
    let others := m.healthyLanes.any fun j => (m.lane j).evalPick = some m.pck.index
    let time := satU16 ((t - m.pck.instant) / 40)
    let m := m.laneStep i bad t
    let m := m.onSlv fun v =>
      let last := if others then max v.evalLast time else time
      { v with evalLast := last, evalMax := max v.evalMax last }
    let m := if m.pck.instant + usec 200 < t then m.laneLate i
      else m.updLane i fun l => { l with late := false, lateRun := 0 }
    ((m.soUpdate).readVotes i).loneVote
def execLaneEvaluation (lane : Nat) (bad : List Nat) (t : Nat) (s : State) : Host.Outcome State Fault Refusal :=
  s.go (·.laneEval lane bad t)

/-- LANE_TICK (R318, R323, R326): the lane's declarations of other lanes, its blind checks, and the vote lines. -/
def Module.laneTick (i : Nat) (accuse : List (Nat × Nat)) (t : Nat) (m : Module) : Module :=
  if m.inBoot || !(m.lane i).healthy then m
  else
    let m := m.tick t
    let m := m.updLane i fun l => { l with decl := accuse.filter fun p => p.1 ≠ i && (m.lane p.1).healthy }
    let m := m.declared
    let m := m.updLane i fun l =>
      let l := { l with blind := m.blindAll i l t }
      if l.healthy then { l with votes := m.votesOf l } else l
    ((m.soUpdate).readVotes i).loneVote
def execLaneTick (lane : Nat) (accuse : List (Nat × Nat)) (t : Nat) (s : State) : Host.Outcome State Fault Refusal :=
  s.go (·.laneTick lane accuse t)

/-- BLIND_TIMEOUT (R318): a lane votes BLIND for one value whose blind time has run. -/
def Module.blindTimeout (i kind item t : Nat) (m : Module) : Module :=
  let k := pkey kind item
  let l := m.lane i
  if !l.healthy || !m.evaluated 10 || !m.valueConfigured k || !m.isBlind i l t k then m
  else
    let m := m.tick t
    let l := { l with blind := if k ∈ l.blind then l.blind else l.blind ++ [k] }
    ((m.updLane i fun _ => { l with votes := m.votesOf l }).soUpdate.readVotes i).loneVote
def execBlindTimeout (lane kind item t : Nat) (s : State) : Host.Outcome State Fault Refusal :=
  s.go (·.blindTimeout lane kind item t)

/-- BLIND_HALF_TIME (R353): event 138 for a value missing for half its blind time, once while it is missing. -/
def Module.blindHalf (i kind item t : Nat) (m : Module) : Module :=
  let k := pkey kind item
  let l := m.lane i
  if !l.healthy || !m.evaluated 10 || !m.valueConfigured k || k ∈ l.half || decide (2 * l.missing t k < m.blindOf kind)
      || (kind = 5 && !m.isoWatched) then m
  else (m.updLane i fun l => { l with half := l.half ++ [k] }).raiseOnce 138
def execBlindHalfTime (lane kind item t : Nat) (s : State) : Host.Outcome State Fault Refusal :=
  s.go (·.blindHalf lane kind item t)

/-- LANE_WATCHDOG_EXPIRY (R326): 200 µs after the pick instant the lane has not completed its evaluation. -/
def Module.laneWatchdog (i : Nat) (m : Module) : Module :=
  if m.inBoot || !(m.lane i).healthy || !m.pck.running || (m.lane i).evalPick = some m.pck.index then m else m.laneLate i
def execLaneWatchdogExpiry (lane : Nat) (s : State) : Host.Outcome State Fault Refusal := s.go (·.laneWatchdog lane)

/-- LANE_BLOCK_CRC_CHECK (R326, cause 3). -/
def execLaneBlockCrcCheck (lane : Nat) (ok : Bool) (s : State) : Host.Outcome State Fault Refusal :=
  s.go fun m => if ok || m.inBoot then m else (m.laneFail lane 3).declared

/-- LANE_SELF_TEST_CYCLE (R326, cause 4). -/
def execLaneSelfTestCycle (lane : Nat) (ok : Bool) (s : State) : Host.Outcome State Fault Refusal :=
  s.go fun m => if ok || m.inBoot then m else (m.laneFail lane 4).declared

/-- LANE_DISPUTE_EXPIRY (R326, cause 7). -/
def execLaneDisputeExpiry (lane : Nat) (s : State) : Host.Outcome State Fault Refusal :=
  s.go fun m => if (m.lane lane).dispute then (m.laneFail lane 7).declared else m

/-! ### The degraded timer (R327) -/

/-- The votes of every HEALTHY lane are formed again. -/
def Module.revote (m : Module) : Module :=
  [0, 1, 2].foldl (fun m i => m.updLane i fun l => if l.healthy then { l with votes := m.votesOf l } else l) m

/-- DEGRADED_TIMEOUT: both lanes vote; the trip is found as they read the lines. -/
def Module.degradedTimeout (m : Module) : Module :=
  if !m.degradedOut then m
  else m.healthyLanes.foldl (fun n i => n.readVotes i) m.revote.soUpdate
def execDegradedTimeout (s : State) : Host.Outcome State Fault Refusal := s.go Module.degradedTimeout

/-- DEGRADED_WARN: 10 % of DEGRADED_MAX remains; event 132, once. -/
def Module.degradedWarn (m : Module) : Module :=
  let due := match m.block with
    | some b => decide (9 * (3600 * blkDegraded b) ≤ 10 * m.slv.degraded)
    | none => false
  if m.slv.voting = 2 && due && !m.slv.degWarned then (m.onSlv fun v => { v with degWarned := true }).raise 132 else m
def execDegradedWarn (s : State) : Host.Outcome State Fault Refusal := s.go Module.degradedWarn

/-- DEGRADED_SAVE: the counting timer goes to flash, inside the write window. -/
def execDegradedSave (s : State) : Host.Outcome State Fault Refusal :=
  s.go fun m => if m.slv.voting = 2 && m.flashOk && !m.inBoot then
    m.onSlv fun v => { v with degSaved := some v.degraded } else m

/-- BOLT_SECOND counts an operating second for the degraded timer too, in every mode but BOOT (R327, R651). -/
def execBoltSecond (s : State) : Host.Outcome State Fault Refusal :=
  s.go fun m =>
    let m := if m.slv.voting = 2 && !m.inBoot then m.onSlv fun v => { v with degraded := satU32 (v.degraded + 1) } else m
    m.boltSecond

/-! ### Pulse tests and output faults (R329 to R333, R707) -/

/-- PULSE_TEST_START (R332): a conducting output's due test turns one switch off; with J2 lost it ends SKIPPED. -/
def Module.pulseStart (x : Nat) (m : Module) : Module :=
  if !m.slv.on.testBit x || m.slv.pulse.isSome then m
  else
    let low := (m.sout x).lowNext
    let m := m.updSout x fun o => { o with lowNext := !o.lowNext }
    m.onSlv fun v =>
      if m.hk.j2 then { v with pulse := some { so := x, low := low } } else { v with ptSo := x, ptLow := low, ptResult := 3 }
def execPulseTestStart (so : Nat) (s : State) : Host.Outcome State Fault Refusal := s.go (·.pulseStart so)

/-- The test ends with a result (R351). -/
def Module.pulseEnd (p : Pulse) (result : Nat) (m : Module) : Module :=
  m.onSlv fun v => { v with pulse := none, ptSo := p.so, ptLow := p.low, ptResult := result }

/-- A test gives a fault. -/
def Module.pulseFail (p : Pulse) (result code : Nat) (m : Module) : Module :=
  ((m.pulseEnd p result).bump 0x0800FC).soFault p.so code

/-- PULSE_TEST_SWITCH_ON (R332): not sensed off by 300 µs is stuck on; else the switch goes back on, and sensed on passes. -/
def Module.pulseOn (sensedOff sensedOn : Bool) (m : Module) : Module :=
  match m.slv.pulse with
  | none => m
  | some p =>
    if p.back then m
    else if !m.hk.j2 then m.pulseEnd p 3
    else if !sensedOff then m.pulseFail p 1 (if p.low then 2 else 1)
    else if sensedOn then m.pulseEnd p 0
    else m.onSlv fun v => { v with pulse := some { p with back := true } }
def execPulseTestSwitchOn (sensedOff sensedOn : Bool) (s : State) : Host.Outcome State Fault Refusal :=
  s.go (·.pulseOn sensedOff sensedOn)

/-- PULSE_TEST_ON_TIMEOUT (R332): not sensed on by 400 µs is stuck off. -/
def Module.pulseOnTimeout (m : Module) : Module :=
  match m.slv.pulse with
  | none => m
  | some p =>
    if !p.back then m
    else if !m.hk.j2 then m.pulseEnd p 3
    else m.pulseFail p 2 (if p.low then 4 else 3)
def execPulseTestOnTimeout (s : State) : Host.Outcome State Fault Refusal := s.go Module.pulseOnTimeout

/-- SO_STUCK_ON_TIMEOUT (R331): sensed on while commanded off for 300 µs. -/
def execSoStuckOnTimeout (so : Nat) (low : Bool) (s : State) : Host.Outcome State Fault Refusal :=
  s.go fun m => if m.slv.on.testBit so then m else m.soFault so (if low then 2 else 1)

/-- SO_STUCK_OFF_TIMEOUT (R331): not sensed on 400 µs after the switch-on; not judged while J2 is lost (R707). -/
def execSoStuckOffTimeout (so : Nat) (low : Bool) (s : State) : Host.Outcome State Fault Refusal :=
  s.go fun m => if m.slv.on.testBit so && m.hk.j2 then m.soFault so (if low then 4 else 3) else m

/-- SO_OVERLOAD_TIMEOUT (R329, R331). -/
def execSoOverloadTimeout (so : Nat) (s : State) : Host.Outcome State Fault Refusal :=
  s.go fun m => if m.slv.on.testBit so then m.soFault so 5 else m

/-- SO_OPEN_LOAD_TIMEOUT (R331); not judged while J2 is lost (R707). -/
def execSoOpenLoadTimeout (so : Nat) (s : State) : Host.Outcome State Fault Refusal :=
  s.go fun m => if m.slv.on.testBit so && m.hk.j2 then m.soFault so 6 else m

/-! ### Safety inputs -/

/-- SI_DISCREPANCY (R336): the channels have stood in neither combination for longer than SI_DISCREP_i. A STOP input not in
demand before enters demand. -/
def Module.siDiscrepancy (i t : Nat) (m : Module) : Module :=
  let x := m.sin i
  let due := match x.mixed with
    | some a => decide (a + m.siLimit i < t)
    | none => false
  if m.inBoot || !due || x.discrep || m.siActive i || m.siInactive i then m
  else
    let was := m.siDemand i
    let m := ((m.updSin i fun y => { y with discrep := true, activeSeen := false }).bump 0x0800F8).raise 136
    m.raiseIf (!was && m.siDemand i) 135
def execSiDiscrepancy (si t : Nat) (s : State) : Host.Outcome State Fault Refusal := s.go (·.siDiscrepancy si t)

/-- What an input's channels show is judged at `t` (R335, R336): a discrepancy clears after the active combination and then the
inactive one; `was`, the input was in demand. -/
def Module.siJudge (i : Nat) (was : Bool) (t : Nat) (m : Module) : Module :=
  let act := m.siActive i
  let ina := m.siInactive i
  let m := m.updSin i fun x =>
    { x with mixed := if act || ina then none else some (x.mixed.getD t)
             activeSeen := x.discrep && (x.activeSeen || act)
             discrep := x.discrep && !(x.activeSeen && ina) }
  m.raiseIf (!m.inBoot && !was && m.siDemand i) 135

/-- An input's channels change. -/
def Module.siChannels (i : Nat) (a b : Bool) (t : Nat) (m : Module) : Module :=
  ((m.tick t).updSin i fun x => { x with a := a, b := b }).siJudge i (m.siDemand i) t

/-- Every input is judged anew, as `old` becomes `m` by an arming, a disarming or BOOT: its function and form may have changed. -/
def Module.siRejudge (old m : Module) : Module :=
  (List.range 8).foldl (fun m i => m.siJudge i (old.siDemand i) m.sys.clock) m

/-- Event 135 at the first pick after BOOT for each STOP input in demand (R337). -/
def Module.siFirstPick (m : Module) : Module :=
  (List.range 7).foldl (fun m i => m.raiseIf (m.siDemand i) 135) m

/-! ### Registers (R344 to R352) -/

def laneCode : LaneState → Nat
  | .notLoaded => 0 | .healthy => 1 | .failed => 2

/-- SLV_STATUS (R345). -/
def Module.slvStatus (m : Module) : Nat :=
  laneCode m.slv.laneA.state + 4 * laneCode m.slv.laneB.state + 16 * laneCode m.slv.laneC.state + 64 * m.slv.voting
    + 256 * bit (m.healthyLanes.any fun i => (m.lane i).latch) + 512 * bit (m.envOnly && m.envelope.isSome && decide (m.healthyLanes ≠ []))
    + 1024 * bit (m.block.isSome && !m.inBoot) + 2048 * bit (decide (m.votingLanes ≠ []))

/-- SLV_LANE_x (R346). -/
def Lane.reg (l : Lane) : Nat := l.votes + 2 ^ 16 * l.cause + 2 ^ 19 * bit l.late + 2 ^ 20 * bit l.dispute

def Module.slvTrip (m : Module) : Nat :=
  m.slv.tripFunc + 16 * m.slv.tripString + 256 * m.slv.tripLanes + 2048 * bit m.slv.tripValid + 65536 * m.slv.tripAll
def Module.slvTripLoc (m : Module) : Nat :=
  m.slv.tripCell + (match m.slv.tripSi with
    | some i => 65536 * i + 2 ^ 19
    | none => 0)

/-- A switch is sensed on: it conducts and is not under test, or is stuck on. -/
def Module.sensed (x : Nat) (low : Bool) (m : Module) : Bool :=
  let tested := m.slv.pulse.any fun p => p.so = x && (p.low == low) && !p.back
  (m.slv.on.testBit x && !tested) || (m.sout x).stuck.testBit (if low then 2 else 1)

/-- SLV_SOx (R352); the measured coil current of a conducting output is a free value. -/
def Module.slvSo (x : Nat) (m : Module) : Nat :=
  let on := m.slv.on.testBit x
  (if m.inBoot then 0 else m.soKind x) + 4 * bit on + 8 * bit (m.soReq x) + 16 * bit (m.sensed x false) + 32 * bit (m.sensed x true)
    + 64 * (m.sout x).fault + 4096 * (if on then Config.freeNat (m.free + x) % 4096 else 0)

def Module.slvSi (m : Module) : Nat :=
  if m.inBoot then 0
  else (List.range 8).foldl (fun a i =>
    a + 16 ^ i * (bit (m.sin i).a + 2 * bit (m.sin i).b + 4 * bit (m.siActive i) + 8 * bit (m.sin i).discrep)) 0

/-- Registers of the selvedge proper; the counters are in the counter table. -/
def Module.slvReg (off : Nat) (m : Module) : Option Nat :=
  let o := off - 0x080000
  if off < 0x080000 then none
  else if o = 0 then some m.slvStatus
  else if o = 4 then some m.slv.laneA.reg
  else if o = 8 then some m.slv.laneB.reg
  else if o = 12 then some m.slv.laneC.reg
  else if o = 0x10 then some m.slvTrip
  else if o = 0x14 then some m.slvTripLoc
  else if o = 0x18 then some (m.slv.tripPick % 2 ^ 32)
  else if o = 0x1C then some (m.slv.tripPick / 2 ^ 32)
  else if o = 0x20 then some (if m.slv.voting = 2 then m.slv.degraded else 0)
  else if o = 0x24 then some (match m.block with
    | some b => if m.inBoot then 0 else blkCrc b
    | none => 0)
  else if o = 0x28 then some (m.slv.evalLast + 65536 * m.slv.evalMax)
  else if o = 0x30 ∨ o = 0x34 then some m.slv.on
  else if o = 0x38 then some (maskOf 24 fun x => m.soReq x)
  else if o = 0x3C then some (maskOf 24 fun x => decide ((m.sout x).fault ≠ 0))
  else if o = 0x40 then some m.slvSi
  else if o = 0x44 then some (m.slv.ptSo + 32 * bit m.slv.ptLow + 64 * m.slv.ptResult)
  else if 0x80 ≤ o ∧ o < 0xE0 ∧ o % 4 = 0 then some (m.slvSo ((o - 0x80) / 4))
  else none

end Sys2Proof.Machine
end

