-- ==== Sys2Proof/Machine/Commission.lean ====
section
/-! DEFINITION. Machine/Commission.lean: fuses, the safety parameter block and its arming, seal and switches, role keys and
output requests (R354 to R390). -/
namespace Sys2Proof.Machine

/-! ### Fuses (R354 to R358) -/

def Module.fuse (g : Nat) (m : Module) : Fuse := tabGet {} m.com.fuses g
def Module.putFuse (g : Nat) (f : Fuse) (m : Module) : Module := m.onCom fun c => { c with fuses := tabPut {} c.fuses g f }

/-- Value bytes of a group (R354). -/
def fuseLen (g : Nat) : Nat := if g = 0 then 20 else if g = 3 then 4 else if g < 3 then 1 else 48

/-- The fused METHOD as reported: 0 blank, 3 SPOILED (R383). -/
def Module.methodCode (m : Module) : Nat :=
  match (m.fuse 1).state with
  | .blank => 0
  | .spoiled => 3
  | .programmed => leNat (m.fuse 1).value
def Module.switchMode (m : Module) : Bool := decide (m.methodCode = 2)

def fuseCode : FuseState → Nat
  | .blank => 0 | .programmed => 1 | .spoiled => 2

/-- A value FUSE_PROGRAM accepts (R357). -/
def fuseOk (g : Nat) (v : Bytes) : Bool :=
  if g = 0 then
    decide (1000000 ≤ envVMax v ∧ envVMax v ≤ 5000000 ∧ 500000 ≤ envVMin v ∧ envVMin v ≤ envVMax v - 100000
      ∧ 0 ≤ envTMax v ∧ envTMax v ≤ 1000 ∧ -400 ≤ envTMin v ∧ envTMin v ≤ envTMax v - 100
      ∧ 1000 ≤ envIChg v ∧ envIChg v ≤ 18000000 ∧ 1000 ≤ envIDis v ∧ envIDis v ≤ 18000000)
  else if g = 1 then decide (leNat v = 1 ∨ leNat v = 2)
  else if g = 2 then decide (leNat v = 1)
  else if g = 3 then decide (leNat v ≠ 0)
  else true

/-- ENVELOPE, METHOD and PLANT_ID are all programmed (R358). -/
def Module.safetyFused (m : Module) : Bool := (m.fuse? 0).isSome && (m.fuse? 1).isSome && (m.fuse? 3).isSome

/-- T_p,max under settings written over those in force (R340), as numerator and denominator in s. -/
def Module.tpMax (w : Tab (Option Nat)) (m : Module) : Nat × Nat :=
  let k := pickKOf (m.settingIn w 0x0910)
  let f := m.settingIn w 0x0907
  let n := m.settingIn w 0x0904
  let p := m.settingIn w 0x0900
  let b := m.settingIn w 0x0901
  let den := 65536 * 98 * f * n
  let tooth := if p = 1 ∨ b = 1 then 100 * 65536 * 98 else 0
  let mains := if p = 2 ∨ b = 2 then 50 * 65536 * 98 * n else 0
  (ceilDiv 65536 k * 10000 * n + max tooth mains, den)

/-- 2 × T_p,max exceeds a blind time in µs. -/
def Module.tpExceeds (w : Tab (Option Nat)) (blind : Nat) (m : Module) : Bool :=
  let (a, d) := m.tpMax w
  decide (blind * d < 2000000 * a)

/-! ### The block (R317, R360 to R362) -/

/-- The parameters of a block lie within their bounds (R317), T_p,max apart. -/
def blockBounds (e b : Bytes) (strings : List Nat) : Bool :=
  let big := max (envIChg e) (envIDis e)
  decide (envVMin e ≤ blkVMin b ∧ blkVMin b < blkVMax b ∧ blkVMax b ≤ envVMax e
      ∧ envTMin e ≤ blkTMin b ∧ blkTMin b < blkTMax b ∧ blkTMax b ≤ envTMax e
      ∧ blkTMin b ≤ blkTChg b ∧ blkTChg b ≤ blkTMax b ∧ 0 ≤ blkICold b ∧ blkICold b ≤ envIChg e
      ∧ 100 ≤ blkPlausAbs b ∧ blkPlausAbs b ≤ 100000 ∧ blkPlausRel b ≤ 200
      ∧ 1000 ≤ blkPlausV b ∧ blkPlausV b ≤ 100000 ∧ blkIsoMin b ≤ 65534)
    && decide (blkBlind b ≤ 100000 ∧ 1 ≤ blkTBlind b ∧ blkTBlind b ≤ 60 ∧ 1 ≤ blkSingle b ∧ blkSingle b ≤ 3600
      ∧ 1 ≤ blkDegraded b ∧ blkDegraded b ≤ 720)
    && ((List.range 12).all fun f => decide (1 ≤ blkConf b f ∧ blkConf b f ≤ 16))
    && ((List.range 7).all fun i => decide (blkSiFunc b i ≤ 1))
    && ((List.range 8).all fun i => decide (blkSiType b i ≤ 1 ∧ 10 ≤ blkSiDiscrep b i ∧ blkSiDiscrep b i ≤ 500))
    && ((List.range 24).all fun x => decide (blkSoKind b x ≤ 2))
    && (strings.all fun n => decide (1 ≤ blkIChg b n ∧ blkIChg b n ≤ envIChg e ∧ 1 ≤ blkIDis b n ∧ blkIDis b n ≤ envIDis e
      ∧ 11 * big ≤ 10000 * (blkDciFs b n : Int) ∧ blkDciFs b n ≤ 20000))

/-- The chain settings of a block agree with those under the writes `w` (R362, R373). -/
def Module.blockChains (w : Tab (Option Nat)) (b : Bytes) (m : Module) : Bool :=
  let en := m.settingIn w 0x0200
  decide (blkStrings b = en) && (List.range 16).all fun n =>
    decide (blkMonitors b n = if en.testBit n then m.settingIn w (0x0210 + n) else 0)

/-- A block passes R362. -/
def Module.blockOk (b : Bytes) (m : Module) : Bool :=
  match m.fuse? 0 with
  | none => false
  | some e =>
    decide (b.length = 512 ∧ b.take 5 = [0x53, 0x42, 0x4C, 0x4B, 0x01] ∧ blkCrc b = crc32 (b.take 508)
        ∧ byteAt b 5 = m.methodCode ∧ (m.switchMode = true ∨ byteAt b 6 = 0) ∧ byteAt b 6 ≤ 15 ∧ field b 8 4 = m.plantId)
      && m.blockChains [] b && blockBounds e b m.enabledChains
      && decide (blkDciMask b &&& m.setting 0x0200 = blkDciMask b) && !m.tpExceeds [] (blkBlind b)

/-- A profile set passes R368. -/
def profileEmpty (b : Bytes) : Bool := decide (b.take 4 = zeros 4)
def Module.profilesOk (ps : List Bytes) (m : Module) : Bool :=
  ((List.range 16).all fun i =>
    let b := ps.getD i []
    profileEmpty b || (m.blockOk b && decide (byteAt b 5 = 2 ∧ byteAt b 6 = i))) && ps.any fun b => !profileEmpty b

/-! ### Loads (R363, R368) -/

/-- Arming, disarming or a fuse burn runs (R365). -/
def Module.comBusy (m : Module) : Bool :=
  m.com.arming.isSome || m.com.burn.isSome || m.com.disarming.any fun i => (m.outst? i).isSome

/-- The checks of R384 down to BUSY for a command of COMMISSION; `flash`: it writes flash or fuses. -/
def Module.comChecks (lenOk ok : Bool) (allowed flash : Bool) (m : Module) (k : Resp) : Resp :=
  if !lenOk then .fail .badLength m
  else if !ok then .fail .badParam m
  else if !allowed then .fail .denied m
  else if m.sys.mode ≠ .commission then .fail .wrongMode m
  else if m.comBusy || (flash && !m.flashOk) then .fail .busy m
  else k

def cmdSafetyBlockLoad (r : Req) (m : Module) : Resp :=
  m.comChecks (decide (r.payload.length = 8)) true (!m.lacks r.ctx .engineer) false <|
    match m.readPages (field r.payload 0 4) 512 with
    | .error st => .fail st m
    | .ok b =>
      if !m.safetyFused then .fail .safetyLocked m
      else if !m.blockOk b then .fail .badParam m
      else .late [] ((m.onCom fun c => { c with staged := some b }).raise 141)
def execSafetyBlockLoad (r : Req) (s : State) : Host.Outcome State Fault Refusal :=
  s.go (·.request 0x0401 cmdSafetyBlockLoad r)

/-- The armed block is removed or lost (R373): event 144. -/
def Module.disarm (m : Module) : Module :=
  let had := m.com.armed.isSome || m.com.held.isSome
  let old := m
  let m := m.onCom fun c =>
    { c with armed := none, held := none, copyA := { ok := true, seq := c.copyA.seq, armed := none }
             copyB := { ok := true, seq := c.copyB.seq, armed := none } }
  (Module.siRejudge old m).raiseIf had 144

def cmdSafetyProfilesLoad (r : Req) (m : Module) : Resp :=
  m.comChecks (decide (r.payload.length = 8)) true (!m.lacks r.ctx .safety) true <|
    match m.readPages (field r.payload 0 4) 8192 with
    | .error st => .fail st m
    | .ok b =>
      let ps := chunks 512 16 b
      if !m.safetyFused then .fail .safetyLocked m
      else if !m.profilesOk ps then .fail .badParam m
      else
        let m := m.onCom fun c =>
          let n := max c.profA.seq c.profB.seq + 1
          { c with profiles := some ps, profA := { ok := true, seq := n, set := ps }, profB := { ok := true, seq := n, set := ps } }
        .late [] (m.disarm.raise 141)
def execSafetyProfilesLoad (r : Req) (s : State) : Host.Outcome State Fault Refusal :=
  s.go (·.request 0x0405 cmdSafetyProfilesLoad r)

/-! ### Arming and disarming (R363 to R369) -/

def Module.profile (i : Nat) (m : Module) : Bytes := (m.com.profiles.getD []).getD i []

/-- Both lanes read SW1 to SW4 as the profile and SW5 to SW8 as off, and see the seal contact closed (R369, R371). -/
def Module.switchesShow (p : Nat) (m : Module) : Bool :=
  decide (m.com.swA = p ∧ m.com.swB = p) && m.com.sealA && m.com.sealB

/-- COMMISSION_ARM refused with SAFETY_LOCKED: event 143. -/
def Module.armRefused (m : Module) : Resp := .fail .safetyLocked (m.raise 143)

def cmdCommissionArm (r : Req) (m : Module) : Resp :=
  let crc := field r.payload 0 4
  let p := byteAt r.payload 4
  let pOk := if m.methodCode = 1 then decide (p = 0) else if m.methodCode = 2 then decide (p ≤ 15) else true
  m.comChecks (decide (r.payload.length = 8)) pOk (!m.lacks r.ctx .safety) true <|
    if !m.safetyFused then m.armRefused
    else
      let src := if m.switchMode then some (m.profile p) else m.com.staged
      match src with
      | none => m.armRefused
      | some b =>
        if !m.blockOk b then .fail .badParam m
        else if crc ≠ blkCrc b ∨ (m.switchMode && !m.switchesShow p) = true then m.armRefused
        else .waitFixed [] [] (m.onCom fun c => { c with arming := some { cmd := m.thisId, block := b, profile := p } })
def execCommissionArm (r : Req) (s : State) : Host.Outcome State Fault Refusal := s.go (·.request 0x0403 cmdCommissionArm r)

/-- The lanes take their copies of the DCI calibration (R366). -/
def Module.laneCal (m : Module) : Module :=
  m.onSlv fun v => { v with gains := (List.range 16).map fun n => tabGet 1000000 m.hk.dciGain n
                            scales := (List.range 16).map fun n => m.setting (0x0C10 + n) }

/-- ARM_COMMIT (R364, R365): `okA`, `okB` whether lanes A and B accept their copies. -/
def Module.armCommit (okA okB : Bool) (m : Module) : Module :=
  match m.com.arming with
  | none => m
  | some a =>
    let m := m.onCom fun c => { c with arming := none }
    if m.sys.mode ≠ .commission then m.finish a.cmd .wrongMode []
    else if !okA || !okB then
      let m := if okA then m else m.laneFail 0 3
      let m := if okB then m else m.laneFail 1 3
      m.declared.finish a.cmd .internal []
    else
      let x : Armed := { block := a.block, profile := a.profile, pick := m.pck.index }
      let sw := m.switchMode
      let old := m
      let m := m.onCom fun c =>
        let n := max c.copyA.seq c.copyB.seq + 1
        { c with armed := some x, held := none, staged := none, copyA := { ok := true, seq := n, armed := some x }
                 copyB := { ok := true, seq := n, armed := some x }, sealBroken := c.sealBroken && !sw }
      ((Module.siRejudge old m).laneCal.raise 142).finish a.cmd .done []
def execArmCommit (okA okB : Bool) (s : State) : Host.Outcome State Fault Refusal := s.go (·.armCommit okA okB)

/-- SAFETY_DISARM: the block is removed at the next pick boundary. -/
def cmdSafetyDisarm (r : Req) (m : Module) : Resp :=
  m.comChecks (decide (r.payload.length = 0)) true (!m.lacks r.ctx .safety) true <|
    .wait [] [] (m.onCom fun c => { c with disarming := some m.thisId })
def execSafetyDisarm (r : Req) (s : State) : Host.Outcome State Fault Refusal := s.go (·.request 0x0404 cmdSafetyDisarm r)

/-- Its effect there (R729). -/
def Module.applyDisarm (id : Nat) (m : Module) : Module :=
  let m := m.onCom fun c => { c with disarming := none }
  if m.sys.mode ≠ .commission then m.finish id .wrongMode [] else m.disarm.finish id .done []

/-! ### Reads (R382, R383) -/

/-- PROFILE of the armed block in switch mode. -/
def Module.armedProfile (m : Module) : Option Nat := if m.switchMode then m.com.armed.map (·.profile) else none

def Module.safetyStatus (m : Module) : Bytes :=
  let armed := m.com.armed
  let flags := bit (m.fuse? 0).isSome + 2 * bit (m.fuse? 2).isSome + 4 * bit (m.fuse? 3).isSome + 8 * bit m.com.fuseEn
    + 16 * bit m.com.staged.isSome + 32 * bit armed.isSome + 64 * bit m.com.sealBroken + 128 * bit (m.com.sealA && m.com.sealB)
  let crcOf := fun (b : Option Bytes) => match b with
    | some b => blkCrc b
    | none => 0
  leBytes 1 m.methodCode ++ leBytes 1 flags ++ leBytes 1 (m.armedProfile.getD 0xFF) ++ leBytes 1 m.com.swA
    ++ leBytes 4 (crcOf m.block) ++ leBytes 4 (crcOf m.com.staged) ++ leBytes 4 ((m.block.map fun b => field b 12 4).getD 0)
    ++ leBytes 4 m.plantId ++ leBytes 1 (maskOf 4 fun i => (m.roleKey i).isSome) ++ zeros 1
    ++ leBytes 2 (tabGet ({} : RoleKey) m.com.keys 3).version ++ leBytes 8 ((armed.map (·.pick)).getD 0)

def cmdSafetyStatusGet (r : Req) (m : Module) : Resp := m.basic r 0 .observe (.done m.safetyStatus m)
def execSafetyStatusGet (r : Req) (s : State) : Host.Outcome State Fault Refusal :=
  s.go (·.request 0x0400 cmdSafetyStatusGet r)

def cmdSafetyBlockGet (r : Req) (m : Module) : Resp :=
  let src := byteAt r.payload 0
  let p := byteAt r.payload 1
  let b := if src = 0 then m.block else if src = 1 then m.com.staged
    else (some (m.profile p)).filter fun b => !profileEmpty b && decide (b.length = 512)
  m.checks r 4 (decide (src ≤ 2 ∧ p ≤ 15)) .observe <|
    match b with
    | some b => .done b m
    | none => .fail .badParam m
def execSafetyBlockGet (r : Req) (s : State) : Host.Outcome State Fault Refusal := s.go (·.request 0x0402 cmdSafetyBlockGet r)

def cmdFuseRead (r : Req) (m : Module) : Resp :=
  let g := byteAt r.payload 0
  m.checks r 4 (decide (g < 8)) .observe (.done ((m.fuse? g).getD (zeros (fuseLen g))) m)
def execFuseRead (r : Req) (s : State) : Host.Outcome State Fault Refusal := s.go (·.request 0x0407 cmdFuseRead r)

/-! ### Burning fuses (R355, R356) -/

def cmdFuseProgram (r : Req) (m : Module) : Resp :=
  let g := byteAt r.payload 0
  let v := r.payload.drop 4
  let lenOk := decide (4 ≤ r.payload.length) && (decide (7 < g) || decide (v.length = fuseLen g))
  m.comChecks lenOk (decide (g < 8)) (!m.lacks r.ctx .safety) true <|
    if !fuseOk g v then .fail .badParam m
    else if !m.com.fuseEn || (m.fuse g).state ≠ .blank then .fail .safetyLocked m
    else .waitFixed [] [] (m.onCom fun c => { c with burn := some { cmd := m.thisId, group := g, value := v } })
def execFuseProgram (r : Req) (s : State) : Host.Outcome State Fault Refusal := s.go (·.request 0x0406 cmdFuseProgram r)

/-- A burn ends SPOILED: event 147. A revoke fuse is one bit and is then left as it was. -/
def Module.burnSpoil (b : Burn) (st : Status) (m : Module) : Module :=
  let m := m.onCom fun c => { c with burn := none }
  let m := if b.group < 8 then m.putFuse b.group { state := .spoiled, value := [] } else m
  (m.raise 147).finish b.cmd st []

/-- FUSE_BURN_COMPLETE: the valid bit, or the revoke fuse (R694), is burnt, or the read-back differs. -/
def Module.burnDone (ok : Bool) (m : Module) : Module :=
  match m.com.burn with
  | none => m
  | some b =>
    if !m.flashOk then m
    else if !ok then m.burnSpoil b .internal
    else if 8 ≤ b.group then
      let m := m.onCom fun c => { c with burn := none, revoked := c.revoked ||| 2 ^ (b.group - 8) }
      (m.raise 462).finish b.cmd .done []
    else
      let m := (m.onCom fun c => { c with burn := none }).putFuse b.group { state := .programmed, value := b.value }
      (m.raise 146).finish b.cmd .done []
def execFuseBurnComplete (ok : Bool) (s : State) : Host.Outcome State Fault Refusal := s.go (·.burnDone ok)

/-- FUSE_EN_ASSERT (R359, R557, R565): outside COMMISSION only event 149; in COMMISSION a head releases, and local mode may
begin. -/
def Module.fuseEnOn (m : Module) : Module :=
  let m := m.onCom fun c => { c with fuseEn := true }
  if m.sys.mode ≠ .commission then m.raise 149 else m.stopHead.judgeLocal
def execFuseEnAssert (s : State) : Host.Outcome State Fault Refusal := s.go Module.fuseEnOn

/-- FUSE_EN_RELEASE (R356): a burn that runs is spoiled. -/
def Module.fuseEnOff (m : Module) : Module :=
  let m := m.onCom fun c => { c with fuseEn := false }
  let m := match m.com.burn with
    | some b => m.burnSpoil b .safetyLocked
    | none => m
  m.judgeLocal
def execFuseEnRelease (s : State) : Host.Outcome State Fault Refusal := s.go Module.fuseEnOff

/-! ### Seal and switches (R367, R370) -/

/-- A break is recorded, once: event 145; R30 takes DISPATCH or FORMATION to STANDBY. -/
def Module.sealRecord (m : Module) : Module :=
  if m.com.sealBroken then m
  else ((m.onCom fun c => { c with sealBroken := true }).onSys fun y => { y with sealSeen := true }).raise 145

/-- SEAL_CONTACT_CHANGE: one lane sees the contact open or close; the 20 ms run while either sees it open. -/
def Module.sealContact (lane : Nat) (closed : Bool) (m : Module) : Module :=
  m.onCom fun c =>
    let c := if lane = 0 then { c with sealA := closed } else { c with sealB := closed }
    { c with sealTimer := !(c.sealA && c.sealB) }
def execSealContactChange (lane : Nat) (closed : Bool) (s : State) : Host.Outcome State Fault Refusal :=
  s.go (·.sealContact lane closed)

/-- SEAL_BREAK: open for 20 ms, in switch mode. -/
def execSealBreak (s : State) : Host.Outcome State Fault Refusal :=
  s.go fun m => if m.com.sealTimer && m.switchMode then m.sealRecord else m

/-- SEAL_SWITCH_CHANGE: a lane's reading of SW1 to SW8 changes. -/
def Module.switchChange (lane sw : Nat) (m : Module) : Module :=
  let was := if lane = 0 then m.com.swA else m.com.swB
  let m := m.onCom fun c => if lane = 0 then { c with swA := sw } else { c with swB := sw }
  if was ≠ sw ∧ m.switchMode = true ∧ m.com.armed.isSome = true then m.sealRecord else m
def execSealSwitchChange (lane sw : Nat) (s : State) : Host.Outcome State Fault Refusal := s.go (·.switchChange lane sw)

/-! ### Role keys (R375 to R378) -/

/-- Contexts of a role are closed (R377). -/
def Module.closeRole (role : Nat) (m : Module) : Module :=
  ((m.cmd.ctxs.filter fun p => p.2.any fun c => c.role = some role).map (·.1)).foldl (fun m c => m.closeCtx c) m

/-- The key a KEY_PROVISION carries, if R376 accepts it. -/
def Module.provisioned (r : Req) (m : Module) : Option Bytes :=
  let p := r.payload
  let role := byteAt p 0
  let wrap := byteAt p 1
  let ver := field p 2 2
  let nonce := (p.drop 4).take 12
  let ct := (p.drop 16).take 32
  let tag := p.drop 48
  let safety := m.roleKey 3
  let allowed := match safety with
    | some _ => !m.lacks r.ctx .safety
    | none => decide (role = 3 ∧ wrap = 0) && m.com.fuseEn
  if !allowed || decide (ver ≤ (tabGet ({} : RoleKey) m.com.keys role).version) then none
  else if wrap = 0 then Config.deviceOpen nonce [] ct tag
  else safety.bind fun k => Config.gcmOpen k nonce [] ct tag

def cmdKeyProvision (r : Req) (m : Module) : Resp :=
  let role := byteAt r.payload 0
  let key := m.provisioned r
  m.comChecks (decide (r.payload.length = 64)) (decide (role ≤ 3 ∧ byteAt r.payload 1 ≤ 1)) key.isSome true <|
    .lateThen [] (m.onCom fun c =>
      { c with keys := tabPut {} c.keys role { key := key, version := field r.payload 2 2 } })
      fun m => (m.closeRole role).raise 148
def execKeyProvision (r : Req) (s : State) : Host.Outcome State Fault Refusal := s.go (·.request 0x0408 cmdKeyProvision r)

def cmdKeyRetire (r : Req) (m : Module) : Resp :=
  let role := byteAt r.payload 0
  m.comChecks (decide (r.payload.length = 4)) (decide (role < 3)) (!m.lacks r.ctx .safety) true <|
    if (m.roleKey role).isNone then .done [] m
    else .lateThen [] (m.onCom fun c => { c with keys := tabUpd {} c.keys role fun k => { k with key := none } })
      fun m => (m.closeRole role).raise 148
def execKeyRetire (r : Req) (s : State) : Host.Outcome State Fault Refusal := s.go (·.request 0x0409 cmdKeyRetire r)

/-! ### Output requests (R379) -/

def Module.soMode (m : Module) : Bool := decide (m.sys.mode ∈ [.standby, .dispatch, .formation])

def cmdSoRequest (r : Req) (m : Module) : Resp :=
  let set_ := field r.payload 0 4 % 2 ^ 24
  let clr := field r.payload 4 4 % 2 ^ 24
  if r.payload.length ≠ 8 then .fail .badLength m
  else if m.lacks r.ctx .operate then .fail .denied m
  else if !m.soMode then .fail .wrongMode m
  else if set_ &&& clr ≠ 0 ∨ (maskList 24 (set_ ||| clr)).any (fun x => decide (m.soKind x ≠ 2)) then .fail .badParam m
  else .wait [] [] m
def execSoRequest (r : Req) (s : State) : Host.Outcome State Fault Refusal := s.go (·.request 0x040A cmdSoRequest r)

/-- Its effect at the pick boundary (R379, R729): the mode and the block of an output are judged there. -/
def Module.applySoRequest (o : Outst) (m : Module) : Module :=
  if !m.soMode then m.finish o.id .wrongMode []
  else if field o.payload 0 4 % 2 ^ 24 &&& m.slv.blockHost ≠ 0 then m.finish o.id .safetyLocked []
  else (m.setReqHost (field o.payload 0 4 % 2 ^ 24) (field o.payload 4 4 % 2 ^ 24)).finish o.id .done []

/-! ### Registers (R385 to R389) -/

def Module.comReg (off : Nat) (m : Module) : Option Nat :=
  let e := (m.fuse? 0).getD (zeros 20)
  if off = 0x080200 then some (m.methodCode + 4 * bit (m.fuse? 0).isSome + 8 * bit (m.fuse? 2).isSome
    + 16 * bit (m.fuse? 3).isSome + 32 * bit m.com.staged.isSome + 64 * bit m.com.sealBroken + 128 * bit m.com.fuseEn
    + 256 * m.armedProfile.getD 0)
  else if off = 0x080204 then some (field e 0 4)
  else if off = 0x080208 then some (field e 4 4)
  else if off = 0x08020C then some (field e 8 4)
  else if off = 0x080210 then some (field e 12 4)
  else if off = 0x080214 then some (field e 16 4)
  else if off = 0x080218 then some m.plantId
  else if off = 0x08021C then some ((m.com.staged.map blkCrc).getD 0)
  else if off = 0x080220 then some (m.com.swA + 256 * m.com.swB + 2 ^ 16 * bit (m.com.sealA && m.com.sealB)
    + 2 ^ 17 * bit m.com.sealBroken)
  else if off = 0x080224 then some ((List.range 8).foldl (fun a g => a + 4 ^ g * fuseCode (m.fuse g).state) 0)
  else if off = 0x080228 then
    some (maskOf 4 (fun i => (m.roleKey i).isSome) + 65536 * (tabGet ({} : RoleKey) m.com.keys 3).version)
  else if off = 0x08022C then some ((m.block.map fun b => field b 12 4).getD 0)
  else none

end Sys2Proof.Machine
end

