-- ==== Sys2Proof/Machine/CanOps.lean ====
section
/-! DEFINITION. Machine/CanOps.lean: the CAN controllers as operations: the map, signals, queueing and sending, mailboxes,
controller states, plant time on CAN (R577 to R600). -/
namespace Sys2Proof.Machine

def Module.cann (n : Nat) (m : Module) : Can := if n = 0 then m.can.c0 else m.can.c1
def Module.updCan (n : Nat) (f : Can → Can) (m : Module) : Module :=
  m.onCan fun c => if n = 0 then { c with c0 := f c.c0 } else { c with c1 := f c.c1 }

/-- A setting of controller `n` (R601). -/
def Module.canSet (n i : Nat) (m : Module) : Nat := m.setting (0x0B00 + 0x10 * n + i)

/-- Events (R612) and counters of a controller. -/
def canEv (n j : Nat) : Nat := 352 + 16 * n + j
def Module.canEvent (n j : Nat) (m : Module) : Module :=
  if j ∈ [4, 5, 7, 13] then m.raiseOnce (canEv n j) else m.raise (canEv n j)
def canCnt (n i : Nat) : Nat := 0x0E0020 + 0x8000 * n + 4 * i

def canStateCode : CanState → Nat
  | .off => 0 | .errorActive => 1 | .errorPassive => 2 | .busOff => 3 | .busOffHeld => 4 | .listen => 5 | .detecting => 6

/-- Change the state of a controller: event 0 (R579). -/
def Module.canTo (n : Nat) (st : CanState) (m : Module) : Module :=
  if (m.cann n).state = st then m else (m.updCan n fun c => { c with state := st }).canEvent n 0

/-- ERROR_ACTIVE or ERROR_PASSIVE: the controller sends (R580). -/
def Can.sends (c : Can) : Bool := decide (c.state = .errorActive ∨ c.state = .errorPassive)
/-- It receives (R579, R581). -/
def Can.receives (c : Can) : Bool := c.sends || decide (c.state = .listen ∨ c.state = .detecting)

/-! ### The map (R583 to R587) -/

def mapLen : Nat := 11296

/-- The map in force; an empty setting reads as zeros (R512). -/
def Module.canMap (m : Module) : Bytes := (tabGet none m.set.bulk 0x0B60).getD (zeros mapLen)

/-- Entries of the map: a filter, a mailbox, a receive and a transmit signal. -/
def mapFilter (mp : Bytes) (n f : Nat) : Bytes := (mp.drop (32 + 512 * n + 16 * f)).take 16
def mapBox (mp : Bytes) (n k : Nat) : Bytes := (mp.drop (1056 + 1024 * n + 16 * k)).take 16
def mapRx (mp : Bytes) (s : Nat) : Bytes := (mp.drop (3104 + 16 * s)).take 16
def mapTx (mp : Bytes) (s : Nat) : Bytes := (mp.drop (7200 + 16 * s)).take 16

/-- Bit positions of a signal, the least significant first (R586). -/
def beBits : Nat → Nat → List Nat
  | 0, _ => []
  | n + 1, b => b :: beBits n (if b % 8 = 0 then b + 15 else b - 1)
def sigBits (e : Bytes) : List Nat :=
  let start := field e 4 2
  let len := byteAt e 6
  if byteAt e 7 = 0 then (List.range len).map (start + ·) else (beBits len start).reverse

def bitAt (d : Bytes) (b : Nat) : Bool := (byteAt d (b / 8)).testBit (b % 8)

/-- The signal lies wholly within `n` data bytes. -/
def sigFits (e : Bytes) (n : Nat) : Bool := (sigBits e).all (· < 8 * n)

/-- The raw value of a signal in a frame. -/
def sigRaw (e d : Bytes) : Nat := (sigBits e).foldr (fun b a => bit (bitAt d b) + 2 * a) 0

/-- The value of a received signal (R586): raw × SCALE + OFFSET, or the FP32 pattern itself. -/
def sigValue (e d : Bytes) : F32 :=
  let raw := sigRaw e d
  let lin := fun x => fAdd (fMul x (fField e 8)) (fField e 12)
  match byteAt e 3 with
  | 0 => lin (fOfNat raw)
  | 1 => lin (fOfInt (sInt (byteAt e 6) raw))
  | _ => BitVec.ofNat 32 raw

/-- The raw field of a value to send (R586): rounded to nearest, saturated; `x` where the quotient is no number. -/
def sigEncode (e : Bytes) (v : F32) (x : Nat) : Nat :=
  let len := byteAt e 6
  if byteAt e 3 = 2 then v.toNat
  else
    let q := fDiv (fSub v (fField e 12)) (fField e 8)
    let lo : Int := if byteAt e 3 = 1 then -((2 ^ (len - 1) : Nat) : Int) else 0
    let hi : Int := if byteAt e 3 = 1 then ((2 ^ (len - 1) : Nat) : Int) - 1 else ((2 ^ len : Nat) : Int) - 1
    if fIsNaN q then x % 2 ^ len
    else if fIsInf q then ofInt len (if fSign q then lo else hi)
    else ofInt len (max lo (min hi (fToInt q 1 1)))

/-- Set the bits of a signal in a frame. -/
def putBits : List Nat → Nat → Bytes → Bytes
  | [], _, d => d
  | b :: bs, v, d =>
    let o := byteAt d (b / 8)
    let o := if v % 2 = 1 then o ||| 2 ^ (b % 8) else o - (o &&& 2 ^ (b % 8))
    putBits bs (v / 2) (splice d (b / 8) (leBytes 1 o))

def canFdLens : List Nat := [0, 1, 2, 3, 4, 5, 6, 7, 8, 12, 16, 20, 24, 32, 48, 64]
/-- Data lengths of R585. -/
def canLen (fdf : Bool) (l : Nat) : Bool := if fdf then decide (l ∈ canFdLens) else decide (l ≤ 8)

/-! ### Identifiers (R434, R595, R602) -/

/-- A reference channel is in use (R431), and its setting: identifier, controller, BRS. -/
def Module.chUsed (c : Nat) (m : Module) : Bool := (List.range 4).any fun k => m.chainEnabled (4 * c + k)
def Module.chSet (c : Nat) (m : Module) : Nat := m.setting (0x0B40 + c)
def Module.chCan (c : Nat) (m : Module) : Nat := bits (m.chSet c) 30 30
def Module.chBrs (c : Nat) (m : Module) : Bool := (m.chSet c).testBit 31
/-- Channels in use on controller `n`. -/
def Module.chsOf (n : Nat) (m : Module) : List Nat := (List.range 4).filter fun c => m.chUsed c && m.chCan c = n

/-- An identifier with IDE as one number. -/
def idWord (w : Nat) : Nat := w % 2 ^ 30
/-- T, T + 1, the reference identifiers assigned to controller `n`, and the stop identifier. -/
def Module.canIds (n : Nat) (m : Module) : List Nat :=
  [m.canSet n 5, m.canSet n 5 + 1, m.canSet n 7] ++
    ((List.range 4).filter fun c => m.chCan c = n).map fun c => idWord (m.chSet c)

/-- The order of arbitration (R592): the 11 upper bits first. -/
def arbKey (w : Nat) : Nat :=
  if w.testBit 29 then w % 2 ^ 29 / 2 ^ 18 * 2 ^ 19 + 2 ^ 18 + w % 2 ^ 18 else w % 2 ^ 11 * 2 ^ 19

/-! ### Transmitting (R592 to R596) -/

/-- Queue a frame; one of the same kind not yet sent is replaced, which for a reference channel is counted, event 7
(R593, R594). -/
def Module.canQueue (n : Nat) (k : TxKind) (w : Nat) (d : Bytes) (m : Module) : Module :=
  let old := (m.cann n).queue.any fun x => x.kind = k
  let m := match k, old with
    | .ref _, true => (m.bump (canCnt n 5)).canEvent n 7
    | _, _ => m
  m.updCan n fun c =>
    { c with queue := (c.queue.filter fun x => x.kind ≠ k) ++ [{ kind := k, word0 := w, data := d, at_ := m.sys.clock }] }

/-- A stop message is queued and not acknowledged. -/
def Can.stopping (c : Can) : Bool := c.queue.any fun x => x.kind = .stop

/-- Frames offered for arbitration at an instant: reference frames are held behind a stop message (R595). -/
def Can.offered (sof : Nat) (c : Can) : List Tx :=
  c.queue.filter fun x => decide (x.at_ ≤ sof) && !(c.stopping && match x.kind with
    | .ref _ => true
    | _ => false)

/-- The pending frame with the lowest identifier (R592). -/
def lowestTx : List Tx → Option Tx
  | [] => none
  | x :: xs => match lowestTx xs with
    | some y => if arbKey y.word0 < arbKey x.word0 then some y else some x
    | none => some x

/-- What an acknowledged frame brings about. -/
def Module.canSent (n sof : Nat) (x : Tx) (m : Module) : Module :=
  match x.kind with
  | .stop => m.canEvent n 8
  | .sync =>
    let ts := m.plantAt sof
    m.updCan n fun c => { c with syncAt := some ts, lastSeq := byteAt x.data 0, timeState := 1 }
  | .host id => m.finish id .done []
  | _ => m

/-- CAN_FRAME_ACKED (R592): of the frame whose start of frame was sent at `sof`; the next pending frame is then offered. -/
def Module.canAcked (n sof t : Nat) (m : Module) : Module :=
  let m := m.tick t
  let c := m.cann n
  if m.inBoot || !c.sends || c.queue = [] then m
  else
    let m := (m.bump (canCnt n 1)).updCan n fun c => { c with tec := c.tec - 1 }
    let m := if (m.cann n).state = .errorPassive && decide ((m.cann n).tec ≤ 127 ∧ (m.cann n).rec_ ≤ 127) then
        m.canTo n .errorActive else m
    match lowestTx (c.offered sof) with
    | none => m
    | some x =>
      ((m.updCan n fun c => { c with queue := c.queue.filter fun y => y.kind ≠ x.kind }).emit
        (.can n x.word0 x.data)).canSent n sof x

/-- The data of a transmit mailbox's frame: its signals over zeros (R586); `x` stands for the raw field of no number. -/
def Module.txData (n k len x : Nat) (m : Module) : Bytes :=
  let mp := m.canMap
  (List.range 256).foldl (fun d s =>
    let e := mapTx mp s
    if byteAt e 0 = 1 ∧ byteAt e 1 = n ∧ byteAt e 2 = k then
      putBits (sigBits e) (match tabGet none m.can.tx s with
        | some v => sigEncode e v x
        | none => 0) d
    else d) (zeros len)

/-- CAN_SIGNAL_PERIOD (R593): the frame of a transmit mailbox is queued. -/
def Module.canPeriod (n k : Nat) (m : Module) : Module :=
  let e := mapBox m.canMap n k
  let st := (m.cann n).state
  if m.inBoot || byteAt e 0 ≠ 3 || decide (st = .off ∨ st = .listen ∨ st = .detecting) then m
  else
    let fl := byteAt e 1
    let w := field e 4 4 % 2 ^ 29 + 2 ^ 29 * bit (fl.testBit 3) + 2 ^ 30 * bit (fl.testBit 1) + 2 ^ 31 * bit (fl.testBit 2)
    (m.canQueue n (.signal k) w (m.txData n k (field e 2 2) (Config.freeNat m.free))).useFree

/-- Queue the stop messages at the entry into SAFE-HOLD (R36, R595). -/
def Module.canStop (cause : Nat) (m : Module) : Module :=
  [0, 1].foldl (fun m n =>
    let cs := m.chsOf n
    match cs with
    | [] => m
    | c :: _ =>
      let mask := cs.foldl (fun a c => a + 2 ^ c) 0
      m.canQueue n .stop (m.canSet n 7 + 2 ^ 30 + 2 ^ 31 * bit (m.chBrs c))
        ([0x81] ++ leBytes 1 mask ++ leBytes 1 cause ++ zeros 1 ++ leBytes 4 m.pck.index)) m

/-- A controller sends again: a stop message that SAFE-HOLD no longer backs is dropped (R595). -/
def Module.canBack (n : Nat) (m : Module) : Module :=
  if m.sys.mode = .safeHold then m
  else m.updCan n fun c => { c with queue := c.queue.filter fun x => x.kind ≠ .stop }

/-! ### Controller states (R579 to R582) -/

/-- Bus-offs within the last 60 s. -/
def Module.busOffs (n : Nat) (m : Module) : Nat :=
  ((m.cann n).offs.filter fun t => decide (m.sys.clock < t + secs 60)).length

/-- BUS_OFF (R579): event 1; the eighth within 60 s holds it. -/
def Module.goBusOff (n : Nat) (m : Module) : Module :=
  let t := m.sys.clock
  let m := (m.updCan n fun c => { c with tec := 255, offs := (t :: c.offs).take 8, monitor := false, delayAt := t }).bump (canCnt n 4)
  let m := (m.canTo n .busOff).canEvent n 1
  if 8 ≤ m.busOffs n then m.canTo n .busOffHeld else m

/-- A bus error (R579): the counters after it, LAST_ERR and its phase; `tec` above 255 is a bus-off. -/
def Module.canError (n tec rec_ err : Nat) (inData : Bool) (m : Module) : Module :=
  let c := m.cann n
  if !c.receives then m
  else
    let m := m.bump (canCnt n 7)
    let m := m.updCan n fun c =>
      { c with lastErr := err, lastInData := inData,
               detect := c.detect.map fun d => { d with good := 0 } }
    if !c.sends then m
    else
      let m := m.updCan n fun c => { c with tec := tec, rec_ := rec_ }
      if 255 < tec then m.goBusOff n
      else m.canTo n (if 127 < tec ∨ 127 < rec_ then .errorPassive else .errorActive)

/-- CAN_BUSOFF_DELAY_END (R579): recovery monitoring starts. -/
def Module.busOffDelay (n t : Nat) (m : Module) : Module :=
  let m := m.tick t
  let c := m.cann n
  if c.state = .busOff ∧ c.delayAt + msec (m.canSet n 8) ≤ t then m.updCan n fun c => { c with monitor := true } else m

/-- CAN_BUSOFF_RECOVERED (R579): 128 sequences of 11 recessive bits. -/
def Module.busOffEnd (n : Nat) (m : Module) : Module :=
  let c := m.cann n
  if c.state = .busOff && c.monitor then
    (((m.updCan n fun c => { c with tec := 0, rec_ := 0, monitor := false }).canTo n .errorActive).canEvent n 2).canBack n
  else m

/-- The controller's configuration comes into force (R579): at the load of settings in BOOT, or through OFF at a commit
that changes it. -/
def Module.canInit (n : Nat) (m : Module) : Module :=
  let m := match (m.cann n).detect with
    | some d => (m.canEvent n 12).finish d.cmd .timeout []
    | none => m
  let m := (m.canTo n .off).updCan n fun c =>
    { c with queue := [], detect := none, tec := 0, rec_ := 0, monitor := false }
  let en := m.canSet n 0
  if en = 1 then m.canTo n .errorActive else if en = 2 then m.canTo n .listen else m

/-- Detection ends (R582): the results stand, the state before it returns, event 12, and the command completes. -/
def Module.detectEnd (n : Nat) (st : Option Status) (m : Module) : Module :=
  match (m.cann n).detect with
  | none => m
  | some d =>
    let m := ((m.updCan n fun c => { c with detect := none }).canTo n d.before).canEvent n 12
    let c := m.cann n
    match st, c.nom with
    | some s, _ => m.finish d.cmd s []
    | none, none => m.finish d.cmd .timeout []
    | none, some k => m.finish d.cmd .done (leBytes 1 k ++ leBytes 1 (c.dataRate.getD 0xFF) ++ zeros 2)

/-- A frame arrives while DETECTING (R582): three in a row find a rate; a frame with BRS leads on to the data rate, at which
frames with BRS alone are received. -/
def Module.detectFrame (n : Nat) (brs : Bool) (m : Module) : Module :=
  match (m.cann n).detect with
  | none => m
  | some d =>
    let c := m.cann n
    if d.dataPhase then
      if !brs then m
      else if d.good + 1 ≥ 3 then (m.updCan n fun c => { c with dataRate := some d.code }).detectEnd n none
      else m.updCan n fun c => { c with detect := some { d with good := d.good + 1 } }
    else if c.nom.isSome then
      if brs then m.updCan n fun c => { c with detect := some { d with dataPhase := true, code := 3, good := 0 } } else m
    else if d.good + 1 ≥ 3 then
      m.updCan n fun c => { c with nom := some d.code, detect := some { d with good := 0 } }
    else m.updCan n fun c => { c with detect := some { d with good := d.good + 1 } }

/-- CAN_RATE_TRY_END (R582): 500 ms have passed; the next code, or the end after 5 s or without a frame carrying BRS at
the found nominal rate. -/
def Module.detectTry (n t : Nat) (m : Module) : Module :=
  let m := m.tick t
  match (m.cann n).detect with
  | none => m
  | some d =>
    if d.start + secs 5 ≤ t || ((m.cann n).nom.isSome && !d.dataPhase) then m.detectEnd n none
    else m.updCan n fun c => { c with detect := some { d with code := (d.code + 3) % 4, good := 0 } }

/-- Entry into SAFE-HOLD ends every detection with WRONG_MODE (R582). -/
def Module.detectStop (m : Module) : Module := (m.detectEnd 0 (some .wrongMode)).detectEnd 1 (some .wrongMode)

/-! ### Receiving (R584, R588 to R591) -/

def Module.box (n k : Nat) (m : Module) : Box := if k = 64 then (m.cann n).hpb else tabGet {} (m.cann n).boxes k
def Module.updBox (n k : Nat) (f : Box → Box) (m : Module) : Module :=
  m.updCan n fun c => if k = 64 then { c with hpb := f c.hpb } else { c with boxes := tabUpd {} c.boxes k f }

/-- Update the receive signals of a mailbox (R591): a frame too short for a signal leaves it. -/
def Module.rxSignals (n k : Nat) (d : Bytes) (m : Module) : Module :=
  let mp := m.canMap
  (List.range 256).foldl (fun m s =>
    let e := mapRx mp s
    if byteAt e 0 = 1 && byteAt e 1 = n && byteAt e 2 = k && sigFits e d.length then
      m.onCan fun c => { c with rx := tabUpd {} c.rx s fun x =>
        { value := sigValue e d, at_ := m.sys.clock, valid := true, count := x.count + 1 } }
    else m) m

/-- The mailbox is an RX_SIGNAL one: the module consumes it at each reception (R588). -/
def Module.isRxSignal (n k : Nat) (m : Module) : Bool := k ≠ 64 && byteAt (mapBox m.canMap n k) 0 = 2

/-- A frame is stored in an empty, unlocked mailbox or the HPB (R588, R590). -/
def Module.boxStore (n k : Nat) (f : BoxFrame) (m : Module) : Module :=
  let sig := m.isRxSignal n k
  let m := m.updBox n k fun b => { b with frame := some { f with overrun := b.ovr }, new := !sig, ovr := false }
  if k = 64 then m.canEvent n 3 else if sig then m.rxSignals n k f.data else m

/-- A pending frame moves into a mailbox that is empty and unlocked. -/
def Module.boxSettle (n k : Nat) (m : Module) : Module :=
  let b := m.box n k
  match b.pend with
  | some f => if b.locked || b.new then m else (m.updBox n k fun b => { b with pend := none }).boxStore n k f
  | none => m

/-- Replacement or drop: counted, event 4 (R588). -/
def Module.boxOver (n k : Nat) (m : Module) : Module :=
  ((m.updBox n k fun b => { b with ovr := true }).bump (canCnt n 3)).canEvent n 4

/-- An accepted frame reaches its mailbox or the HPB (R588). -/
def Module.boxPut (n k : Nat) (f : BoxFrame) (m : Module) : Module :=
  let b := m.box n k
  let ovr := k ≠ 64 && (byteAt (mapBox m.canMap n k) 1).testBit 0
  if !b.new && !b.locked then m.boxStore n k f
  else if b.pend.isNone then m.updBox n k fun b => { b with pend := some f }
  else if ovr then (m.updBox n k fun b => { b with pend := some f }).boxOver n k
  else m.boxOver n k

/-- CAN_MB_WORD0_READ (R589): the mailbox becomes locked. -/
def Module.boxLock (n k t : Nat) (m : Module) : Module :=
  (m.tick t).updBox n k fun b => if b.locked then b else { b with locked := true, lockAt := t }

/-- CAN_MB_WORD19_READ (R589): unlocked and consumed; a pending frame moves in. -/
def Module.boxConsume (n k : Nat) (m : Module) : Module :=
  (m.updBox n k fun b => { b with locked := false, new := false }).boxSettle n k

/-- CAN_LOCK_TIMEOUT (R589): a lock held for 10 ms is released without consuming the frame. -/
def Module.boxTimeout (n k t : Nat) (m : Module) : Module :=
  let m := m.tick t
  let b := m.box n k
  if b.locked && decide (b.lockAt + msec 10 ≤ t) then
    (((m.updBox n k fun b => { b with locked := false }).bump (canCnt n 6)).canEvent n 13).boxSettle n k
  else m

/-- A frame matches a filter (R584); an ACTION that the table does not give is taken as unused (DESIGN CHOICE, log entry
115). -/
def filterMatch (e : Bytes) (w : Nat) : Bool :=
  let id := field e 0 4
  let fmt := byteAt e 10
  decide (1 ≤ byteAt e 8 ∧ byteAt e 8 ≤ 3) && decide (((w % 2 ^ 29) ^^^ (id % 2 ^ 29)) &&& (field e 4 4 % 2 ^ 29) = 0)
    && (id.testBit 29 == w.testBit 29)
    && (if fmt = 1 then !w.testBit 30 else if fmt = 2 then w.testBit 30 else true)

/-! ### Plant time on CAN (R597 to R600) -/

def Module.timeRole (n : Nat) (m : Module) : Nat := m.canSet n 4

/-- A used pair (R600): offset, acquisition, and at the head the correction of plant time. -/
def Module.timePair (n sof plant : Nat) (m : Module) : Module :=
  let now := m.sys.clock
  let v := plant + m.canSet n 6
  let off := sat32s ((v : Int) - m.plantAt sof)
  let k := (m.cann n).pairs + 1
  let was := (m.cann n).timeState
  let m := m.updCan n fun c => { c with offset := off, pairs := k, pairAt := now }
  let m := if was ≠ 1 ∧ 3 ≤ k then (m.updCan n fun c => { c with timeState := 1 }).canEvent n 9 else m
  if !m.isHead || (m.cann n).timeState ≠ 1 then m
  else
    let cur := v + (now - sof) / 4
    match m.rng.plant with
    | none => m.onRng fun r => { r with plant := some (cur, now), slew := 0 }
    | some _ =>
      let (step, m) := m.plantCorrect cur now
      if step then m.canEvent n 11 else m

/-- A received SYNC or FOLLOW of the controller's own T (R599, R600). -/
def Module.timeFrame (n w : Nat) (d : Bytes) (sof : Nat) (m : Module) : Module :=
  let T := m.canSet n 5
  let role := m.timeRole n
  if w ≥ 2 ^ 29 ∨ d.length ≠ 8 then m
  else if role = 1 ∧ w = T then
    if (m.cann n).timeState = 3 then m
    else (m.updCan n fun c =>
      { c with timeState := 3, syncAt := none,
               queue := c.queue.filter fun x => decide (x.kind ≠ .sync ∧ x.kind ≠ .follow) }).canEvent n 14
  else if role = 2 ∧ w = T then
    m.updCan n fun c => { c with sync := some (byteAt d 0, (byteAt d 1).testBit 0, sof) }
  else if role = 2 ∧ w = T + 1 then
    match (m.cann n).sync with
    | none => m
    | some (seq, locked, s0) =>
      let m := m.updCan n fun c => { c with sync := none }
      if s0 + msec 20 < sof then m.updCan n fun c => { c with pairs := 0 }
      else if !locked then m.updCan n fun c => { c with pairs := 0 }
      else (m.updCan n fun c => { c with lastSeq := seq }).timePair n s0 (leNat d)
  else m

/-- Plant time is acquired and not in holdover (R598). -/
def Module.plantLocked (m : Module) : Bool :=
  m.rng.plant.isSome && (if m.isHead then [0, 1].all fun n => !(m.timeRole n = 2 && (m.cann n).timeState = 2)
    else !m.rng.timeHoldover)

/-- CAN_TIME_SYNC_SEND (R599): nothing is sent while plant time is 0, in BOOT, or in CONFLICT. -/
def Module.syncSend (n t : Nat) (m : Module) : Module :=
  let m := m.tick t
  let c := m.cann n
  if m.inBoot || m.timeRole n ≠ 1 || c.timeState = 3 || !c.sends || m.plantNow = 0 then m
  else m.canQueue n .sync (m.canSet n 5) (leBytes 1 (c.lastSeq + 1) ++ leBytes 1 (bit m.plantLocked) ++ zeros 6)

/-- CAN_TIME_FOLLOW_SEND (R598, R599): the time of the acknowledged SYNC. -/
def Module.followSend (n : Nat) (m : Module) : Module :=
  let c := m.cann n
  match c.syncAt with
  | none => m
  | some v =>
    if c.timeState = 3 || !c.sends then m
    else (m.updCan n fun c => { c with syncAt := none }).canQueue n .follow (m.canSet n 5 + 1) (leBytes 8 v)

/-- CAN_TIME_HOLDOVER (R600): a slave with no used pair for 10 s. -/
def Module.canHoldover (n t : Nat) (m : Module) : Module :=
  let m := m.tick t
  let c := m.cann n
  if m.timeRole n = 2 ∧ c.timeState = 1 ∧ c.pairAt + secs 10 ≤ t then
    (m.updCan n fun c => { c with timeState := 2, pairs := 0 }).canEvent n 10
  else m

/-- REC after a frame received without error, as ISO 11898-1 has it: one less, or a value of 119 to 127 from above 127. -/
def Module.recGood (n : Nat) (m : Module) : Module :=
  let c := m.cann n
  if !c.sends then m
  else
    let m := if 127 < c.rec_ then (m.updCan n fun c => { c with rec_ := 119 + Config.freeNat m.free % 9 }).useFree
      else m.updCan n fun c => { c with rec_ := c.rec_ - 1 }
    if c.state = .errorPassive && decide (c.tec ≤ 127) then m.canTo n .errorActive else m

/-- CAN_FRAME_RX (R577, R584, R588): a frame with a correct CRC, its start of frame captured at `sof`. A CAN FD frame with
CAN_FD_EN 0 is a form error. -/
def Module.canRx (n w : Nat) (esi rtr : Bool) (d : Bytes) (sof t : Nat) (m : Module) : Module :=
  let m := m.tick t
  let c := m.cann n
  if !c.receives then m
  else if w.testBit 30 && m.canSet n 1 = 0 then m.canError n c.tec (c.rec_ + 1) 2 false
  else
    let m := ((m.recGood n).detectFrame n (w.testBit 31)).timeFrame n w d sof
    let mp := m.canMap
    match (List.range 32).find? fun f => filterMatch (mapFilter mp n f) w with
    | none => (m.bump (canCnt n 2)).canEvent n 5
    | some f =>
      let e := mapFilter mp n f
      if byteAt e 8 = 3 then m
      else
        let b : BoxFrame := { word0 := w, esi := esi, rtr := rtr, filter := f, stamp := m.plantAt sof, data := d }
        (m.bump (canCnt n 0)).boxPut n (if byteAt e 8 = 2 then 64 else byteAt e 9) b

/-- CAN_SIGNAL_TIMEOUT (R591): a receive signal older than its mailbox's TIMEOUT becomes invalid. -/
def Module.sigTimeout (s t : Nat) (m : Module) : Module :=
  let m := m.tick t
  let e := mapRx m.canMap s
  let x := tabGet ({} : RxSig) m.can.rx s
  let dest := field (mapBox m.canMap (byteAt e 1) (byteAt e 2)) 10 2
  if byteAt e 0 = 1 && x.valid && decide (dest ≠ 0 ∧ x.at_ + msec dest < t) then
    (m.onCan fun c => { c with rx := tabPut {} c.rx s { x with valid := false } }).canEvent (byteAt e 1) 6
  else m

end Sys2Proof.Machine
end

