-- ==== Sys2Proof/Machine/Can.lean ====
section
/-! DEFINITION. Machine/Can.lean: the CAN events, opcodes, registers and settings checks (R577 to R612). -/
namespace Sys2Proof.Machine

/-! ### Events -/

/-- CAN_FRAME_RX (R588): controller, identifier word, ESI, RTR, data, clock of the start of frame, time. -/
def execCanFrameRx (n word : Nat) (esi rtr : Bool) (data : List Byte) (sof t : Nat) (s : State) :
    Host.Outcome State Fault Refusal := s.go (·.canRx n word esi rtr data sof t)
def execCanFrameAcked (n sof t : Nat) (s : State) : Host.Outcome State Fault Refusal := s.go (·.canAcked n sof t)
/-- CAN_BUS_ERROR (R579, R608). -/
def execCanBusError (n tec recv err : Nat) (inData : Bool) (t : Nat) (s : State) : Host.Outcome State Fault Refusal :=
  s.go fun m => (m.tick t).canError n tec recv err inData
def execCanBusoffDelayEnd (n t : Nat) (s : State) : Host.Outcome State Fault Refusal := s.go (·.busOffDelay n t)
def execCanBusoffRecovered (n : Nat) (s : State) : Host.Outcome State Fault Refusal := s.go (·.busOffEnd n)
def execCanSignalPeriod (n mailbox t : Nat) (s : State) : Host.Outcome State Fault Refusal :=
  s.go fun m => (m.tick t).canPeriod n mailbox
def execCanSignalTimeout (sig t : Nat) (s : State) : Host.Outcome State Fault Refusal := s.go (·.sigTimeout sig t)
def execCanLockTimeout (n box t : Nat) (s : State) : Host.Outcome State Fault Refusal := s.go (·.boxTimeout n box t)
def execCanRateTryEnd (n t : Nat) (s : State) : Host.Outcome State Fault Refusal := s.go (·.detectTry n t)
def execCanTimeSyncSend (n t : Nat) (s : State) : Host.Outcome State Fault Refusal := s.go (·.syncSend n t)
def execCanTimeFollowSend (n t : Nat) (s : State) : Host.Outcome State Fault Refusal :=
  s.go fun m => (m.tick t).followSend n
def execCanTimeHoldover (n t : Nat) (s : State) : Host.Outcome State Fault Refusal := s.go (·.canHoldover n t)
def execCanMbWord0Read (n box t : Nat) (s : State) : Host.Outcome State Fault Refusal := s.go (·.boxLock n box t)
def execCanMbWord19Read (n box t : Nat) (s : State) : Host.Outcome State Fault Refusal :=
  s.go fun m => (m.tick t).boxConsume n box

/-- CAN_SEND_TIMEOUT (R604): a frame not acknowledged within 100 ms of its queueing is withdrawn. -/
def Module.canSendTimeout (ctx tag t : Nat) (m : Module) : Module :=
  let m := m.tick t
  match m.cmd.outst.find? fun o => o.ctx = ctx && o.tag = tag && o.live && o.opcode = 0x0B04 with
  | none => m
  | some o =>
    let n := byteAt o.payload 0
    let early := (m.cann n).queue.any fun x => x.kind = .host o.id && decide (t < x.at_ + msec 100)
    if early then m
    else (m.updCan n fun c => { c with queue := c.queue.filter fun x => x.kind ≠ .host o.id }).finish o.id .timeout []
def execCanSendTimeout (ctx tag t : Nat) (s : State) : Host.Outcome State Fault Refusal := s.go (·.canSendTimeout ctx tag t)

/-! ### Registers (R605 to R611) -/

def canCounters (n : Nat) : List Nat := (List.range 8).map (canCnt n)

/-- CANn_CFG (R606). -/
def Module.canCfg (n : Nat) (m : Module) : Nat :=
  m.canSet n 0 + 4 * m.canSet n 1 + 8 * m.canSet n 2 + 32 * m.canSet n 3 + 128 * m.canSet n 4 + 512 * m.canSet n 7
    + 0x2000 * maskOf 4 fun c => m.chUsed c && m.chCan c = n

/-- CANn_STATUS (R607). -/
def Module.canStatus (n : Nat) (m : Module) : Nat :=
  let c := m.cann n
  canStateCode c.state + 8 * bit c.hpb.new + 16 * bit c.hpb.locked + 32 * bit c.stopping + 64 * m.busOffs n

/-- CANn_ERR (R608). -/
def Module.canErr (n : Nat) (m : Module) : Nat :=
  let c := m.cann n
  min c.tec 255 + 256 * min c.rec_ 255 + 0x10000 * c.lastErr + 0x80000 * bit c.lastInData

/-- CANn_TIME_STATUS (R609): a master whose controller does not send shows 0. -/
def Module.canTime (n : Nat) (m : Module) : Nat :=
  let c := m.cann n
  m.timeRole n + 4 * (if m.timeRole n = 1 ∧ c.timeState = 1 ∧ c.sends = false then 0 else c.timeState) + 16 * bit (m.isHead && decide (m.timeRole n = 2 ∧ c.timeState = 1)) + 32 * c.lastSeq

/-- CANn_TIME_OFFSET (R605): 0 if not SLAVE. -/
def Module.canOffset (n : Nat) (m : Module) : Nat := if m.timeRole n = 2 then ofInt 32 (m.cann n).offset else 0

/-- CANn_RATE_DET (R610). -/
def Module.canRate (n : Nat) (m : Module) : Nat :=
  let c := m.cann n
  c.nom.getD 0 + 4 * bit c.nom.isSome + 8 * c.dataRate.getD 0 + 32 * bit c.dataRate.isSome + 64 * bit c.detect.isSome

def Module.rxNew (n : Nat) (m : Module) : Nat := maskOf 64 fun k => (m.box n k).new

/-- Word `i` of a mailbox or the HPB (R611). -/
def Box.word (i : Nat) (b : Box) : Nat := match b.frame with
  | none => 0
  | some f =>
    if i = 0 then f.word0
    else if i = 1 then f.data.length + 128 * bit f.esi + 256 * bit f.rtr + 512 * bit f.overrun + 0x10000 * f.filter
    else if i = 2 then f.stamp % 2 ^ 32
    else if i = 3 then f.stamp / 2 ^ 32
    else field f.data (4 * (i - 4)) 4

/-- The mailbox (64 for the HPB) and word a register offset of the block names. -/
def canBoxWord (o : Nat) : Option (Nat × Nat) :=
  if 0x800 ≤ o ∧ o < 0x850 then some (64, (o - 0x800) / 4)
  else if 0x1000 ≤ o ∧ o < 0x3000 ∧ (o - 0x1000) % 0x80 < 0x50 then some ((o - 0x1000) / 0x80, (o - 0x1000) % 0x80 / 4)
  else none

/-- CAN registers (R605); the counters are in the counter table. -/
def Module.canReg (off : Nat) (m : Module) : Option Nat :=
  let n := bits off 15 15
  let o := off % 0x8000
  if o = 0x00 then some (m.canCfg n)
  else if o = 0x04 then some (m.canStatus n)
  else if o = 0x08 then some (m.canErr n)
  else if o = 0x0C then some (m.canTime n)
  else if o = 0x10 then some (m.canOffset n)
  else if o = 0x14 then some (m.canRate n)
  else if o = 0x18 then some (m.rxNew n % 2 ^ 32)
  else if o = 0x1C then some (m.rxNew n / 2 ^ 32)
  else if 0x20 ≤ o ∧ o < 0x40 then some (m.counter off)
  else match canBoxWord o with
    | some (k, i) => some ((m.box n k).word i)
    | none => none

/-! ### Opcodes (R603, R604) -/

def reqCan (r : Req) : Nat := byteAt r.payload 0

/-- CAN_STATUS_GET (R603). -/
def cmdCanStatusGet (r : Req) (m : Module) : Resp :=
  let n := reqCan r
  m.checks r 4 (n ≤ 1) .observe <|
    .done (leBytes 4 (m.canCfg n) ++ leBytes 4 (m.canStatus n) ++ leBytes 4 (m.canErr n) ++ leBytes 4 (m.canTime n)
      ++ leBytes 4 (m.canOffset n) ++ leBytes 4 (m.canRate n) ++ zeros 8) m
def execCanStatusGet (r : Req) (s : State) : Host.Outcome State Fault Refusal := s.go (·.request 0x0B00 cmdCanStatusGet r)

/-- CAN_MAP_GET (R603). -/
def cmdCanMapGet (r : Req) (m : Module) : Resp := m.checks r 0 true .observe (.done m.canMap m)
def execCanMapGet (r : Req) (s : State) : Host.Outcome State Fault Refusal := s.go (·.request 0x0B02 cmdCanMapGet r)

/-- A signal as CAN_SIGNALS_GET reports it (R603). -/
def Module.sigEntry (dir s : Nat) (m : Module) : Bytes :=
  if dir = 0 then
    let x := tabGet ({} : RxSig) m.can.rx s
    let age := if x.count = 0 then 0xFFFF else satU16 ((m.sys.clock - x.at_) / msec 1)
    fBytes x.value ++ leBytes 2 age ++ leBytes 1 (bit x.valid + 2 * bit (decide (x.count ≠ 0))) ++ zeros 1
  else
    let x := tabGet none m.can.tx s
    fBytes (x.getD 0) ++ zeros 2 ++ leBytes 1 (byteAt (mapTx m.canMap s) 0 % 2 + 2 * bit x.isSome) ++ zeros 1

/-- CAN_SIGNALS_GET (R603). -/
def cmdCanSignalsGet (r : Req) (m : Module) : Resp :=
  let first := byteAt r.payload 1
  let n := field r.payload 2 2
  m.checks r 4 (byteAt r.payload 0 ≤ 1 && decide (1 ≤ n ∧ first + n ≤ 256)) .observe <|
    .done ((List.range n).flatMap fun i => m.sigEntry (byteAt r.payload 0) (first + i)) m
def execCanSignalsGet (r : Req) (s : State) : Host.Outcome State Fault Refusal := s.go (·.request 0x0B03 cmdCanSignalsGet r)

/-- The parameters of CAN_SEND that R604 accepts. -/
def Module.canSendOk (p : Bytes) (m : Module) : Bool :=
  let n := byteAt p 0
  let fl := byteAt p 1
  let id := field p 4 4
  let ide := fl.testBit 0
  let w := id % 2 ^ 29 + 2 ^ 29 * bit ide
  decide (n ≤ 1) && canLen (fl.testBit 1) (byteAt p 2) && decide (id < if ide then 2 ^ 29 else 2 ^ 11)
    && (ide || decide (0x10 ≤ id)) && !(m.canIds n).any (· = w)
    && !((fl.testBit 1 || fl.testBit 2) && decide (m.canSet n 1 = 0))

/-- CAN_SEND (R603): DONE at acknowledgement. -/
def cmdCanSend (r : Req) (m : Module) : Resp :=
  let p := r.payload
  let n := byteAt p 0
  if p.length < 8 ∨ p.length ≠ 8 + byteAt p 2 then .fail .badLength m
  else if !m.canSendOk p then .fail .badParam m
  else if m.lacks r.ctx .engineer then .fail .denied m
  else if m.inBoot then .fail .wrongMode m
  else if !(m.cann n).sends then .fail .busy m
  else
    let fl := byteAt p 1
    let w := field p 4 4 % 2 ^ 29 + 2 ^ 29 * bit (fl.testBit 0) + 2 ^ 30 * bit (fl.testBit 1) + 2 ^ 31 * bit (fl.testBit 2)
    .waitFixed [] [] (m.canQueue n (.host m.thisId) w (p.drop 8))
def execCanSend (r : Req) (s : State) : Host.Outcome State Fault Refusal := s.go (·.request 0x0B04 cmdCanSend r)

/-- CAN_RATE_DETECT (R582). -/
def cmdCanRateDetect (r : Req) (m : Module) : Resp :=
  let n := reqCan r
  let st := (m.cann n).state
  m.checks r 4 (n ≤ 1) .engineer <|
    if m.sys.mode ≠ .commission ∧ m.sys.mode ≠ .standby then .fail .wrongMode m
    else if st = .off ∨ st = .detecting then .fail .busy m
    -- detection starts from ERROR_ACTIVE, ERROR_PASSIVE or LISTEN only (R579): a bus-off controller is BUSY too
    else if st = .busOff ∨ st = .busOffHeld then .fail .busy m
    else
      .waitFixed [] [] ((m.updCan n fun c =>
        { c with detect := some { cmd := m.thisId, before := st, start := m.sys.clock }, nom := none, dataRate := none }).canTo
          n .detecting)
def execCanRateDetect (r : Req) (s : State) : Host.Outcome State Fault Refusal := s.go (·.request 0x0B05 cmdCanRateDetect r)

/-- CAN_RESTART (R579): from BUS_OFF_HELD, with the delay restarted. -/
def cmdCanRestart (r : Req) (m : Module) : Resp :=
  let n := reqCan r
  m.checks r 4 (n ≤ 1) .engineer <|
    if (m.cann n).state ≠ .busOffHeld then .fail .wrongMode m
    else .done [] ((m.updCan n fun c => { c with delayAt := m.sys.clock, monitor := false }).canTo n .busOff)
def execCanRestart (r : Req) (s : State) : Host.Outcome State Fault Refusal := s.go (·.request 0x0B06 cmdCanRestart r)

/-- CAN_COUNTERS_GET (R603). -/
def cmdCanCountersGet (r : Req) (m : Module) : Resp :=
  m.checks r 0 true .observe <|
    let (b, m) := m.readCounters (canCounters 0 ++ canCounters 1)
    .done b m
def execCanCountersGet (r : Req) (s : State) : Host.Outcome State Fault Refusal := s.go (·.request 0x0B07 cmdCanCountersGet r)

/-! ### Checks of a commit (R434, R581, R587, R602) -/

/-- The map's header and CRC, over every other byte (R583). -/
def mapHeaderOk (mp : Bytes) : Bool :=
  decide (mp.length = mapLen ∧ mp.take 4 = [0x43, 0x4D, 0x50, 0x01]
    ∧ field mp 28 4 = crc32c (mp.take 28 ++ mp.drop 32))

/-- Filters name receive mailboxes (R587). -/
def mapFiltersOk (mp : Bytes) : Bool :=
  (List.range 2).all fun n => (List.range 32).all fun f =>
    let e := mapFilter mp n f
    if byteAt e 8 = 1 then decide (byteAt e 9 < 64 ∧ (byteAt (mapBox mp n (byteAt e 9)) 0 = 1 ∨ byteAt (mapBox mp n (byteAt e 9)) 0 = 2))
    else true

/-- Signals lie within their frames, and transmit signals of one frame do not overlap (R587). -/
def mapSignalsOk (mp : Bytes) : Bool :=
  let usedTx := (List.range 256).filter fun s => byteAt (mapTx mp s) 0 = 1
  ((List.range 256).all fun s => byteAt (mapRx mp s) 0 ≠ 1 || sigFits (mapRx mp s) 64)
    && (usedTx.all fun s => let e := mapTx mp s; sigFits e (field (mapBox mp (byteAt e 1) (byteAt e 2)) 2 2))
    && (usedTx.all fun s => usedTx.all fun s' =>
      let e := mapTx mp s
      let e' := mapTx mp s'
      decide (s' ≤ s) || decide (byteAt e 1 ≠ byteAt e' 1 ∨ byteAt e 2 ≠ byteAt e' 2)
        || (sigBits e).all fun b => !(sigBits e').any (· = b))

/-- Transmit mailboxes against the controller's settings (R587). -/
def Module.mapBoxesOk (mp : Bytes) (m : Module) : Bool :=
  (List.range 2).all fun n => (List.range 64).all fun k =>
    let e := mapBox mp n k
    if byteAt e 0 ≠ 3 then true
    else
      let fl := byteAt e 1
      let id := field e 4 4 % 2 ^ 29 + 2 ^ 29 * bit (fl.testBit 3)
      !((fl.testBit 1 || fl.testBit 2) && decide (m.canSet n 1 = 0)) && decide (0x10 ≤ id)
        && !(m.canSet n 5 = id || m.canSet n 5 + 1 = id)
        && !((List.range 4).any fun c => m.chCan c = n && idWord (m.chSet c) = id)

/-- A signal is defined by a map. -/
def rxDefined (mp : Bytes) (s : Nat) : Bool := byteAt (mapRx mp s) 0 = 1
def txDefined (mp : Bytes) (s : Nat) : Bool := byteAt (mapTx mp s) 0 = 1

/-- R602's own rules: one SLAVE, channels on enabled controllers, no coinciding identifiers, listen-only (R581), CAN FD for
reference frames (R431). -/
def Module.canRulesOk (m : Module) : Bool :=
  !(m.canSet 0 4 = 2 && m.canSet 1 4 = 2)
    && ((List.range 4).all fun c => !m.chUsed c || decide (m.canSet (m.chCan c) 0 = 1 ∧ m.canSet (m.chCan c) 1 = 1))
    && ((List.range 2).all fun n => (m.canIds n).eraseDups.length = (m.canIds n).length)
    && ((List.range 2).all fun n => !(m.canSet n 0 = 2 && m.canSet n 4 = 1))

def canNom (code : Nat) : Nat := [125000, 250000, 500000, 1000000].getD code 1000000
def canData (code : Nat) : Nat := [1000000, 2000000, 4000000, 5000000].getD code 5000000

/-- Settings the CAN rules read. -/
def canRuleIds : List Nat :=
  [0x0200] ++ ((List.range 9).map (0x0B00 + ·)) ++ ((List.range 9).map (0x0B10 + ·)) ++ ((List.range 4).map (0x0B40 + ·))

end Sys2Proof.Machine
end

