-- ==== Sys2Proof/Machine/TmpOps.lean ====
section
/-! DEFINITION. Machine/TmpOps.lean: the temple engine as operations: the loop table, one loop's arithmetic, application and
computation, dispatch allocation, the formation sequencers, reference frames (R391 to R434). -/
namespace Sys2Proof.Machine

def Module.loop (l : Nat) (m : Module) : Loop := tabGet {} m.tmp.loops l
def Module.updLoop (l : Nat) (f : Loop → Loop) (m : Module) : Module :=
  m.onTmp fun t => { t with loops := tabUpd {} t.loops l f }
def Module.seq (n : Nat) (m : Module) : Seq := tabGet {} m.tmp.seqs n
def Module.updSeq (n : Nat) (f : Seq → Seq) (m : Module) : Module :=
  m.onTmp fun t => { t with seqs := tabUpd {} t.seqs n f }
def Module.tstr (n : Nat) (m : Module) : TStr := tabGet {} m.tmp.strs n
def Module.updTstr (n : Nat) (f : TStr → TStr) (m : Module) : Module :=
  m.onTmp fun t => { t with strs := tabUpd {} t.strs n f }

/-! ### The loop table (R391 to R395, R435) -/

/-- The default record of loops 0 to 15 (R435). -/
def loopDflt : Bytes :=
  leBytes 1 1 ++ leBytes 1 0 ++ leBytes 2 4 ++ leBytes 2 0 ++ zeros 6 ++ fBytes 0
    ++ fBytes 0 ++ fBytes (fq 2 1) ++ fBytes 0 ++ fBytes (fq 1 100) ++ fBytes fOne
    ++ fBytes (fq (-10000000) 1) ++ fBytes (fq 10000000 1) ++ fBytes (fq 50000 1) ++ fBytes (fq 100000 1) ++ fBytes 0
    ++ fBytes 0 ++ fBytes fOne ++ fBytes 0 ++ fBytes fOne ++ leBytes 1 4 ++ leBytes 1 0 ++ leBytes 1 0 ++ zeros 1
    ++ fBytes fOne ++ fBytes (fq 1 10) ++ fBytes 0 ++ fBytes (fq 100000 1) ++ zeros 36

/-- The header of a table with given records (R393). -/
def loopHeader (recs : Bytes) : Bytes :=
  let h := [0x4C, 0x54, 0x42, 0x01] ++ zeros 24
  h ++ leBytes 4 (crc32c (h ++ recs))

/-- The default table (R435). -/
def loopTableDflt : Bytes :=
  let recs := (List.range 16).flatMap (fun _ => loopDflt) ++ zeros (240 * 128)
  loopHeader recs ++ recs

/-- The record of loop `l` in a table setting. -/
def loopRec (t : Option Bytes) (l : Nat) : Bytes := match t with
  | some b => (b.drop (32 + 128 * l)).take 128
  | none => if l < 16 then loopDflt else []

def Module.loopTable (m : Module) : Option Bytes := tabGet none m.set.bulk 0x0500
def Module.lrow (l : Nat) (m : Module) : Bytes := loopRec m.loopTable l
/-- The table in force, as bytes. -/
def Module.loopBytes (m : Module) : Bytes := m.loopTable.getD loopTableDflt

def rowOn (e : Bytes) : Bool := byteAt e 0 = 1
def rowModes (e : Bytes) : Nat := byteAt e 1
def rowPeriod (e : Bytes) : Nat := field e 2 2
def rowPhase (e : Bytes) : Nat := field e 4 2
def rowSp (e : Bytes) : Nat := byteAt e 6
def rowSpIx (e : Bytes) : Nat := byteAt e 7
def rowFb (e : Bytes) : Nat := byteAt e 8
def rowFbIx (e : Bytes) : Nat := byteAt e 9
def rowOut (e : Bytes) : Nat := byteAt e 10
def rowOutIx (e : Bytes) : Nat := byteAt e 11
def rowConst (e : Bytes) : F32 := fField e 12
def rowKp (e : Bytes) : F32 := fField e 16
def rowKi (e : Bytes) : F32 := fField e 20
def rowKd (e : Bytes) : F32 := fField e 24
def rowTf (e : Bytes) : F32 := fField e 28
def rowKff (e : Bytes) : F32 := fField e 32
def rowMin (e : Bytes) : F32 := fField e 36
def rowMax (e : Bytes) : F32 := fField e 40
def rowUp (e : Bytes) : F32 := fField e 44
def rowDn (e : Bytes) : F32 := fField e 48
def rowDwell (e : Bytes) : F32 := fField e 52
def rowNotch (e : Bytes) (i : Nat) : F32 × F32 := (fField e (56 + 8 * i), fField e (60 + 8 * i))
def rowLostN (e : Bytes) : Nat := byteAt e 72
def rowFrozenF (e : Bytes) : Nat := byteAt e 73
def rowReverse (e : Bytes) : Bool := byteAt e 74 = 1
def rowDu (e : Bytes) : F32 := fField e 76
def rowHold (e : Bytes) : F32 := fField e 80
def rowFall (e : Bytes) : F32 := fField e 84
def rowFallRamp (e : Bytes) : F32 := fField e 88

/-- A loop of a string that is not enabled never ticks (R392). -/
def Module.loopStands (l : Nat) (m : Module) : Bool := decide (32 ≤ l) || m.chainEnabled (l % 16)
/-- Loop `l` is enabled and may tick. -/
def Module.loopLives (l : Nat) (m : Module) : Bool := rowOn (m.lrow l) && m.loopStands l

/-- Loop `l` ticks at the latest pick (R397); a DISABLED loop whose record names a PERIOD too, to track its feedback (R408). -/
def Module.ticks (l : Nat) (m : Module) : Bool :=
  let e := m.lrow l
  m.loopStands l && (if 16 ≤ l ∧ l < 32 ∧ m.windowMode = true then m.wrp.winClose
    else decide (1 ≤ rowPeriod e) && decide (m.pck.index % (rowPeriod e) = rowPhase e))

def Module.tickList (m : Module) : List Nat := (List.range 256).filter fun l => m.ticks l

/-- A loop drives in a mode (R391). -/
def Module.drives (l : Nat) (mode : Mode) (m : Module) : Bool :=
  m.loopLives l && (if l < 16 then decide (mode = .dispatch ∨ mode = .formation)
    else if l < 32 then decide (mode = .formation)
    else (rowModes (m.lrow l)).testBit (modeCode mode) && decide (mode = .standby ∨ mode = .dispatch ∨ mode = .formation))

/-! ### Causes and events (R447, R448) -/

/-- Set a cause bit of a loop; event 256 + g at most once per treadle cycle. -/
def Module.tmpCause (l b : Nat) (m : Module) : Module :=
  let g := l / 4
  let m := m.onTmp fun t => { t with causes := tabUpd 0 t.causes g fun v => v ||| 2 ^ (8 * (l % 4) + b) }
  if 256 + g ∈ m.evt.once then m else m.raiseOnce (256 + g)

/-! ### What the picks and X2 give -/

/-- I_PRI, or I_SEC if I_PRI is invalid, of the latest pick, mA (R391). -/
def Module.pickCur (n : Nat) (m : Module) : Option Int :=
  (m.frameAt n 0).bind fun b => (curField b 8).or (curField b 12)

/-- V_STRING of the latest pick, mV. -/
def Module.pickVolt (n : Nat) (m : Module) : Option Nat :=
  (m.frameAt n 0).bind fun b => if field b 16 4 = 0xFFFFFFFF then none else some (field b 16 4)

def maxInt : List Int → Option Int
  | [] => none
  | x :: xs => some (xs.foldl max x)
def minInt : List Int → Option Int
  | [] => none
  | x :: xs => some (xs.foldl min x)

/-- Valid primary readings of a string at the latest pick, µV. -/
def Module.pickCells (n : Nat) (m : Module) : List Int := (m.stringCells n).filterMap fun c => m.laneV [] false c

/-- A DCI after calibration, mA (R394): code × DCI_FS_n × 1,000 / 32,767 times the pair in force. -/
def Module.dciMa (n : Nat) (m : Module) : Option F32 :=
  match m.block with
  | none => none
  | some b =>
    if !(blkDciMask b).testBit n || m.hk.factoryBad || m.pck.dci = [] then none
    else some (fOfRat (sInt 16 (m.pck.dci.getD n 0) * (blkDciFs b n : Nat) * 1000 * (tabGet 1000000 m.hk.dciGain n : Nat)
      * (m.setting (0x0C10 + n) : Nat)) (32767 * 10 ^ 12))

/-- A valid X2 buffer exists (R286, R406): its step is that of the latest released pick or the one before; in window mode
that of the latest closing pick or the one before (R197). -/
def Module.x2Valid (m : Module) : Bool :=
  match m.est.stepPick with
  | none => false
  | some s =>
    let back := if m.pck.released then 0 else 1
    if m.windowMode then match m.wrp.winPos with
      | none => false
      | some p =>
        let w := m.windowPicks
        let since := (p + 2 * w - back + 1) % w
        decide (m.pck.index ≤ s + back + since + w)
    else decide (m.pck.index ≤ s + back + 1)

/-- String limits as a tick takes them, mA (R402 step 2, R406). -/
def Module.limChgF (n : Nat) (m : Module) : F32 := if m.x2Valid then fOfInt (m.str n).chgmA else fZero
def Module.limDisF (n : Nat) (m : Module) : F32 := if m.x2Valid then fOfInt (m.str n).dismA else fZero

/-! ### Recipes (R421) -/

def Module.recipe (n : Nat) (m : Module) : Option Bytes := tabGet none m.set.bulk (0x0510 + n)
def stepOf (rc : Bytes) (k : Nat) : Bytes := (rc.drop (32 + 32 * k)).take 32
def recipeSteps (rc : Bytes) : Nat := byteAt rc 4
def stType (e : Bytes) : Nat := byteAt e 0
def stFail (e : Bytes) : Bool := (byteAt e 1).testBit 0
def stMain (e : Bytes) : Int := sInt 32 (field e 4 4)
def stAux (e : Bytes) : Int := sInt 32 (field e 8 4)
def stVlim (e : Bytes) : Nat := field e 12 4
def stTmax (e : Bytes) : Nat := field e 16 4
def stAh (e : Bytes) : Nat := field e 20 4
def stOn (e : Bytes) : Nat := field e 24 2
def stOff (e : Bytes) : Nat := field e 26 2
def stCount (e : Bytes) : Nat := field e 28 2
def stTarget (e : Bytes) : Nat := byteAt e 30

/-- The running step of a string's sequencer. -/
def Module.stepNow (n : Nat) (m : Module) : Bytes := stepOf ((m.recipe n).getD []) (m.seq n).step

/-! ### Feedback (R394, R415) -/

/-- The value a loop's feedback source holds and its production number; none where it is not valid. -/
def Module.feedback (l : Nat) (m : Module) : Option (F32 × Nat) :=
  let e := m.lrow l
  let pick := m.pck.index + 1
  let step := m.est.stepPick.getD 0 + 1
  let agg := fun n o bad => if m.x2Valid && decide ((m.str n).agg ≠ []) && decide (field (m.str n).agg o 2 ≠ bad)
    then some (field (m.str n).agg o 2) else none
  let ix := rowFbIx e
  if l < 16 then (m.tstr l).cur.map fun i => (fOfInt i, pick)
  else if l < 32 then (if m.cellPick then (m.tstr (l - 16)).hi else none).map fun v => (fOfInt v, pick)
  else match rowFb e with
    | 0 => (m.tstr ix).cur.map fun i => (fOfInt i, pick)
    | 1 => (m.tstr ix).volt.map fun v => (fOfNat v, pick)
    | 2 => (m.dciMa ix).map fun v => (v, pick)
    | 3 => let x := tabGet ({} : RxSig) m.can.rx ix
           if x.valid then some (x.value, x.count) else none
    | 4 => let k := tabGet 0 m.drf.writes ix
           if k = 0 then none else some (tabGet 0 m.drf.vars ix, k)
    | 5 => (agg ix 26 0x8000).map fun v => (fOfInt (sInt 16 v), step)
    | 6 => (agg ix 20 0xFFFF).map fun v => (fOfNat v, step)
    | _ => none

/-! ### Notches (R401) -/

def twoPi : F32 := fq 62831853071795865 10000000000000000
def fPi : F32 := fq 31415926535897932 10000000000000000

/-- ω0 of a notch: `per` the tick interval in mains cycles, as a rational. -/
def notchOmega (h : F32) (num den : Nat) : F32 := fDiv (fMul (fMul twoPi h) (fOfNat num)) (fOfNat den)

/-- Mains cycles from one tick of a loop to the next: PERIOD / K, or the window length (R401). -/
def Module.tickCycles (l : Nat) (m : Module) : Nat × Nat :=
  if 16 ≤ l ∧ l < 32 ∧ m.windowMode = true then
    (if m.setting 0x0203 = 0 then (1, 2) else (2 ^ (m.setting 0x0203 - 1), 1))
  else (rowPeriod (m.lrow l), m.pickK)

/-- b0, b1 and a2; b2 = b0 and a1 = b1. -/
def notchCoef (h q : F32) (num den : Nat) : F32 × F32 × F32 :=
  let w := notchOmega h num den
  let al := fDiv (Config.fsin w) (fMul fTwo q)
  let d := fAdd fOne al
  (fDiv fOne d, fDiv (fMul (fNeg fTwo) (Config.fcos w)) d, fDiv (fSub fOne al) d)

/-- One biquad in transposed direct form II: output and its two states. -/
def biquad (c : F32 × F32 × F32) (settle : Bool) (s1 s2 x : F32) : F32 × F32 × F32 :=
  let (b0, b1, a2) := c
  if settle then let s := fMul (fSub b0 a2) x; (x, s, s)
  else
    let y := fAdd (fMul b0 x) s1
    (y, fAdd (fSub (fMul b1 x) (fMul b1 y)) s2, fSub (fMul b0 x) (fMul a2 y))

/-- Both notches on one value, NOTCH0 first. -/
def notches (e : Bytes) (num den : Nat) (l : Loop) (x : F32) : F32 × List F32 :=
  let st := fun i => l.notch.getD i 0
  let one := fun (i : Nat) (x : F32) =>
    let (h, q) := rowNotch e i
    if fIsZero h then (x, st (2 * i), st (2 * i + 1))
    else biquad (notchCoef h q num den) l.settle (st (2 * i)) (st (2 * i + 1)) x
  let (x1, a, b) := one 0 x
  let (y, c, d) := one 1 x1
  (y, [a, b, c, d])

/-- Take the feedback at a tick (R408, R415): the answer says whether it is fresh. -/
def Module.track (l : Nat) (m : Module) : Bool × Loop :=
  let x := m.loop l
  let (num, den) := m.tickCycles l
  let fb := (m.feedback l).filter fun p => p.2 ≠ x.seen
  let running := decide ((x.state = .run ∨ x.state = .stopping) ∧ x.lost = false)
  match fb with
  | some (v, k) =>
    let (y, ns) := notches (m.lrow l) num den x v
    (true, { x with raw := v, seen := k, age := 0, freshRun := x.freshRun + 1, y := y, notch := ns, settle := false })
  | none =>
    let x := { x with age := x.age + 1, freshRun := 0 }
    if running then
      let (y, ns) := notches (m.lrow l) num den x x.raw
      (false, { x with y := y, notch := ns })
    else (false, x)

/-! ### Ramp, clamp and computation (R399, R400, R403, R404) -/

def fSgn (x : F32) : Int := if fLt fZero x then 1 else if fLt x fZero then -1 else 0

/-- Move a value towards a goal by at most `step`; a rate of 0 is unlimited. -/
def fMove (x goal rate dt : F32) : F32 :=
  let step := fMul rate dt
  if fIsZero rate then goal
  else if fLt x goal then fMin (fAdd x step) goal
  else if fLt goal x then fMax (fSub x step) goal
  else goal

/-- The moving part of R403, after the dwell rules. -/
def rampMove (e : Bytes) (inst : Nat) (dt req : F32) (l : Loop) : Loop :=
  let goal := if fIsZero req || fIsZero l.rr || fSgn req = fSgn l.rr then req else fZero
  let rate := if fLt (fAbs l.rr) (fAbs goal) then rowUp e else rowDn e
  let rr := fMove l.rr goal rate dt
  let starts := !fIsZero l.rr && fIsZero rr && !fIsZero req && decide (fSgn req ≠ fSgn l.rr) && fLt fZero (rowDwell e)
  { l with rr := rr, ramping := !fEq rr goal
           dwell := if starts then some inst else none
           side := if starts then fSgn l.rr else l.side }

/-- DWELL_ZERO has elapsed at an instant. -/
def dwellOver (e : Bytes) (start inst : Nat) : Bool := fLe (rowDwell e) (fSecs (inst - start))

/-- The ramp at a tick (R403). -/
def ramp (e : Bytes) (inst : Nat) (dt req : F32) (l : Loop) : Loop :=
  match l.dwell with
  | none => rampMove e inst dt req l
  | some t0 =>
    if fIsZero req || fSgn req = l.side || dwellOver e t0 inst then rampMove e inst dt req { l with dwell := none }
    else { l with rr := fZero }

/-- The output bounds in force (R400). -/
def Module.outBounds (l : Nat) (m : Module) : F32 × F32 :=
  let e := m.lrow l
  if l < 16 then
    let b := match (m.loop (l + 16)).wrote with
      | some v => fMax (rowMin e) (fNeg v)
      | none => rowMin e
    (fMax b (fNeg (m.limChgF l)), fMin (rowMax e) (m.limDisF l))
  else if l < 32 then (fZero, fAbs (fOfInt (stMain (m.stepNow (l - 16)))))
  else
    let by_ := fun k => (List.range 224).filterMap fun i =>
      let s := i + 32
      if rowOut (m.lrow s) = k ∧ rowOutIx (m.lrow s) = l then (m.loop s).wrote else none
    ((by_ 4).foldl fMax (rowMin e), (by_ 3).foldl fMin (rowMax e))

/-- clamp with lo taken where lo lies above hi (R400). -/
def Module.clampOut (l : Nat) (v : F32) (m : Module) : F32 := let (lo, hi) := m.outBounds l; fClamp v lo hi

/-- The computation of R399 in state RUN: `yPrev` the feedback of the tick before. -/
def pid (e : Bytes) (dt yPrev lo hi : F32) (l : Loop) : Loop × F32 :=
  let s := fun x => if rowReverse e then fNeg x else x
  let er := s (fSub l.r l.y)
  let p := fMul (rowKp e) er
  let d := if fIsZero (rowKd e) then fZero
    else fDiv (fSub (fMul (rowTf e) l.d) (s (fMul (rowKd e) (fSub l.y yPrev)))) (fAdd (rowTf e) dt)
  let sum := fun i => fAdd (fAdd (fAdd (fMul (rowKff e) l.r) p) i) d
  let u := sum l.i
  let hold := (fLt hi u && fLt fZero er) || (fLt u lo && fLt er fZero)
  let i := if hold then l.i else fClamp (fAdd l.i (fMul (fMul (rowKi e) er) dt)) lo hi
  let v := fClamp (sum i) lo hi
  ({ l with p := p, d := d, i := i, lo := lo, hi := hi, computed := v, next := some v, satHi := fEq v hi, satLo := fEq v lo }, u)

/-- The start of a loop at its tick (R407): the computed output equals u0 within the bounds. -/
def startLoop (e : Bytes) (u0 lo hi : F32) (l : Loop) : Loop :=
  let u := fClamp u0 lo hi
  let er := if rowReverse e then fNeg (fSub l.r l.y) else fSub l.r l.y
  let p := fMul (rowKp e) er
  { l with p := p, d := fZero, i := fSub u (fAdd (fMul (rowKff e) l.r) p), lo := lo, hi := hi, computed := u, next := some u
           satHi := fEq u hi, satLo := fEq u lo, hist := [], dwell := none, lost := false, frozen := none }

/-- The set-point after the ramp: for a string loop clamped to the limits, which also sets rr (R404). -/
def Module.clampSp (l : Nat) (x : Loop) (m : Module) : Loop :=
  if 16 ≤ l then { x with r := x.rr, clamped := false }
  else
    let r := fClamp x.rr (fNeg (m.limChgF l)) (m.limDisF l)
    if fEq r x.rr then { x with r := r, clamped := false } else { x with r := r, rr := r, clamped := true }

/-! ### Sequencers (R422 to R429) -/

def Seq.active (q : Seq) : Bool := decide (q.state = 1 ∨ q.state = 2)

/-- Time in step at an instant, 0.25 ns (R423, R427). -/
def Seq.elapsed (inst : Nat) (q : Seq) : Nat := q.stoppedAt.getD inst - q.startAt

/-- The requested set-point of the sequencer (R422, R427, R429). -/
def Module.seqReq (n : Nat) (m : Module) : Int :=
  let q := m.seq n
  let e := m.stepNow n
  if q.state ≠ 1 then 0
  else match stType e with
    | 1 => stMain e
    | 2 => stMain e
    | 4 => if q.on then stMain e else stAux e
    | 5 => stMain e
    | _ => 0

/-- CV_ACTIVE (R428): the applied charge bound lies below |I_MAIN|. -/
def Module.cvActive (n : Nat) (m : Module) : Bool :=
  let e := m.stepNow n
  (m.seq n).active && stType e = 2 && (m.loop (n + 16)).wrote.isSome
    && fLt (m.loop (n + 16)).applied (fAbs (fOfInt (stMain e)))

/-- The charge bound loop of a string ends (R417, R428). -/
def Module.cvEnd (n : Nat) (m : Module) : Module :=
  m.updLoop (n + 16) fun x =>
    if x.state = .disabled then x
    else { x with state := .idle, due := false, startNow := none, wrote := none, next := none, lost := false, frozen := none }

/-- A sequence ends (R429): cause bit 6. -/
def Module.seqEnd (n state cause : Nat) (m : Module) : Module :=
  let inst := m.pck.instant
  ((m.updSeq n fun q => { q with state := state, cause := cause, stoppedAt := some (q.stoppedAt.getD inst) }).cvEnd n).tmpCause n 6

/-- Enter a step at the latest pick (R423, R424): GOTO chains are followed within it. `fuel` bounds the chain. -/
def Module.enterStep : Nat → Nat → Nat → Module → Module
  | 0, _, _, m => m
  | fuel + 1, n, k, m =>
    let rc := (m.recipe n).getD []
    let e := stepOf rc k
    let m := m.updSeq n fun q => { q with step := k }
    if stType e = 6 then
      let c := tabGet 0 (m.seq n).passes k
      if c < stCount e then
        Module.enterStep fuel n (stTarget e) (m.updSeq n fun q => { q with passes := tabPut 0 q.passes k (c + 1) })
      else Module.enterStep fuel n (k + 1) (m.updSeq n fun q => { q with passes := tabPut 0 q.passes k 0 })
    else
      let inst := m.pck.instant
      let m := m.updSeq n fun q =>
        { q with startPick := m.pck.index, startAt := inst, stoppedAt := none, ah := 0
                 pulses := if stType e = 4 then stCount e else 0, on := decide (stType e = 4), phaseAt := inst }
      if stType e = 0 then m.seqEnd n 3 1
      else if stType e = 2 then
        m.updLoop (n + 16) fun x => { x with due := true, u0 := some (fAbs (fOfInt (stMain e))) }
      else m

/-- The step ends (R423), with the code of R438: the next step starts at the same pick, or the sequence aborts. -/
def Module.stepEnd (n how : Nat) (m : Module) : Module :=
  let e := m.stepNow n
  let k := (m.seq n).step
  let m := m.updSeq n fun q => { q with lastEnd := how }
  if how = 5 && stFail e then m.seqEnd n 4 3
  else ((m.cvEnd n).tmpCause n 5).enterStep 4096 n (k + 1)

/-- 1 mAh in mA × 0.25 ns. -/
def mAhUnit : Nat := 14400000000000

/-- The end condition of the running step that holds at the latest pick, time apart, in the order of R423. -/
def Module.stepCond (n : Nat) (m : Module) : Option Nat :=
  let q := m.seq n
  let e := m.stepNow n
  let s := m.tstr n
  let ty := stType e
  let hi := if m.cellPick then s.hi else none
  let lo := if m.cellPick then s.lo else none
  let atLeast := fun (v : Nat) => hi.any fun x => decide ((v : Int) ≤ x)
  let atMost := fun (v : Int) => lo.any fun x => decide (x ≤ v)
  let vdis := match m.strPack n with
    | some pk => fFloor (packVDis pk) 1000000 1
    | none => -1
  let volt := (ty = 1 && stVlim e ≠ 0 && (if stMain e < 0 then atLeast (stVlim e) else atMost (stVlim e)))
    || (ty = 5 && (if stVlim e = 0 then atMost vdis else atMost (stVlim e)))
  let curr := ty = 2 && m.cvActive n && s.cur.any fun i => decide ((i.natAbs : Int) < stAux e)
  let ah := decide (ty = 1 ∨ ty = 2 ∨ ty = 5) && stAh e ≠ 0 && decide (stAh e * mAhUnit ≤ q.ah.natAbs)
  let count := ty = 4 && q.pulses = 0
  if volt then some 1 else if curr then some 2 else if ah then some 3 else if count then some 4 else none

/-- Judge the step of a running sequence at a pick after its start pick (R423). -/
def Module.seqJudge (n : Nat) (m : Module) : Module :=
  let q := m.seq n
  if q.state ≠ 1 ∨ m.pck.index ≤ q.startPick then m
  else match m.stepCond n with
    | some how => m.stepEnd n how
    | none => m

/-- What the temple takes of each string at a pick's release; step and total charge go on (R422, R427). A pick without a
valid current has no stated charge. -/
def Module.tmpRelease (m : Module) : Module :=
  let dt : Int := (m.pck.instant - m.pck.prevInstant : Nat)
  m.enabledChains.foldl (fun m n =>
    let c := m.pickCur n
    let cs := m.pickCells n
    let m := m.updTstr n fun s =>
      { s with cur := c, volt := m.pickVolt n, hi := if m.cellPick then maxInt cs else s.hi
               lo := if m.cellPick then minInt cs else s.lo }
    if (m.seq n).active then
      let q := (c.getD (sInt 32 (Config.freeNat m.free))) * dt
      let m := if c.isNone then m.useFree else m
      m.updSeq n fun x => { x with ah := x.ah + q, ahAll := x.ahAll + q }
    else m) m

/-! ### Requested set-points (R391, R394, R410, R419) -/

/-- String `n` takes its set-point from a draft variable (R435). -/
def Module.fromDraft (n : Nat) (m : Module) : Bool := (m.setting 0x0503).testBit n

def Module.request_ (l : Nat) (m : Module) : F32 :=
  let e := m.lrow l
  if l < 16 then
    if (m.loop l).state = .stopping then fZero
    else if m.sys.mode ≠ .dispatch ∧ m.sys.mode ≠ .formation then fZero
    else if m.fromDraft l then tabGet 0 m.drf.vars (240 + l)
    else if m.sys.mode = .dispatch then fOfInt (m.tstr l).alloc
    else fOfInt (m.seqReq l)
  else if l < 32 then fOfNat (stVlim (m.stepNow (l - 16)))
  else match rowSp e with
    | 0 => rowConst e
    | 1 => (m.loop l).host
    | 2 => tabGet 0 m.drf.vars (rowSpIx e)
    | _ => (tabGet ({} : RxSig) m.can.rx (rowSpIx e)).value

/-! ### Dispatch allocation (R419, R420) -/

/-- One pass of the allocation over the strings left: `w`, `v` and `lim` by string. -/
def allocPasses (w v lim : Nat → F32) : Nat → F32 → List Nat → List (Nat × F32) → List (Nat × F32)
  | 0, _, _, acc => acc
  | k + 1, rem, s, acc =>
    let den := fSum (s.map fun n => fMul (w n) (v n))
    if fLe den fZero || fIsNaN den then acc
    else
      let x := fDiv rem den
      let cur := s.map fun n => (n, fMul (w n) x)
      let ovr := (cur.filter fun p => fLt (lim p.1) p.2).map (·.1)
      let put := fun (acc : List (Nat × F32)) (ps : List (Nat × F32)) => (acc.filter fun a => !ps.any (·.1 = a.1)) ++ ps
      if ovr = [] then put acc cur
      else
        let acc := put (put acc cur) (ovr.map fun n => (n, lim n))
        let rem := ovr.foldl (fun r n => fSub r (fMul (lim n) (v n))) rem
        allocPasses w v lim k rem (s.filter fun n => !(ovr.any (· = n))) acc

/-- Allocation strings (R419). -/
def Module.allocStrings (m : Module) : List Nat :=
  m.enabledChains.filter fun n => !m.fromDraft n && decide ((m.loop n).state = .run) && (m.tstr n).volt.isSome

/-- SOC_MEAN of a string as a fraction; without a valid one the manual gives SOC_n no value, so it is free. -/
def Module.allocSoc (n : Nat) (m : Module) : F32 :=
  let a := (m.str n).agg
  if a = [] ∨ field a 20 2 = 0xFFFF then Config.freeF32 (m.free + n) else fq (field a 20 2) 10000

/-- Allocate P_set (R419, R420). -/
def Module.allocate (m : Module) : Module :=
  let ss := m.allocStrings
  let p := m.tmp.pSet
  let dis := decide (0 < p)
  let amps := fun f => fDiv f (fq 1000 1)
  let lim := fun n => amps (if dis then m.limDisF n else m.limChgF n)
  let v := fun n => fq ((m.tstr n).volt.getD 0) 1000
  let soc := fun n => m.allocSoc n
  let avg := fDiv (fSum (ss.map soc)) (fOfNat ss.length)
  let g := m.setF 0x0502 100
  let w := fun n => match m.setting 0x0501 with
    | 0 => fOne
    | 1 => fMax fZero (fAdd fOne (fMul (if dis then g else fNeg g) (fSub (soc n) avg)))
    | _ => lim n
  let absP := fOfNat p.natAbs
  let res := allocPasses w v lim 16 absP ss []
  let got := fSum (ss.filterMap fun n => (res.find? (·.1 = n)).map fun q => fMul q.2 (v n))
  let short := fTrunc (fSub absP got) 1 1
  let sh := sat32s (max 0 short)
  let sgn : Int := if p < 0 then -1 else 1
  let m := (List.range 16).foldl (fun m n =>
    match res.find? (·.1 = n) with
    | some q =>
      let full := fEq q.2 (lim n)
      let m := m.updTstr n fun s => { s with inAlloc := true, full := full, alloc := sgn * fTrunc q.2 1000 1 }
      if full && decide (sh ≠ 0) then m.tmpCause n 4 else m
    | none => m.updTstr n fun s => { s with inAlloc := decide (n ∈ ss), full := false, alloc := 0 }) m
  (m.onFree (· + 16)).onTmp fun t => { t with pAlloc := some (sat32s (sgn * fTrunc got 1 1)), short := some sh, allocPick := m.pck.index }

/-! ### Outputs (R394, R398, R405, R417) -/

/-- Write an exchange variable (R472, R473). -/
def Module.varWrite (i : Nat) (v : F32) (m : Module) : Module :=
  m.onDrf fun d => { d with vars := tabPut 0 d.vars i v, writes := tabUpd 0 d.writes i (· + 1) }

/-- Write a CAN transmit signal. -/
def Module.txWrite (i : Nat) (v : F32) (m : Module) : Module :=
  m.onCan fun c => { c with tx := tabPut none c.tx i (some v) }

/-- The applied output reaches its destination (R394, R428); a bound only while the loop is not IDLE. -/
def Module.outWrite (l : Nat) (m : Module) : Module :=
  let e := m.lrow l
  let x := m.loop l
  let live := decide (x.state ≠ .idle ∧ x.state ≠ .disabled)
  if l < 16 then m
  else if l < 32 then (if live then m.updLoop l fun x => { x with wrote := some (fMax fZero x.applied) } else m)
  else match rowOut e with
    | 1 => m.txWrite (rowOutIx e) x.applied
    | 2 => m.varWrite (rowOutIx e) x.applied
    | 3 => if live then m.updLoop l fun x => { x with wrote := some x.applied } else m
    | 4 => if live then m.updLoop l fun x => { x with wrote := some x.applied } else m
    | _ => m

/-- A string loop leaves STOPPING (R410, R411): cause bit 7. -/
def Module.stopEnd (l : Nat) (m : Module) : Module :=
  (m.updLoop l fun x => { x with state := .idle, applied := 0, next := none, lost := false, frozen := none, dwell := none }).tmpCause l 7

/-- Apply a value, with the late clamp for a string loop (R405). -/
def Module.applyOut (l : Nat) (v : F32) (m : Module) : Module :=
  if 16 ≤ l then (m.updLoop l fun x => { x with applied := v, next := none, lateClamp := false }).outWrite l
  else
    let c := fClamp v (fNeg (m.limChgF l)) (m.limDisF l)
    let late := !fEq c v
    let m := m.updLoop l fun x => { x with applied := c, next := none, lateClamp := late }
    if late then (m.bump 0x09001C).tmpCause l 4 else m

/-- What loop `l` applies at its tick (R398 step 1, R407, R409, R411, R414, R417). -/
def Module.applyLoop (l : Nat) (m : Module) : Module :=
  let e := m.lrow l
  let inst := m.pck.instant
  let x := m.loop l
  let m := m.updLoop l fun x => { x with tickPick := m.pck.index, prevAt := x.tickAt, tickAt := inst, lateClamp := false }
  let dt := fSecs (inst - x.tickAt)
  if x.due && decide (x.state = .idle ∨ x.state = .stopping) then
    if l < 16 then
      let u0 := match (m.tstr l).cur with
        | some i => fOfInt i
        | none => Config.freeF32 m.free
      (m.updLoop l fun x => { x with state := .run, due := false, startNow := some u0, applied := u0, next := none }).useFree
    else
      let u0 := x.u0.getD x.applied
      m.updLoop l fun x => { x with state := .run, due := false, startNow := some u0, u0 := none, applied := u0, next := none }
  else match x.state with
    | .disabled => m
    | .idle =>
      if l < 32 ∨ x.applied = rowFall e then m
      else (m.updLoop l fun x => { x with applied := fMove x.applied (rowFall e) (rowFallRamp e) dt }).outWrite l
    | .fbHold => m.applyOut l x.applied
    | .fbFallback => m.applyOut l (fMove x.applied (rowFall e) (rowFallRamp e) dt)
    | .stopping =>
      if x.lost || x.frozen.isSome then
        let v := fMove x.applied fZero (rowDn e) dt
        let m := m.applyOut l v
        if fIsZero (m.loop l).applied then m.stopEnd l else m
      else match x.next with
        | some v => m.applyOut l v
        | none => m
    | .run => match x.next with
      | some v => m.applyOut l v
      | none => m

/-! ### Reference frames (R431 to R433) -/

def f2int (x : F32) : Int := if fIsInf x then (if fSign x then -2147483647 else 2147483647) else sat32s (fTrunc x 1 1)

/-- ENABLE and REF of a string's slot (R433). -/
def Module.slotOf (n : Nat) (m : Module) : Bool × Int :=
  let x := m.loop n
  if !m.chainEnabled n || m.sys.mode = .safeHold then (false, 0)
  else match x.state with
    | .disabled => (false, 0)
    | .idle => (false, 0)
    | _ => (true, f2int x.applied)

def Module.slotFlags (n : Nat) (m : Module) : Nat :=
  let x := m.loop n
  bit (x.clamped || x.lateClamp) + 2 * bit (decide (x.state = .fbHold ∨ x.state = .fbFallback)) + 4 * bit x.stale

/-- STATE of a channel's frame (R432). -/
def Module.chState (c : Nat) (m : Module) : Nat :=
  if (List.range 4).any fun k => (m.loop (4 * c + k)).state = .stopping then 3
  else match m.sys.mode with
    | .dispatch => 1
    | .formation => 2
    | .safeHold => 4
    | _ => 0

/-- The 32 data bytes of a channel's frame. -/
def Module.refBytes (c count : Nat) (m : Module) : Bytes :=
  let ss := (List.range 4).map (4 * c + ·)
  [0x01] ++ leBytes 1 c ++ leBytes 1 (maskOf 4 fun k => (m.slotOf (4 * c + k)).1) ++ leBytes 1 (m.chState c)
    ++ leBytes 2 count ++ zeros 2 ++ leBytes 4 m.pck.index ++ ss.flatMap (fun n => leBytes 4 (ofInt 32 (m.slotOf n).2))
    ++ leBytes 2 (ss.foldr (fun n a => m.slotFlags n + 16 * a) 0) ++ zeros 2

/-- Send the frame of a channel. -/
def Module.refSend (c : Nat) (m : Module) : Module :=
  let count := (tabGet 0 m.tmp.counters c + 1) % 65536
  let b := m.refBytes c count
  let m := (List.range 4).foldl (fun m k => m.updTstr (4 * c + k) fun s => { s with ref := (m.slotOf (4 * c + k)).2 }) m
  let m := m.onTmp fun t => { t with counters := tabPut 0 t.counters c count }
  m.canQueue (m.chCan c) (.ref c) (idWord (m.chSet c) + 2 ^ 30 + 2 ^ 31 * bit (m.chBrs c)) b

/-- A channel sends at the ticks of its loops (R431). -/
def Module.chTicks (c : Nat) (m : Module) : Bool := (List.range 4).any fun k => m.ticks (4 * c + k)

/-- Every loop tick that belongs to the latest pick has fired (R78). -/
def Module.loopsTicked (m : Module) : Bool :=
  decide (m.tmp.appliedPick = some m.pck.index) || decide (m.tickList = [])

/-- LOOP_TICK (R398 step 1, R431): once at a pick instant. The ticks of a pick passed by a jump fire LATE with it (R77,
R397). -/
def Module.loopTick (m : Module) : Module :=
  if m.inBoot || !m.pck.running || m.tmp.appliedPick = some m.pck.index then m
  else
    let m := m.tickList.foldl (fun m l => (if m.pck.jumped then m.lateEvent else m).applyLoop l) m
    let m := (List.range 4).foldl (fun m c => if m.chTicks c then m.refSend c else m) m
    m.onTmp fun t => { t with appliedPick := some m.pck.index }

/-! ### The computation at a tick (R398 step 3, R406, R410, R415 to R417) -/

/-- Feedback fault: the loop holds its output (R417). -/
def holdLoop (inst : Nat) (x : Loop) : Loop := { x with state := .fbHold, next := none, holdAt := inst, freshRun := 0 }

/-- The feedback is frozen (R416): the latest fresh values are one value, and the unsaturated output has moved. -/
def frozenAt (e : Bytes) (x : Loop) (v u : F32) : Bool :=
  let f := rowFrozenF e
  let h := x.hist.take f
  f ≠ 0 && h.length = f && h.all (fun p => p.1 = v) && (match h.getLast? with
    | some p => fLt (rowDu e) (fAbs (fSub u p.2))
    | none => false)

/-- One ticking loop's computation; the clamp of R404 acts in every state but IDLE and DISABLED (R408, R417). -/
def Module.computeLoop (l : Nat) (m : Module) : Module :=
  let e := m.lrow l
  let old := m.loop l
  let (fresh, x) := m.track l
  let x := { x with stale := false }
  let dt := fSecs (x.tickAt - x.prevAt)
  let (lo, hi) := m.outBounds l
  let req := m.request_ l
  let stale := decide (l < 16) && !m.x2Valid
  let m := if stale then m.tmpCause l 4 else m
  let x := { x with stale := stale, req := req }
  let start := fun (u0 : F32) (m : Module) =>
    let x := { x with rr := x.y, state := .run, startNow := none, ramping := false }
    let x := m.clampSp l x
    let x := startLoop e u0 lo hi { x with dwell := none }
    m.updLoop l fun _ => { x with ramping := !fEq x.rr req }
  let go := fun (x : Loop) (m : Module) =>
    let x := if stale then x else ramp e x.tickAt dt req x
    let x := m.clampSp l x
    let (x1, u) := pid e dt old.y lo hi x
    let hist := if fresh then ((x.raw, u) :: x.hist).take 255 else x.hist
    if fresh && frozenAt e x x.raw u then
      let m := (m.bump 0x090024).tmpCause l 1
      if x.state = .stopping then m.updLoop l fun _ => { x with frozen := some x.raw, next := none, hist := hist }
      else m.updLoop l fun _ => holdLoop x.tickAt { x with frozen := some x.raw, hist := hist }
    else m.updLoop l fun _ => { x1 with hist := hist }
  match x.startNow with
  | some u0 => start u0 m
  | none => match x.state with
    | .disabled => m.updLoop l fun _ => { x with clamped := false }
    | .idle => m.updLoop l fun _ => { x with clamped := false }
    | .run => if rowLostN e < x.age then m.updLoop l fun _ => m.clampSp l x else go x m
    | .stopping =>
      if x.lost || x.frozen.isSome || rowLostN e < x.age then m.updLoop l fun _ => m.clampSp l x
      else
        let m := go x m
        let y := m.loop l
        if fIsZero y.rr && fLe (fAbs y.y) (fOfNat (m.setting 0x0505)) then m.stopEnd l else m
    | _ =>
      let back := match x.frozen with
        | some v => fresh && decide (x.raw ≠ v)
        | none => decide (2 ≤ x.freshRun)
      if back then (start x.applied m).tmpCause l 3 else m.updLoop l fun _ => m.clampSp l x

/-- LOOP_COMPUTE (R398 steps 2 and 3): once after a pick's release; `time` is step 4 of R402, in 10 ns. -/
def Module.loopCompute (time : Nat) (m : Module) : Module :=
  if m.inBoot || !m.pck.released || m.tmp.computedPick = some m.pck.index then m
  else
    let ts := m.tickList
    let strs := ts.filter (· < 16)
    let m := if m.sys.mode = .dispatch && decide (strs ≠ []) then m.allocate else m
    let m := (List.range 16).foldl (fun m n => m.seqJudge n) m
    let stale := decide (strs ≠ []) && !m.x2Valid
    let m := if stale then m.bump 0x090018 else m
    let m := ts.foldl (fun m l => m.computeLoop l) m
    m.onTmp fun t =>
      { t with computedPick := some m.pck.index
               stale := if strs = [] then t.stale else stale
               tickLast := if ts = [] then t.tickLast else satU16 time
               tickMax := if ts = [] then t.tickMax else max t.tickMax (satU16 time) }

/-! ### What a time that has run brings about -/

/-- FB_LOST (R415): AGE exceeds FB_LOST_N. -/
def Module.fbLost (l : Nat) (m : Module) : Module :=
  let x := m.loop l
  if x.lost || x.age ≤ rowLostN (m.lrow l) then m
  else match x.state with
    | .run => ((m.updLoop l fun x => holdLoop m.pck.instant { x with lost := true }).bump 0x090020).tmpCause l 0
    | .stopping => ((m.updLoop l fun x => { x with lost := true, next := none }).bump 0x090020).tmpCause l 0
    | _ => m

/-- FB_HOLD_TIMEOUT (R417): HOLD_TIME has elapsed since entry; a running sequence of the string aborts (R426). -/
def Module.holdTimeout (l t : Nat) (m : Module) : Module :=
  let m := m.tick t
  let x := m.loop l
  if x.state = .fbHold && fLe (rowHold (m.lrow l)) (fSecs (t - x.holdAt)) then
    let m := (m.updLoop l fun x => { x with state := .fbFallback }).tmpCause l 2
    if l < 16 && (m.seq l).active then m.seqEnd l 4 6 else m
  else m

/-- DWELL_END (R403): DWELL_ZERO has elapsed. -/
def Module.dwellEnd (l t : Nat) (m : Module) : Module :=
  let m := m.tick t
  match (m.loop l).dwell with
  | some t0 => if dwellOver (m.lrow l) t0 t then m.updLoop l fun x => { x with dwell := none } else m
  | none => m

/-- STOP_TIMEOUT (R411): still STOPPING TMP_STOP_TIMEOUT after the mode change; a return to driving has ended the stop (R413). -/
def Module.stopTimeout (l t : Nat) (m : Module) : Module :=
  let m := m.tick t
  let x := m.loop l
  if x.state = .stopping ∧ x.due = false ∧ x.stopAt + secs (m.setting 0x0504) ≤ t then (m.bump 0x090028).stopEnd l else m

/-- STEP_TIME_EXPIRY (R423): T_MAX has elapsed at the latest pick; an earlier condition of R423's order goes first. -/
def Module.stepTime (n : Nat) (m : Module) : Module :=
  let q := m.seq n
  let e := m.stepNow n
  if q.state ≠ 1 ∨ m.pck.index ≤ q.startPick ∨ stTmax e = 0 ∨ q.elapsed m.pck.instant < msec (stTmax e) then m
  else m.stepEnd n ((m.stepCond n).getD 5)

/-- PULSE_PHASE_END (R422): T_ON or T_OFF has elapsed. -/
def Module.pulsePhase (n t : Nat) (m : Module) : Module :=
  let m := m.tick t
  let q := m.seq n
  let e := m.stepNow n
  let dur := msec (if q.on then stOn e else stOff e)
  if q.state ≠ 1 ∨ stType e ≠ 4 ∨ q.pulses = 0 ∨ t < q.phaseAt + dur then m
  else if q.on then m.updSeq n fun q => { q with on := false, phaseAt := q.phaseAt + dur }
  else m.updSeq n fun q => { q with on := decide (1 < q.pulses), pulses := q.pulses - 1, phaseAt := q.phaseAt + dur }

/-! ### Modes and commits (R407, R410, R412 to R414, R417, R418, R429) -/

/-- Every loop ends at the entry into SAFE-HOLD (R412). -/
def Module.tmpSafe (m : Module) : Module :=
  let m := (List.range 256).foldl (fun m l =>
    let x := m.loop l
    if x.state = .disabled then m
    else
      let v := if l < 32 then fZero else rowFall (m.lrow l)
      (m.updLoop l fun x => { x with state := .idle, due := false, startNow := none, u0 := none, next := none, applied := v
                                     wrote := none, lost := false, frozen := none, dwell := none }).outWrite l) m
  (List.range 16).foldl (fun m n => if (m.seq n).active then m.seqEnd n 4 4 else m) m

/-- A loop's change at a mode change other than into SAFE-HOLD. -/
def Module.loopMode (old new : Mode) (l : Nat) (m : Module) : Module :=
  let x := m.loop l
  let on := m.drives l new
  if x.state = .disabled then m
  else if l < 16 then
    if on then (if x.state = .idle ∨ x.state = .stopping then m.updLoop l fun x => { x with due := true } else m)
    else if x.state = .idle ∨ x.state = .stopping then m.updLoop l fun x => { x with due := false }
    else if old = .dispatch ∨ old = .formation then
      m.updLoop l fun x => { x with state := .stopping, stopAt := m.sys.clock, due := false }
    else m
  else if l < 32 then (if old = .formation then m.cvEnd (l - 16) else m)
  else if on then (if x.state = .idle then m.updLoop l fun x => { x with due := true } else m)
  else m.updLoop l fun x =>
    { x with state := .idle, due := false, startNow := none, next := none, wrote := none, lost := false, frozen := none }

/-- The temple's part of a mode change at a pick boundary. -/
def Module.tmpMode (old new : Mode) (m : Module) : Module :=
  if new = .safeHold then m.tmpSafe
  else
    let m := if new = .dispatch then
        (List.range 16).foldl (fun m n => m.updTstr n fun s => { s with alloc := 0, inAlloc := false, full := false })
          (m.onTmp fun t => { t with pSet := 0 })
      else m
    let m := if old = .formation then
        (List.range 16).foldl (fun m n => if (m.seq n).active then m.seqEnd n 4 5 else m) m
      else m
    (List.range 256).foldl (fun m l => m.loopMode old new l) m

/-- A commit, or the load of settings, brings a loop table into force (R396, R401, R417): `coef` where K or a notch has
changed. -/
def Module.tmpTable (settle : Bool) (old : Module) (m : Module) : Module :=
  (List.range 256).foldl (fun m l =>
    let e := m.lrow l
    let on := rowOn e
    let x := m.loop l
    let changed := settle || decide ((old.lrow l).drop 56 |>.take 16 |> (· ≠ (e.drop 56).take 16))
      || decide (old.tickCycles l ≠ m.tickCycles l)
    if on && decide (x.state = .disabled) then
      (m.updLoop l fun x => { x with state := .idle, applied := rowFall e, settle := true }).outWrite l
    else if !on && decide (x.state ≠ .disabled) then
      (m.updLoop l fun x => { x with state := .disabled, due := false, startNow := none, next := none, wrote := none
                                     applied := rowFall (old.lrow l) }).outWrite l
    else if changed && on then m.updLoop l fun x => { x with settle := true }
    else m) m

end Sys2Proof.Machine
end

