-- ==== Sys2Proof/Machine/Temple.lean ====
section
/-! DEFINITION. Machine/Temple.lean: the temple events, opcodes, registers and settings checks (R391 to R448). -/
namespace Sys2Proof.Machine

/-! ### Events -/

def execLoopTick (s : State) : Host.Outcome State Fault Refusal := s.go Module.loopTick
def execLoopCompute (time : Nat) (s : State) : Host.Outcome State Fault Refusal := s.go (·.loopCompute time)
def execFbLost (loop : Nat) (s : State) : Host.Outcome State Fault Refusal := s.go (·.fbLost loop)
def execFbHoldTimeout (loop t : Nat) (s : State) : Host.Outcome State Fault Refusal := s.go (·.holdTimeout loop t)
def execDwellEnd (loop t : Nat) (s : State) : Host.Outcome State Fault Refusal := s.go (·.dwellEnd loop t)
def execStopTimeout (loop t : Nat) (s : State) : Host.Outcome State Fault Refusal := s.go (·.stopTimeout loop t)
def execStepTimeExpiry (string : Nat) (s : State) : Host.Outcome State Fault Refusal := s.go (·.stepTime string)
def execPulsePhaseEnd (string t : Nat) (s : State) : Host.Outcome State Fault Refusal := s.go (·.pulsePhase string t)

/-! ### Opcodes (R436, R440) -/

/-- DISPATCH_SET (R418): in force from the pick boundary after acceptance. -/
def cmdDispatchSet (r : Req) (m : Module) : Resp :=
  m.checks r 4 true .operate <| if m.sys.mode ≠ .dispatch then .fail .wrongMode m else .wait [] [] m
def execDispatchSet (r : Req) (s : State) : Host.Outcome State Fault Refusal := s.go (·.request 0x0500 cmdDispatchSet r)
/-- The boundary of DISPATCH_SET. -/
def Module.applyDispatch (p : Bytes) (m : Module) : Module := m.onTmp fun t => { t with pSet := sInt 32 (leNat p) }

def loopCode : LoopState → Nat
  | .disabled => 0 | .idle => 1 | .run => 2 | .fbHold => 3 | .fbFallback => 4 | .stopping => 5

/-- A string's entry of DISPATCH_GET (R437). -/
def Module.dispEntry (n : Nat) (m : Module) : Bytes :=
  let x := m.loop n
  let s := m.tstr n
  let fl := bit s.inAlloc + 2 * bit s.full + 4 * bit s.volt.isNone + 8 * bit x.stale + 16 * bit x.lateClamp
    + 32 * bit (m.fromDraft n)
  leBytes 4 (ofInt 32 (f2int x.req)) ++ leBytes 4 (ofInt 32 (f2int x.r)) ++ leBytes 4 (ofInt 32 (f2int x.applied))
    ++ leBytes 1 fl ++ leBytes 1 (loopCode x.state) ++ zeros 2

/-- A power as R14 encodes it. -/
def powerField (v : Option Int) : Nat := match v with
  | some x => ofInt 32 x
  | none => 0x80000000

/-- DISPATCH_GET (R437). -/
def cmdDispatchGet (r : Req) (m : Module) : Resp :=
  m.checks r 0 true .observe <|
    let t := m.tmp
    .done (leBytes 4 (ofInt 32 t.pSet) ++ leBytes 4 (powerField t.pAlloc) ++ leBytes 4 (powerField t.short) ++ zeros 4
      ++ leBytes 8 t.allocPick ++ (List.range 16).flatMap fun n => m.dispEntry n) m
def execDispatchGet (r : Req) (s : State) : Host.Outcome State Fault Refusal := s.go (·.request 0x0501 cmdDispatchGet r)

/-- TMP_SP_SET (R436): in force at the next pick boundary. -/
def cmdTmpSpSet (r : Req) (m : Module) : Resp :=
  let l := byteAt r.payload 0
  m.checks r 8 (decide (32 ≤ l) && rowSp (m.lrow l) = 1) .operate (.wait [] [] m)
def execTmpSpSet (r : Req) (s : State) : Host.Outcome State Fault Refusal := s.go (·.request 0x0502 cmdTmpSpSet r)
def Module.applySp (p : Bytes) (m : Module) : Module := m.updLoop (byteAt p 0) fun x => { x with host := fField p 4 }

/-- TMP_LPl_STATE (R445). -/
def Module.loopStateReg (l : Nat) (m : Module) : Nat :=
  let x := m.loop l
  loopCode x.state + 8 * bit x.clamped + 16 * bit x.satHi + 32 * bit x.satLo + 64 * bit x.lateClamp + 128 * bit x.stale
    + 256 * min x.age 255 + 0x10000 * bit x.dwell.isSome + 0x20000 * bit x.ramping

/-- TMP_LOOP_GET (R439). -/
def cmdTmpLoopGet (r : Req) (m : Module) : Resp :=
  m.checks r 4 true .observe <|
    let l := byteAt r.payload 0
    let x := m.loop l
    .done (leBytes 4 (m.loopStateReg l) ++ leBytes 8 x.tickPick ++ fBytes x.req ++ fBytes x.rr ++ fBytes x.r ++ fBytes x.raw
      ++ fBytes x.y ++ fBytes x.p ++ fBytes x.i ++ fBytes x.d ++ fBytes x.computed ++ fBytes x.applied ++ fBytes x.lo
      ++ fBytes x.hi ++ zeros 4) m
def execTmpLoopGet (r : Req) (s : State) : Host.Outcome State Fault Refusal := s.go (·.request 0x0503 cmdTmpLoopGet r)

/-- TMP_LOOP_TABLE_GET (R436). -/
def cmdTmpLoopTableGet (r : Req) (m : Module) : Resp := m.checks r 0 true .observe (.done m.loopBytes m)
def execTmpLoopTableGet (r : Req) (s : State) : Host.Outcome State Fault Refusal :=
  s.go (·.request 0x0505 cmdTmpLoopTableGet r)

/-- FORM_RECIPE_GET (R436): an empty recipe reads as zeros. -/
def cmdFormRecipeGet (r : Req) (m : Module) : Resp :=
  let n := byteAt r.payload 0
  m.checks r 4 (n ≤ 15) .observe (.done ((m.recipe n).getD (zeros 2080)) m)
def execFormRecipeGet (r : Req) (s : State) : Host.Outcome State Fault Refusal := s.go (·.request 0x0507 cmdFormRecipeGet r)

/-- The strings a mask names. -/
def formMask (p : Bytes) : List Nat := maskList 16 (field p 0 2)
def Module.formMaskOk (p : Bytes) (m : Module) : Bool := (formMask p).all fun n => m.chainEnabled n

/-- FORM_START's start step lies below STEPS of every named recipe. -/
def Module.startOk (p : Bytes) (m : Module) : Bool := (formMask p).all fun n => match m.recipe n with
  | some rc => decide (byteAt p 2 < recipeSteps rc)
  | none => true

/-- Every named string meets what the opcode needs of it (R440). -/
def Module.formReady (op : Nat) (p : Bytes) (m : Module) : Bool :=
  (formMask p).all fun n =>
    let q := m.seq n
    if op = 0x0508 then !q.active && (m.recipe n).isSome
    else if op = 0x0509 then decide (q.state = 1)
    else if op = 0x050A then decide (q.state = 2)
    else q.active

/-- The four sequencer opcodes: in effect at the next pick boundary. -/
def Module.formReq (op : Nat) (ok : Bool) (r : Req) (m : Module) : Resp :=
  m.checks r 4 (m.formMaskOk r.payload && ok) .operate <|
    if m.sys.mode ≠ .formation then .fail .wrongMode m
    else if !m.formReady op r.payload then .fail .busy m
    else .wait [] [] m

def cmdFormStart (r : Req) (m : Module) : Resp := m.formReq 0x0508 (m.startOk r.payload) r
def execFormStart (r : Req) (s : State) : Host.Outcome State Fault Refusal := s.go (·.request 0x0508 cmdFormStart r)
def cmdFormPause (r : Req) (m : Module) : Resp := m.formReq 0x0509 true r
def execFormPause (r : Req) (s : State) : Host.Outcome State Fault Refusal := s.go (·.request 0x0509 cmdFormPause r)
def cmdFormResume (r : Req) (m : Module) : Resp := m.formReq 0x050A true r
def execFormResume (r : Req) (s : State) : Host.Outcome State Fault Refusal := s.go (·.request 0x050A cmdFormResume r)
def cmdFormAbort (r : Req) (m : Module) : Resp := m.formReq 0x050B true r
def execFormAbort (r : Req) (s : State) : Host.Outcome State Fault Refusal := s.go (·.request 0x050B cmdFormAbort r)

/-- One string's part of a sequencer opcode at its boundary (R424, R427, R429). -/
def Module.applyFormOne (op : Nat) (p : Bytes) (n : Nat) (m : Module) : Module :=
  let inst := m.pck.instant
  if op = 0x0508 then
    (m.updSeq n fun _ => { state := 1, startAt := inst }).enterStep 4096 n (byteAt p 2)
  else if op = 0x0509 then m.updSeq n fun q => { q with state := 2, stoppedAt := some inst }
  else if op = 0x050A then
    m.updSeq n fun q =>
      let gap := inst - q.stoppedAt.getD inst
      { q with state := 1, stoppedAt := none, startAt := q.startAt + gap, phaseAt := q.phaseAt + gap }
  else m.seqEnd n 4 2

/-- The boundary of a sequencer opcode: for every named string or for none (R440). -/
def Module.applyForm (op : Nat) (p : Bytes) (m : Module) : Status × Module :=
  if !m.formReady op p then (.busy, m) else (.done, (formMask p).foldl (fun m n => m.applyFormOne op p n) m)

/-- Time in step and charges as reported, at the latest pick. -/
def Module.stepMs (n : Nat) (m : Module) : Nat :=
  let q := m.seq n
  if q.state = 0 then 0 else min ((q.elapsed m.pck.instant) / msec 1) 0xFFFFFFFF
def ahField (a : Int) : Nat := ofInt 32 (sat32s (if a < 0 then -((a.natAbs / mAhUnit : Nat) : Int) else (a.natAbs / mAhUnit : Nat)))

/-- A FORM_STATUS_GET entry (R438). -/
def Module.formEntry (n : Nat) (m : Module) : Bytes :=
  let q := m.seq n
  leBytes 1 n ++ leBytes 1 q.state ++ leBytes 1 q.step ++ leBytes 1 q.cause ++ leBytes 1 q.lastEnd
    ++ leBytes 1 (bit (m.cvActive n)) ++ leBytes 2 q.pulses ++ leBytes 4 (m.stepMs n) ++ leBytes 4 (ahField q.ah)
    ++ leBytes 8 q.startPick ++ leBytes 4 (ahField q.ahAll) ++ zeros 4

/-- FORM_STATUS_GET (R438). -/
def cmdFormStatusGet (r : Req) (m : Module) : Resp :=
  m.checks r 4 (m.formMaskOk r.payload) .observe (.done ((formMask r.payload).flatMap fun n => m.formEntry n) m)
def execFormStatusGet (r : Req) (s : State) : Host.Outcome State Fault Refusal := s.go (·.request 0x050C cmdFormStatusGet r)

/-! ### Registers (R441 to R447) -/

/-- TMP_STATUS (R442). -/
def Module.tmpStatus (m : Module) : Nat :=
  let any := fun (p : LoopState → Bool) => (List.range 256).any fun l => p (m.loop l).state
  bit (decide (m.sys.mode = .dispatch ∨ m.sys.mode = .formation)) + 2 * bit (any fun s => s = .stopping) + 4 * bit m.tmp.stale
    + 8 * bit (m.tmp.short.any fun v => v ≠ 0) + 16 * bit (any fun s => decide (s = .fbHold ∨ s = .fbFallback))
    + 32 * bit ((List.range 16).any fun n => (m.seq n).active)
    + 256 * ((List.range 256).filter fun l => (m.loop l).state ≠ .disabled).length

/-- TMP_CFG (R443). -/
def Module.tmpCfg (m : Module) : Nat :=
  m.setting 0x0501 + 16 * maskOf 4 (fun c => m.chUsed c) + 256 * m.setting 0x0503 + 0x1000000 * m.setting 0x0504

/-- TMP_STRn_SEQ (R446). -/
def Module.seqReg (n : Nat) (m : Module) : Nat :=
  let q := m.seq n
  q.state + 8 * q.lastEnd + 256 * q.step + 0x10000 * q.cause + 0x80000 * bit (m.cvActive n)

/-- Temple registers (R441); the counters are in the counter table. -/
def Module.tmpReg (off : Nat) (m : Module) : Option Nat :=
  let o := off - 0x090000
  if off < 0x090000 then none
  else if o = 0x00 then some m.tmpStatus
  else if o = 0x04 then some m.tmpCfg
  else if o = 0x08 then some (ofInt 32 m.tmp.pSet)
  else if o = 0x0C then some (powerField m.tmp.pAlloc)
  else if o = 0x10 then some (powerField m.tmp.short)
  else if o = 0x14 then some (m.tmp.tickLast + 0x10000 * m.tmp.tickMax)
  else if 0x18 ≤ o ∧ o ≤ 0x28 then some (m.counter off)
  else if 0x100 ≤ o ∧ o < 0x200 then some (tabGet 0 m.tmp.causes ((o - 0x100) / 4))
  else if 0x1000 ≤ o ∧ o < 0x2000 then
    let l := (o - 0x1000) / 16
    match (o - 0x1000) % 16 / 4 with
    | 0 => some (m.loopStateReg l)
    | 1 => some (m.loop l).r.toNat
    | 2 => some (m.loop l).y.toNat
    | _ => some (m.loop l).applied.toNat
  else if 0x2000 ≤ o ∧ o < 0x2200 then
    let n := (o - 0x2000) / 32
    match (o - 0x2000) % 32 / 4 with
    | 0 => some (ofInt 32 (f2int (m.loop n).req))
    | 1 => some (ofInt 32 (f2int (m.loop n).r))
    | 2 => some (ofInt 32 (m.tstr n).ref)
    | 3 => some (m.seqReg n)
    | 4 => some (m.stepMs n)
    | 5 => some (ahField (m.seq n).ah)
    | _ => none
  else none

/-! ### Checks of a commit (R392, R395, R401, R430, R431, R434) -/

/-- The table's header and CRC (R393). -/
def loopHeaderOk (t : Option Bytes) : Bool := match t with
  | none => true
  | some b => decide (b.length = 32800 ∧ b.take 4 = [0x4C, 0x54, 0x42, 0x01] ∧ field b 28 4 = crc32c (b.take 28 ++ b.drop 32))

def fNonNeg (x : F32) : Bool := fLe fZero x

/-- The fields of an enabled record (R393, R395), notches apart. -/
def rowOk (l : Nat) (e : Bytes) : Bool :=
  decide (1 ≤ rowPeriod e ∧ rowPeriod e ≤ 256 ∧ rowPhase e < rowPeriod e)
    && ((List.range 15).all fun i => fFinite (fField e (12 + 4 * i))) && fFinite (rowDu e) && fFinite (rowHold e)
    && fFinite (rowFall e) && fFinite (rowFallRamp e) && fLt (rowMin e) (rowMax e)
    && fNonNeg (rowKi e) && fNonNeg (rowKd e) && fNonNeg (rowTf e) && fNonNeg (rowUp e) && fNonNeg (rowDn e)
    && fNonNeg (rowFallRamp e) && !(fIsZero (rowTf e) && !fIsZero (rowKd e))
    && fNonNeg (rowDwell e) && fLe (rowDwell e) (fq 10 1) && decide (1 ≤ rowLostN e) && decide (rowFrozenF e ≠ 1)
    && decide (byteAt e 74 ≤ 1) && fLt fZero (rowDu e) && fNonNeg (rowHold e) && fLe (rowHold e) (fq 60 1)
    && (decide (l < 32) || (decide (rowSp e ≤ 3 ∧ rowFb e ≤ 6 ∧ rowOut e ≤ 4)
      && (decide (rowFb e = 3 ∨ rowFb e = 4) || decide (rowFbIx e < 16))
      && (decide (rowOut e < 3) || decide (32 ≤ rowOutIx e ∧ rowOutIx e ≠ l))))

/-- The notches of an enabled record (R393, R401). -/
def notchOk (e : Bytes) (num den : Nat) : Bool :=
  [0, 1].all fun i =>
    let (h, q) := rowNotch e i
    fIsZero h || (fLt fZero h && fLe fHalf q && fLe q (fq 50 1) && fLt (notchOmega h num den) fPi)

/-- Every record's values, with the notches for the K and the window in force (R395, R401). -/
def Module.loopRowsOk (m : Module) : Bool :=
  loopHeaderOk m.loopTable && (List.range 256).all fun l =>
    let e := m.lrow l
    decide (byteAt e 0 ≤ 1) && (!rowOn e || (rowOk l e && (let (num, den) := m.tickCycles l; notchOk e num den)))

/-- Loop n is enabled for every enabled string n (R392), and the loops of one channel tick together (R431). -/
def Module.loopStringsOk (m : Module) : Bool :=
  m.enabledChains.all fun n => rowOn (m.lrow n) && m.enabledChains.all fun k =>
    n / 4 ≠ k / 4 || decide (rowPeriod (m.lrow n) = rowPeriod (m.lrow k) ∧ rowPhase (m.lrow n) = rowPhase (m.lrow k))

/-- Signals a table names are defined by the map (R587). -/
def Module.loopSignalsOk (m : Module) : Bool :=
  (List.range 224).all fun i =>
    let e := m.lrow (i + 32)
    !rowOn e || ((rowSp e ≠ 3 || rxDefined m.canMap (rowSpIx e)) && (rowFb e ≠ 3 || rxDefined m.canMap (rowFbIx e))
      && (rowOut e ≠ 1 || txDefined m.canMap (rowOutIx e)))

/-- A table changes a structural field (R396). -/
def loopStructural (a b : Option Bytes) : Bool :=
  (List.range 256).any fun l => ((loopRec a l).take 12 != (loopRec b l).take 12) && !(loopRec a l = [] && byteAt (loopRec b l) 0 = 0
    && (loopRec b l).take 12 = zeros 12)

/-- A step meets its row of R422 and R430. -/
def stepOk (rc : Bytes) (k : Nat) : Bool :=
  let e := stepOf rc k
  match stType e with
  | 0 => k + 1 = recipeSteps rc
  | 1 => decide (stMain e ≠ 0) && decide (stVlim e ≠ 0 ∨ stAh e ≠ 0 ∨ stTmax e ≠ 0)
  | 2 => decide (stMain e < 0 ∧ 0 < stVlim e ∧ 0 < stAux e)
  | 3 => decide (0 < stTmax e)
  | 4 => decide (0 < stOn e ∧ 0 < stOff e ∧ 1 ≤ stCount e)
  | 5 => decide (0 < stMain e)
  | 6 => decide (stTarget e < k ∧ 1 ≤ stCount e)
  | _ => false

/-- A recipe of string `n` (R421, R430): `cv` loop n + 16 is enabled. -/
def recipeOk (cv : Bool) (rc : Bytes) : Bool :=
  decide (rc.length = 2080 ∧ rc.take 4 = [0x52, 0x43, 0x50, 0x01] ∧ field rc 28 4 = crc32c (rc.take 28 ++ rc.drop 32))
    && decide (1 ≤ recipeSteps rc ∧ recipeSteps rc ≤ 64)
    && (List.range (recipeSteps rc)).all (fun k => stepOk rc k) && stType (stepOf rc (recipeSteps rc - 1)) = 0
    && (cv || (List.range (recipeSteps rc)).all fun k => stType (stepOf rc k) ≠ 2)

/-- The load of the reference frames of controller `n` exceeds one half (R434). -/
def Module.refLoadHigh (n : Nat) (m : Module) : Bool :=
  let fn := canNom (m.canSet n 2)
  let q := 65536 / m.pickK
  let (a, d) := (m.chsOf n).foldl (fun acc c =>
    let fd := if m.chBrs c then canData (m.canSet n 3) else fn
    let per := match m.enabledChains.find? fun k => k / 4 = c with
      | some k => rowPeriod (m.lrow k)
      | none => 1
    let x := (40 * fd + 306 * fn) * 65536 * m.freqMax
    let y := fn * fd * 1000 * per * q
    (acc.1 * y + x * acc.2, acc.2 * y)) (0, 1)
  decide (d < 2 * a)

end Sys2Proof.Machine
end

