-- ==== Sys2Proof/Machine/DrfOps.lean ====
section
/-! DEFINITION. Machine/DrfOps.lean: the draft engine as operations: the image, draft time, data, tasks, outputs, states
(R449 to R474). What a task computes is not the module's to state: its outputs and data writes are operands. -/
namespace Sys2Proof.Machine

/-! ### The program image (R449 to R452) -/

def imgTasks (b : Bytes) : Nat := byteAt b 5
def imgOuts (b : Bytes) : Nat := field b 6 2
def imgRelease (b : Bytes) : Nat := field b 8 4
def imgId (b : Bytes) : Nat := field b 12 4
def imgCode (b : Bytes) : Nat := field b 16 4
def imgData (b : Bytes) : Nat := field b 20 4
def imgRetain (b : Bytes) : Nat := field b 24 4
def imgSize (b : Bytes) : Nat := field b 28 4
def imgCrc (b : Bytes) : Nat := field b 60 4
/-- Task descriptor `t`, output declaration `i`, and the tasks that may send event `e`. -/
def imgTask (b : Bytes) (t : Nat) : Bytes := (b.drop (64 + 32 * t)).take 32
def imgDecl (b : Bytes) (i : Nat) : Bytes := (b.drop (704 + 16 * i)).take 16
def imgSenders (b : Bytes) (e : Nat) : Nat := field b (576 + 2 * e) 2
/-- Initial values of the data area. -/
def imgInit (b : Bytes) : Bytes := (b.drop (704 + 16 * imgOuts b + imgCode b)).take (imgData b)

def tkPeriod (e : Bytes) : Nat := field e 0 2
def tkPhase (e : Bytes) : Nat := field e 2 2
def tkEntry (e : Bytes) : Nat := field e 4 4
def tkWcet (e : Bytes) : Nat := field e 8 4
def tkLimit (e : Bytes) : Nat := byteAt e 12
def tkWindow (e : Bytes) : Bool := (byteAt e 13).testBit 0
def tkStack (e : Bytes) : Nat := field e 14 2

def dcKind (e : Bytes) : Nat := byteAt e 0
def dcWriter (e : Bytes) : Nat := byteAt e 1
def dcIndex (e : Bytes) : Nat := field e 2 2
def dcFall (e : Bytes) : F32 := fField e 4

/-- The stored image. -/
def Module.img (m : Module) : Bytes := m.drf.image.getD []
def Module.taskCount (m : Module) : Nat := if m.drf.image.isSome then imgTasks m.img else 0
def Module.tkRow (t : Nat) (m : Module) : Bytes := imgTask m.img t

/-- Output declarations with their positions. -/
def Module.decls (m : Module) : List (Nat × Bytes) :=
  if m.drf.image.isNone then [] else (List.range (imgOuts m.img)).map fun i => (i, imgDecl m.img i)

/-- Window length in mains cycles, as a rational (R452). -/
def Module.windowCycles (m : Module) : Nat × Nat :=
  if m.setting 0x0203 = 0 then (1, 2) else (2 ^ (m.setting 0x0203 - 1), 1)

/-- Shortest and longest period of a task in s, as rationals (R452). -/
def Module.shortest (e : Bytes) (m : Module) : Nat × Nat :=
  if tkWindow e then let (a, b) := m.windowCycles; (a * 1000, b * m.freqMax)
  else (tkPeriod e * (65536 / m.pickK) * 1000, 65536 * m.freqMax)
def Module.longest (e : Bytes) (m : Module) : Nat × Nat :=
  if tkWindow e then let (a, b) := m.windowCycles; (a * 1000, b * m.freqMin)
  else (tkPeriod e * ceilDiv 65536 m.pickK * 1000, 65536 * m.freqMin)

/-- Predicted utilisation of an image, as a rational (R452). -/
def Module.utilOf (b : Bytes) (m : Module) : Nat × Nat :=
  (List.range (imgTasks b)).foldl (fun acc t =>
    let e := imgTask b t
    let (n, d) := m.shortest e
    let x := tkWcet e * d
    let y := 1000000 * n
    (acc.1 * y + x * acc.2, acc.2 * y)) (0, 1)

/-- The period and utilisation bounds of R452, for the settings of `m`. -/
def Module.imgTimesOk (b : Bytes) (m : Module) : Bool :=
  ((List.range (imgTasks b)).all fun t =>
    let (n, d) := m.shortest (imgTask b t)
    let (n', d') := m.longest (imgTask b t)
    decide (d ≤ 2000 * n ∧ n' ≤ 10 * d'))
  && (let (a, d) := m.utilOf b; decide (10 * a ≤ 8 * d))

/-- The destination of a declaration is driven by no loop of the table in force (R452, R453). -/
def Module.imgOwnOk (b : Bytes) (m : Module) : Bool :=
  (List.range (imgOuts b)).all fun i =>
    let e := imgDecl b i
    !((List.range 224).any fun k =>
      let r := m.lrow (k + 32)
      rowOn r && decide (rowOutIx r = dcIndex e) && decide ((dcKind e = 1 ∧ rowOut r = 2) ∨ (dcKind e = 2 ∧ rowOut r = 1)))

/-- Signals an image names are defined by the map (R587). -/
def Module.imgSignalsOk (b : Bytes) (m : Module) : Bool :=
  (List.range (imgOuts b)).all fun i => dcKind (imgDecl b i) ≠ 2 || txDefined m.canMap (dcIndex (imgDecl b i))

def declOk (tasks : Nat) (e : Bytes) : Bool :=
  decide (1 ≤ dcKind e ∧ dcKind e ≤ 5 ∧ dcWriter e < tasks)
    && (match dcKind e with
      | 1 => decide (dcIndex e ≤ 255)
      | 2 => decide (dcIndex e ≤ 255)
      | 3 => decide (dcIndex e ≤ 23)
      | 4 => decide (dcIndex e = 0)
      | _ => decide (dcIndex e ≤ 15))
    && (if dcKind e ≤ 2 then fFinite (dcFall e) else decide (dcFall e = 0))

/-- The image's own form (R449 to R452). -/
def imgFormOk (b : Bytes) : Bool :=
  decide (704 ≤ b.length ∧ b.take 5 = [0x44, 0x52, 0x46, 0x54, 0x01] ∧ imgCrc b = crc32c (b.take 60 ++ b.drop 64)
    ∧ imgSize b = b.length ∧ b.length = 704 + 16 * imgOuts b + imgCode b + imgData b)
  && decide (1 ≤ imgTasks b ∧ imgTasks b ≤ 16 ∧ imgOuts b ≤ 512 ∧ 1 ≤ imgCode b ∧ imgCode b ≤ 4194304
    ∧ imgData b ≤ 1048576 ∧ imgRetain b ≤ 65536 ∧ imgRetain b ≤ imgData b)
  && ((List.range (imgTasks b)).all fun t =>
    let e := imgTask b t
    decide (1 ≤ tkPeriod e ∧ tkPhase e < tkPeriod e ∧ tkEntry e < imgCode b ∧ 1 ≤ tkWcet e ∧ 1 ≤ tkStack e ∧ tkStack e ≤ 64))
  && decide (((List.range (imgTasks b)).map fun t => tkStack (imgTask b t)).sum ≤ 256)
  && ((List.range (imgOuts b)).all fun i => declOk (imgTasks b) (imgDecl b i)
    && (List.range i).all fun j => (imgDecl b i).take 1 ++ ((imgDecl b i).drop 2).take 2
        != (imgDecl b j).take 1 ++ ((imgDecl b j).drop 2).take 2)

/-- R452 and R587, for the running release and the settings in force. -/
def Module.imgOk (b : Bytes) (m : Module) : Bool :=
  imgFormOk b && decide (imgRelease b / 65536 = m.sys.release / 65536 ∧ imgRelease b % 65536 ≤ m.sys.release % 65536)
    && m.imgTimesOk b && m.imgOwnOk b && m.imgSignalsOk b

/-! ### Draft time (R468) -/

/-- Draft time at a clock instant, 0.25 ns and µs. -/
def Module.draftRaw (t : Nat) (m : Module) : Nat :=
  let d : Int := (t - m.drf.timeAt : Nat)
  (((m.drf.time : Int) + d + d * m.drf.adj / 1000000000).toNat)
def Module.draftAt (t : Nat) (m : Module) : Nat := m.draftRaw t / 4000
def Module.draftNow (m : Module) : Nat := m.draftAt m.sys.clock

/-- DRAFT_TIME_ADJUST (R468, R480): the rate towards plant time, event 328 once per minute while the clamp binds;
`busy` is the busy share of the second that ends, in 0.1 %. -/
def Module.draftAdjust (busy t : Nat) (m : Module) : Module :=
  let m := m.tick t
  let now := m.draftRaw m.sys.clock
  let raw : Int := if m.rng.plant.isNone then 0 else ((m.plantNow : Int) - (now / 4000 * 1000 : Nat)) / 10
  let r := max (-500000) (min 500000 raw)
  let lim := decide (r ≠ raw)
  let due := lim && (match m.drf.limitAt with
    | some a => decide (a + secs 60 ≤ m.sys.clock)
    | none => true)
  let m := m.onDrf fun d =>
    { d with time := now, timeAt := m.sys.clock, adj := r, adjLimit := lim, measMax := max d.measMax (min busy 1023),
             limitAt := if due then some m.sys.clock else d.limitAt }
  m.raiseIf due 328

/-! ### Data (R456, R457) -/

/-- The newer flash copy that belongs to the stored image. -/
def Module.retainCopy (m : Module) : Option Bytes :=
  let ok := fun (c : Option Retain) => c.filter fun c => decide (c.progId = imgId m.img ∧ c.crc = imgCrc m.img)
  match ok m.drf.copyA, ok m.drf.copyB with
  | some a, some b => some (if a.seq < b.seq then b.data else a.data)
  | some a, none => some a.data
  | none, some b => some b.data
  | none, none => none

/-- Prepare the data area for a start from STOP (R456): the latches and tasks start afresh. -/
def Module.drfPrepare (warm : Bool) (m : Module) : Module :=
  let init := imgInit m.img
  let n := imgRetain m.img
  let kept : Option Bytes := if m.drf.session then some (m.drf.data.take n) else m.retainCopy
  let m := if !warm then m.onDrf fun d => { d with data := init }
    else match kept with
      | some r => m.onDrf fun d => { d with data := r.take n ++ init.drop n, retainValid := if d.session then d.retainValid else true }
      | none => (m.onDrf fun d => { d with data := init, retainValid := false }).raise 327
  m.onDrf fun d => { d with tasks := [], latches := 0, session := true, stopCause := 0 }

/-- Write the RETAIN area to the older copy, now or when the write window opens (R457). -/
def Module.retainWrite (m : Module) : Module :=
  if m.drf.image.isNone || !m.drf.session then m.onDrf fun d => { d with saveDue := false }
  else
    let sq := fun (c : Option Retain) => (c.map (·.seq + 1)).getD 0
    let a := sq m.drf.copyA
    let b := sq m.drf.copyB
    let r : Retain := { progId := imgId m.img, crc := imgCrc m.img, seq := max a b, data := m.drf.data.take (imgRetain m.img) }
    m.onDrf fun d => if a ≤ b then { d with copyA := some r, saveDue := false } else { d with copyB := some r, saveDue := false }
def Module.retainSave (m : Module) : Module :=
  if m.flashOk then m.retainWrite else m.onDrf fun d => { d with saveDue := true }
/-- The write window opens: a save that waits is written. -/
def Module.drfWindowOpen (m : Module) : Module := if m.drf.saveDue then m.retainWrite else m

/-! ### Outputs (R472, R474) -/

/-- One output takes a value: `old` its last one. -/
def Module.drfOut (i : Nat) (e : Bytes) (v : F32) (m : Module) : Module :=
  let old := tabGet 0 m.drf.outs i
  let rise := fIsZero old && !fIsZero v
  let m := m.onDrf fun d => { d with outs := tabPut 0 d.outs i v }
  match dcKind e with
  | 1 => m.varWrite (dcIndex e) v
  | 2 => m.txWrite (dcIndex e) v
  | 3 => m.setReqDraft (dcIndex e) (!fIsZero v)
  | 4 => if rise then m.cloTrigger 3 none else m
  | _ => if rise then m.raiseOnce (336 + dcIndex e) else m

/-- Every declared output takes its FALLBACK value (R458, R474). -/
def Module.drfFallback (m : Module) : Module :=
  m.decls.foldl (fun m p => m.drfOut p.1 p.2 (if dcKind p.2 ≤ 2 then dcFall p.2 else 0)) m

/-! ### States (R454, R455, R458) -/

/-- The state changes: event 320. -/
def Module.drfTo (st : DrfState) (m : Module) : Module :=
  ((m.onDrf fun d => { d with state := st }).onSys fun y => { y with draftStopped := decide (st = .stop) }).raise 320

/-- Every task's cycle is abandoned. -/
def Module.drfAbandon (m : Module) : Module :=
  m.onDrf fun d =>
    { d with tasks := d.tasks.map fun p => (p.1, { p.2 with state := .idle, timed := false, latched := false }) }

/-- A stepped cycle that has not been committed ends (R476): its command completes with TIMEOUT. -/
def Module.stepAbort (m : Module) : Module :=
  match m.drf.stepTask with
  | none => m
  | some (_, id) => (m.onDrf fun d => { d with stepTask := none, stepStarted := false }).finish id .timeout []

/-- Entry into STOP (R455, R457, R458). -/
def Module.drfStop (cause : Nat) (m : Module) : Module :=
  ((((m.drfAbandon.onDrf fun d => { d with stopCause := cause, holdCause := 0 }).drfFallback).drfTo .stop).stepAbort).retainSave

/-- Entry into HOLD with a cause. -/
def Module.drfHold (cause : Nat) (m : Module) : Module :=
  ((((m.drfAbandon.onDrf fun d => { d with holdCause := cause }).drfFallback).drfTo .hold).stepAbort).retainSave

/-- Entry into SAFE-HOLD (R36, R455). -/
def Module.drfSafe (m : Module) : Module :=
  if m.drf.state = .run ∨ m.drf.state = .step then m.drfHold 2 else m

/-- R35 permits RUN in a mode. -/
def runMode (md : Mode) : Bool := decide (md = .commission ∨ md = .standby ∨ md = .dispatch ∨ md = .formation)

/-! ### Tasks (R460 to R467) -/

def Module.task (t : Nat) (m : Module) : Task := tabGet {} m.drf.tasks t
def Module.updTask (t : Nat) (f : Task → Task) (m : Module) : Module :=
  m.onDrf fun d => { d with tasks := tabUpd {} d.tasks t f }

def Module.drfActive (m : Module) : Bool := decide (m.drf.state = .run ∨ m.drf.state = .step)

/-- The engine takes up the lowest READY task whose image is latched, once none executes (R461). -/
def Module.drfSchedule (m : Module) : Module :=
  let ts := List.range m.taskCount
  if !m.drfActive || ts.any (fun t => (m.task t).state = .executing) then m
  else match ts.find? fun t => (m.task t).state = .ready && (m.task t).latched with
    | some t => m.updTask t fun x => { x with state := .executing }
    | none => m

/-- The largest set of tasks in untimed waits that only its own members could release (R467). -/
def deadSet (allowed : Nat → Nat) (tasks : Nat) : Nat → List (Nat × Nat) → List (Nat × Nat)
  | 0, d => d
  | k + 1, d =>
    deadSet allowed tasks k (d.filter fun p =>
      (maskList tasks (allowed p.2)).all fun s => d.any fun q => q.1 = s)

def Module.deadTasks (m : Module) : List (Nat × Nat) :=
  let n := m.taskCount
  let w := (List.range n).filterMap fun t =>
    let x := m.task t
    if x.state = .waiting && !x.timed then some (t, x.event) else none
  deadSet (imgSenders m.img) n 17 w

/-- Look for a deadlock (R467): event 322, DRF_DEADLOCK. -/
def Module.drfDeadlock (m : Module) : Module :=
  let d := m.deadTasks
  if m.drf.state ≠ .run ∨ d = [] then m
  else ((m.onDrf fun x => { x with deadlock := d.foldl (fun a p => a ||| 2 ^ p.1) 0 }).drfStop 2).raise 322

/-- A task is halted (R464, R465): event 324. -/
def Module.drfHalt (t cause trap off : Nat) (m : Module) : Module :=
  ((m.onDrf fun d => { d with stopTask := some t, trap := trap, trapOffset := off }).drfStop cause).raise 324

/-- A cycle start of task `t` is due at the latest pick (R460). -/
def Module.startDue (t : Nat) (m : Module) : Bool :=
  let e := m.tkRow t
  decide (t < m.taskCount) && m.pck.running
    && (if tkWindow e then (!m.windowMode || m.wrp.winClose) else decide (m.pck.index % tkPeriod e = tkPhase e))

/-- The highest task whose start has fired at the latest pick. -/
def Module.lastStart (m : Module) : Option Nat := (m.drf.started.filter fun p => p.1 = m.pck.index).map (·.2)

/-- The cycle starts due at the latest pick of tasks below `t` have fired (R78). -/
def Module.startsBelow (t : Nat) (m : Module) : Bool :=
  (List.range t).all fun k => !m.startDue k || m.lastStart.any fun l => k ≤ l

/-- It is the turn of task `t`'s cycle start (R78): after the loop ticks of the pick, in ascending task number, once. A stepped
engine has one task whose start counts. -/
def Module.startTurn (t : Nat) (m : Module) : Bool :=
  m.loopsTicked && (m.drf.state = .step || (m.startsBelow t && m.lastStart.all fun l => l < t))

/-- DRAFT_CYCLE_START (R460, R463): a start with a pick passed by a jump fires LATE (R77). -/
def Module.taskCycle (t : Nat) (m : Module) : Module :=
  let x := m.task t
  let late := m.pck.flags.testBit 0
  if !m.startDue t || !m.startTurn t || !m.drfActive then m
  else
  let m := (if m.pck.jumped then m.lateEvent else m).onDrf fun d => { d with started := some (m.pck.index, t) }
  if m.drf.state = .step then
    if m.drf.stepTask.any (·.1 = t) && !m.drf.stepStarted then
      (m.updTask t fun x => { x with state := .ready, late := late, pick := m.pck.index, startAt := m.pck.instant, latched := false }).onDrf
        fun d => { d with stepStarted := true }
    else m
  else if x.state = .idle then
    m.updTask t fun x => { x with state := .ready, late := late, pick := m.pck.index, startAt := m.pck.instant, latched := false,
                                  overRun := 0 }
  else
    let run := min (x.overRun + 1) 255
    let m := (((m.updTask t fun x => { x with overRun := run, late := late }).bump (0x0A010C + 0x10 * t)).bump 0x0A0024).raiseOnce 321
    let lim := tkLimit (m.tkRow t)
    if lim ≠ 0 ∧ lim ≤ run then (m.drfStop 3).raise 323 else m.drfDeadlock

/-- The input image is latched at a pick's release for the tasks whose cycles start with it (R461, R469). -/
def Module.drfLatch (values : List Nat) (m : Module) : Module :=
  let m := (List.range m.taskCount).foldl (fun m t =>
    let x := m.task t
    if x.state = .ready && !x.latched && decide (x.pick = m.pck.index) then
      let ct := m.draftAt m.pck.instant
      let dt := match x.prevTime with
        | some p => ct - p
        | none => 0
      m.updTask t fun x =>
        { x with latched := true, prevTime := some ct, image := some { time := ct, dt := dt, pick := m.pck.index, values := values } }
    else m) m
  m.drfSchedule

/-! ### The data area and the library instances in it (R456, R469, R470)

An instance's layout is the model's (DESIGN CHOICE: the manual gives none): a byte of flags, bit 0 and bit 1 the inputs of its
previous execution, bit 2 and bit 3 its outputs, bit 4 a timer that runs; a counter's CV as s32 at 4; a timer's start in draft time
as u64 at 8 and ET as u64 at 16. What R and LD do, and the timers' outputs, are those of IEC 61131-3 (PRESUMED). -/

/-- Bytes stored in the data area; what would lie beyond it is not stored. -/
def putData (d : Bytes) (o : Nat) (b : Bytes) : Bytes := (splice d o b).take d.length

/-- DINT (R470): saturated at its limits. -/
def dint (v : Int) : Int := max (-2147483648) (min 2147483647 v)
/-- CV as stored at `o`. -/
def dintAt (d : Bytes) (o : Nat) : Int :=
  let v := field d o 4
  if v < 2147483648 then v else (v : Int) - 4294967296

/-- A counter's execution: flags, and CV. -/
def putCounter (d : Bytes) (o : Nat) (a b q1 q2 : Bool) (cv : Int) : Bytes :=
  putData (putData d o (leBytes 1 (bit a + 2 * bit b + 4 * bit q1 + 8 * bit q2))) (o + 4) (leBytes 4 (ofInt 32 cv))

/-- CTU, CTD and CTUD: a rising edge of a count input since the previous execution counts; R and LD go before. -/
def counter (o : Nat) (cu cd reset load : Bool) (pv : Int) (up down : Bool) (d : Bytes) : Bytes :=
  let f := byteAt d o
  let cv := dintAt d (o + 4)
  let u := cu && !f.testBit 0
  let n := cd && !f.testBit 1
  let cv := if reset then 0 else if load then dint pv
    else if u == n then cv else if u then dint (cv + 1) else dint (cv - 1)
  putCounter d o cu cd (if up then decide (pv ≤ cv) else decide (cv ≤ 0)) (up && down && decide (cv ≤ 0)) cv

/-- R_TRIG (`rise`) and F_TRIG: Q compares with the value at the previous execution, FALSE before the first. -/
def trigger (o : Nat) (rise clk : Bool) (d : Bytes) : Bytes :=
  let old := (byteAt d o).testBit 0
  putData d o (leBytes 1 (bit clk + 4 * bit (if rise then clk && !old else !clk && old)))

/-- A timer's execution: flags, start and ET. -/
def putTimer (d : Bytes) (o : Nat) (in_ q runs : Bool) (start et : Nat) : Bytes :=
  putData (putData d o (leBytes 1 (bit in_ + 4 * bit q + 16 * bit runs))) (o + 8) (leBytes 8 start ++ leBytes 8 et)

/-- TON (R469): ET runs while IN is TRUE, up to PT; Q once it is PT. -/
def ton (o : Nat) (in_ : Bool) (pt now : Nat) (d : Bytes) : Bytes :=
  let start := if in_ && (byteAt d o).testBit 0 then field d (o + 8) 8 else now
  let et := if in_ then min pt (now - start) else 0
  putTimer d o in_ (in_ && decide (pt ≤ et)) in_ start et

/-- TOF: Q while IN is TRUE and until PT has run since it fell. -/
def tof (o : Nat) (in_ : Bool) (pt now : Nat) (d : Bytes) : Bytes :=
  let f := byteAt d o
  let start := if f.testBit 0 then now else field d (o + 8) 8
  let runs := !in_ && (f.testBit 0 || f.testBit 4)
  let et := if in_ then 0 else if runs then min pt (now - start) else field d (o + 16) 8
  putTimer d o in_ (in_ || (runs && decide (et < pt))) (runs && decide (et < pt)) start et

/-- TP: a pulse of PT from the rise of IN on. -/
def tp (o : Nat) (in_ : Bool) (pt now : Nat) (d : Bytes) : Bytes :=
  let f := byteAt d o
  let rise := in_ && !f.testBit 0 && !f.testBit 4
  let start := if rise then now else field d (o + 8) 8
  let on := rise || f.testBit 4
  let et := if on then min pt (now - start) else if in_ then field d (o + 16) 8 else 0
  let q := on && decide (et < pt)
  putTimer d o in_ q q start (if q || in_ then et else 0)

/-- One act of a cycle whose CYCLE_TIME is `now`. -/
def dataAct (now : Nat) (d : Bytes) : DraftAct → Bytes
  | .store o b => putData d o b
  | .ton o i pt => ton o i pt now d
  | .tof o i pt => tof o i pt now d
  | .tp o i pt => tp o i pt now d
  | .ctu o cu r pv => counter o cu false r false pv true false d
  | .ctd o cd ld pv => counter o false cd false ld pv false true d
  | .ctud o cu cd r ld pv => counter o cu cd r ld pv true true d
  | .rTrig o clk => trigger o true clk d
  | .fTrig o clk => trigger o false clk d

/-- DRAFT_TASK_COMMIT (R461): the output image of a completed cycle: `vals` the values of the task's declarations in their
order, `exec` its execution time in µs, `acts` what it has done to its data. -/
def Module.taskCommit (t : Nat) (vals : List Nat) (exec : Nat) (acts : List DraftAct) (m : Module) : Module :=
  if !m.drfActive ∨ (m.task t).state ≠ .executing then m
  else
    let mine := m.decls.filter fun p => dcWriter p.2 = t
    let now := ((m.task t).image.map (·.time)).getD 0
    let m := m.onDrf fun d => { d with data := acts.foldl (dataAct now) d.data }
    let m := (mine.zip vals).foldl (fun m p => m.drfOut p.1.1 p.1.2 (BitVec.ofNat 32 p.2)) m
    let e := satU16 exec
    let m := m.updTask t fun x =>
      { x with state := .idle, cycles := (x.cycles + 1) % 2 ^ 32, last := e, max := max x.max e, maxStart := max x.maxStart e }
    if m.drf.state = .step then
      let pick := (m.task t).pick
      let id := m.drf.stepTask.map (·.2)
      let m := m.onDrf fun d => { d with stepTask := none, stepStarted := false }
      (m.drfHold m.drf.holdCause).finishOpt id .done (leBytes 8 pick)
    else m.drfDeadlock.drfSchedule

/-- DRAFT_SEND (R466): the latch, or the lowest task that waits; a task not allowed to send traps with code 4. -/
def Module.taskSend (t e : Nat) (m : Module) : Module :=
  if !m.drfActive ∨ (m.task t).state ≠ .executing then m
  else if !(imgSenders m.img e).testBit t then m.drfHalt t 4 4 (Config.freeNat m.free % 2 ^ 32) |>.useFree
  else match (List.range m.taskCount).find? fun k => (m.task k).state = .waiting && (m.task k).event = e with
    | some k =>
      (m.updTask k fun x => { x with state := .ready, timed := false, waitOk := true }).onDrf fun d =>
        { d with latches := d.latches - (d.latches &&& 2 ^ e) }
    | none => m.onDrf fun d => { d with latches := d.latches ||| 2 ^ e }

/-- DRAFT_WAIT (R466): a set latch is cleared and the wait returns; else the task waits, with a timeout in µs of draft time
or none. In STEP an untimed wait on a clear latch ends the step (R476). -/
def Module.taskWait (t e : Nat) (timeout : Option Nat) (now : Nat) (m : Module) : Module :=
  let m := m.tick now
  if !m.drfActive ∨ (m.task t).state ≠ .executing then m
  else if m.drf.latches.testBit e then
    (m.updTask t fun x => { x with waitOk := true }).onDrf fun d => { d with latches := d.latches - 2 ^ e }
  else if m.drf.state = .step ∧ timeout.isNone then m.drfHold m.drf.holdCause
  else
    (m.updTask t fun x =>
      { x with state := .waiting, event := e, timed := timeout.isSome, until_ := m.draftNow + timeout.getD 0 }).drfSchedule

/-- DRAFT_WAIT_TIMEOUT (R466): a timed wait returns FALSE. -/
def Module.waitTimeout (t now : Nat) (m : Module) : Module :=
  let m := m.tick now
  let x := m.task t
  if m.drfActive && decide (x.state = .waiting) && x.timed && decide (x.until_ ≤ m.draftNow) then
    (m.updTask t fun x => { x with state := .ready, timed := false, waitOk := false }).drfSchedule
  else m

/-- The halt of a task under R464 or R465 takes it in execution. -/
def Module.taskHalt (t cause trap off : Nat) (m : Module) : Module :=
  if !m.drfActive ∨ (m.task t).state ≠ .executing then m else m.drfHalt t cause trap off

end Sys2Proof.Machine
end

