-- ==== Sys2Proof/Machine/Draft.lean ====
section
/-! DEFINITION. Machine/Draft.lean: the draft events, opcodes and registers (R449 to R483). -/
namespace Sys2Proof.Machine

/-! ### Events -/

def execDraftCycleStart (task : Nat) (s : State) : Host.Outcome State Fault Refusal := s.go (·.taskCycle task)
def execDraftTaskCommit (task : Nat) (vals : List Nat) (us : Nat) (acts : List DraftAct) (s : State) :
    Host.Outcome State Fault Refusal := s.go (·.taskCommit task vals us acts)
/-- DRAFT_EXEC_LIMIT (R464): over 4 × WCET in one cycle. -/
def execDraftExecLimit (task : Nat) (s : State) : Host.Outcome State Fault Refusal := s.go (·.taskHalt task 5 0 0)
/-- DRAFT_TRAP (R465): trap code and code offset. -/
def execDraftTrap (task code offset : Nat) (s : State) : Host.Outcome State Fault Refusal :=
  s.go (·.taskHalt task 4 code offset)
def execDraftSend (task event : Nat) (s : State) : Host.Outcome State Fault Refusal := s.go (·.taskSend task event)
def execDraftWait (task event : Nat) (timeout : Option Nat) (t : Nat) (s : State) : Host.Outcome State Fault Refusal :=
  s.go (·.taskWait task event timeout t)
def execDraftWaitTimeout (task t : Nat) (s : State) : Host.Outcome State Fault Refusal := s.go (·.waitTimeout task t)
/-- DRAFT_CELL_READ (R471): the records of the buffer named complete. -/
def Module.cellRead (t first n : Nat) (m : Module) : Module :=
  if !m.drfActive ∨ (m.task t).state ≠ .executing then m
  else
    let (b, m) := m.readCells 1 32 m.cellOut ((List.range n).map (first + ·))
    m.updTask t fun x => { x with read := b }
def execDraftCellRead (task first n : Nat) (s : State) : Host.Outcome State Fault Refusal := s.go (·.cellRead task first n)
/-- DRAFT_RETAIN_SAVE (R457): every DRF_RETAIN_PERIOD in RUN. -/
def execDraftRetainSave (s : State) : Host.Outcome State Fault Refusal :=
  s.go fun m => if m.drf.state = .run then m.retainSave else m
def execDraftTimeAdjust (busy t : Nat) (s : State) : Host.Outcome State Fault Refusal := s.go (·.draftAdjust busy t)

/-! ### Registers (R478 to R482) -/

def drfCode : DrfState → Nat
  | .stop => 0 | .run => 1 | .hold => 2 | .step => 3

/-- DRF_STATUS (R479); RETAIN_VALID reads 0, its reset value, while no image is stored and so no RETAIN area exists (DEDUCED). -/
def Module.drfStatus (m : Module) : Nat :=
  let d := m.drf
  drfCode d.state + 4 * bit d.image.isSome + 8 * m.setting 0x0600 + 16 * d.stopCause + 256 * d.holdCause
    + 1024 * bit (d.image.isSome && d.retainValid) + 2048 * bit d.adjLimit + 0x10000 * m.taskCount

/-- DRF_STOP_INFO (R481). -/
def Module.stopInfo (m : Module) : Nat :=
  m.drf.stopTask.getD 0 + 16 * bit m.drf.stopTask.isSome + 256 * m.drf.trap

/-- DRF_UTIL.PRED (R480): nearest, 0.1 %. -/
def Module.utilPred (m : Module) : Nat :=
  if m.drf.image.isNone then 0 else let (a, d) := m.utilOf m.img; min ((2000 * a + d) / (2 * d)) 1023

def taskCode : TaskState → Nat
  | .idle => 1 | .ready => 2 | .executing => 3 | .waiting => 4

/-- DRF_TASKt_STATE (R482). -/
def Module.taskReg (t : Nat) (m : Module) : Nat :=
  if m.taskCount ≤ t then 0
  else
    let x := m.task t
    let w := decide (x.state = .waiting)
    taskCode x.state + 8 * bit x.late + 16 * (if w then x.event else 0) + 1024 * bit (w && x.timed) + 0x10000 * x.overRun

/-- Draft registers (R478); the overrun counters are in the counter table. -/
def Module.drfReg (off : Nat) (m : Module) : Option Nat :=
  let d := m.drf
  if off = 0x0A0000 then some m.drfStatus
  else if off = 0x0A0004 then some (if d.image.isSome then imgId m.img else 0)
  else if off = 0x0A0008 then some (if d.image.isSome then imgCrc m.img else 0)
  else if off = 0x0A000C then some (m.utilPred + 0x10000 * d.measMax)
  else if off = 0x0A0010 then some (m.draftNow % 2 ^ 32)
  else if off = 0x0A0014 then some (m.draftNow / 2 ^ 32 % 2 ^ 32)
  else if off = 0x0A0018 then some (ofInt 32 d.adj)
  else if off = 0x0A001C then some m.stopInfo
  else if off = 0x0A0020 then some d.deadlock
  else if off = 0x0A0024 then some (m.counter off)
  else if 0x0A0100 ≤ off ∧ off < 0x0A0200 then
    let t := (off - 0x0A0100) / 16
    match (off - 0x0A0100) % 16 / 4 with
    | 0 => some (m.taskReg t)
    | 1 => some ((m.task t).last + 0x10000 * (m.task t).max)
    | 2 => some (m.task t).cycles
    | _ => some (m.counter off)
  else none

/-! ### Opcodes (R476, R477) -/

/-- A draft command is accepted and not yet in effect: it waits for its pick boundary. -/
def Module.drfPending (m : Module) : Bool :=
  m.cmd.outst.any fun o => decide (0x0603 ≤ o.opcode ∧ o.opcode ≤ 0x0607) && !m.drf.stepTask.any (·.2 = o.id)

/-- DRF_STATUS_GET (R476). -/
def cmdDrfStatusGet (r : Req) (m : Module) : Resp :=
  m.checks r 0 true .observe <|
    .done (leBytes 4 m.drfStatus ++ leBytes 4 (if m.drf.image.isSome then imgId m.img else 0)
      ++ leBytes 4 (if m.drf.image.isSome then imgCrc m.img else 0) ++ leBytes 4 m.stopInfo ++ leBytes 4 m.drf.trapOffset
      ++ leBytes 4 m.drf.deadlock ++ leBytes 8 m.draftNow) m
def execDrfStatusGet (r : Req) (s : State) : Host.Outcome State Fault Refusal := s.go (·.request 0x0600 cmdDrfStatusGet r)

/-- Store an image, or erase it (R476): event 325; the outputs stand at FALLBACK. -/
def Module.drfStore (b : Option Bytes) (m : Module) : Module :=
  let m := m.onDrf fun d => { d with image := b, data := [], session := false, tasks := [], outs := [], saveDue := false }
  let m := (m.onSys fun y => { y with draftLoaded := b.isSome }).drfFallback
  m.power.raise 325

/-- DRF_LOAD (R452). -/
def cmdDrfLoad (r : Req) (m : Module) : Resp :=
  let n := field r.payload 4 4
  let d := m.readPages (field r.payload 0 4) n
  let bad := match d with
    | .ok b => !m.imgOk b
    | .error st => decide (st = .badParam)
  m.checks r 8 (!bad) .engineer <|
    if m.drf.state ≠ .stop then .fail .wrongMode m
    else if (m.dom 51).state ≠ 1 || !m.flashOk || m.drfPending then .fail .busy m
    else match d with
      | .error st => .fail st m
      | .ok b => .late [] (m.drfStore (some b))
def execDrfLoad (r : Req) (s : State) : Host.Outcome State Fault Refusal := s.go (·.request 0x0601 cmdDrfLoad r)

/-- DRF_UNLOAD (R476). -/
def cmdDrfUnload (r : Req) (m : Module) : Resp :=
  m.checks r 0 true .engineer <|
    if m.drf.state ≠ .stop then .fail .wrongMode m
    else if !m.flashOk || m.drfPending then .fail .busy m
    else .late [] (m.drfStore none)
def execDrfUnload (r : Req) (s : State) : Host.Outcome State Fault Refusal := s.go (·.request 0x0602 cmdDrfUnload r)

/-- What each state command needs (R477): WRONG_MODE where it fails. -/
def Module.drfModeOk (op : Nat) (m : Module) : Bool :=
  let run := runMode m.sys.mode
  let st := m.drf.state
  if op = 0x0603 then decide (st = .stop) && run
  else if op = 0x0605 then decide (st = .run)
  else if op = 0x0606 then decide (st = .hold) && run
  else if op = 0x0607 then decide (st = .hold ∧ (m.sys.mode = .commission ∨ m.sys.mode = .standby))
  else true

/-- A state command: in effect at the next pick boundary. -/
def Module.drfReq (op len : Nat) (ok : Bool) (p : Priv) (r : Req) (m : Module) : Resp :=
  m.checks r len ok p <|
    if !m.drfModeOk op then .fail .wrongMode m
    else if (op = 0x0603 && m.drf.image.isNone) || m.drfPending then .fail .busy m
    else .wait [] [] m

def cmdDrfStart (r : Req) (m : Module) : Resp := m.drfReq 0x0603 4 (byteAt r.payload 0 ≤ 1) .engineer r
def execDrfStart (r : Req) (s : State) : Host.Outcome State Fault Refusal := s.go (·.request 0x0603 cmdDrfStart r)
def cmdDrfStop (r : Req) (m : Module) : Resp := m.drfReq 0x0604 0 true .operate r
def execDrfStop (r : Req) (s : State) : Host.Outcome State Fault Refusal := s.go (·.request 0x0604 cmdDrfStop r)
def cmdDrfHold (r : Req) (m : Module) : Resp := m.drfReq 0x0605 0 true .operate r
def execDrfHold (r : Req) (s : State) : Host.Outcome State Fault Refusal := s.go (·.request 0x0605 cmdDrfHold r)
def cmdDrfResume (r : Req) (m : Module) : Resp := m.drfReq 0x0606 0 true .operate r
def execDrfResume (r : Req) (s : State) : Host.Outcome State Fault Refusal := s.go (·.request 0x0606 cmdDrfResume r)
/-- DRF_STEP (R476): the task lies below TASKS. -/
def cmdDrfStep (r : Req) (m : Module) : Resp :=
  m.drfReq 0x0607 4 (byteAt r.payload 0 < m.taskCount) .engineer r
def execDrfStep (r : Req) (s : State) : Host.Outcome State Fault Refusal := s.go (·.request 0x0607 cmdDrfStep r)

/-- The boundary of a state command (R455, R458): none while the command goes on waiting (a stepped cycle). -/
def Module.applyDrf (op id : Nat) (p : Bytes) (m : Module) : Option Status × Module :=
  if !m.drfModeOk op then (some .wrongMode, m)
  else if op = 0x0603 then
    if m.drf.image.isNone then (some .busy, m)
    else (some .done, ((m.drfPrepare (byteAt p 0 = 1)).onDrf fun d => { d with holdCause := 0 }).drfTo .run)
  else if op = 0x0604 then (some .done, if m.drf.state = .stop then m else m.drfStop 1)
  else if op = 0x0605 then (some .done, m.drfHold 1)
  else if op = 0x0606 then (some .done, (m.onDrf fun d => { d with holdCause := 0 }).drfTo .run)
  else (none, (m.onDrf fun d => { d with stepTask := some (byteAt p 0, id), stepStarted := false }).drfTo .step)

/-- DRF_TASKS_GET (R476). -/
def cmdDrfTasksGet (r : Req) (m : Module) : Resp :=
  m.checks r 0 true .observe <|
    .done ((List.range 16).flatMap fun t =>
      if m.taskCount ≤ t then zeros 16
      else
        let e := m.tkRow t
        let x := m.task t
        leBytes 4 (m.taskReg t) ++ leBytes 2 (tkPeriod e) ++ leBytes 2 (tkPhase e) ++ leBytes 4 (tkWcet e)
          ++ leBytes 2 x.last ++ leBytes 2 x.maxStart) m
def execDrfTasksGet (r : Req) (s : State) : Host.Outcome State Fault Refusal := s.go (·.request 0x0608 cmdDrfTasksGet r)

/-- DRF_VAR_GET (R476). -/
def cmdDrfVarGet (r : Req) (m : Module) : Resp :=
  m.checks r 4 (decide (1 ≤ reqCount r ∧ reqFirst r + reqCount r ≤ 256)) .observe <|
    .done ((rangeOf r).flatMap fun i => fBytes (tabGet 0 m.drf.vars i)) m
def execDrfVarGet (r : Req) (s : State) : Host.Outcome State Fault Refusal := s.go (·.request 0x0609 cmdDrfVarGet r)

/-- A variable the host may write (R473). -/
def Module.varFree (i : Nat) (m : Module) : Bool :=
  !(m.decls.any fun p => dcKind p.2 = 1 && dcIndex p.2 = i)
    && !((List.range 224).any fun k => let e := m.lrow (k + 32); rowOn e && rowOut e = 2 && rowOutIx e = i)

/-- DRF_VAR_SET (R473). -/
def cmdDrfVarSet (r : Req) (m : Module) : Resp :=
  let i := byteAt r.payload 0
  m.checks r 8 (m.varFree i) .operate (.done [] (m.varWrite i (fField r.payload 4)))
def execDrfVarSet (r : Req) (s : State) : Host.Outcome State Fault Refusal := s.go (·.request 0x060A cmdDrfVarSet r)

/-! ### BOOT (R455, R459, R468) -/

/-- The stored image is checked at BOOT (R459). -/
def Module.drfBootCheck (m : Module) : Module :=
  match m.drf.image with
  | none => m
  | some b =>
    if m.imgOk b then m.drfFallback
    else
      ((m.onDrf fun d => { d with image := none, stopCause := 6 }).onSys fun y => { y with draftLoaded := false }).raise 326

/-- The end of BOOT (R455, R468): draft time starts, and DRF_AUTOSTART acts. -/
def Module.drfBootEnd (m : Module) : Module :=
  let m := m.onDrf fun d => { d with time := m.plantNow / 1000 * 4000, timeAt := m.sys.clock }
  if m.setting 0x0600 ≠ 1 || m.drf.image.isNone then m
  else if m.sys.mode = .commission ∨ m.sys.mode = .standby then (m.drfPrepare true).drfTo .run
  else if m.sys.mode = .safeHold then (((m.drfPrepare true).onDrf fun d => { d with holdCause := 3 }).drfTo .hold).retainSave
  else m

end Sys2Proof.Machine
end

