-- ==== Sys2Proof/Machine/Learn.lean ====
section
/-! DEFINITION. Machine/Learn.lean: load-step fits, ripple ages, capacities, sweeps and the learning requests (R218 to
R259). -/
namespace Sys2Proof.Machine

/-! ### Load-step fits (R228 to R234) -/

/-- Check times (R228), 0.25 ns. -/
def checkTime (k : Nat) : Nat := [0, msec 500, secs 2, secs 8, secs 32, secs 128].getD k 0

/-- DV_CHECK_TIME (R228): a cell that still contributes records DV at the first step at or after check time `k`. -/
def Module.dvCheck (c k : Nat) (m : Module) : Module :=
  let x := m.cell c
  match (m.str (c / 512)).span, x.vLast, m.est.stepAt with
  | some sp, some v, some t =>
    if x.contrib && (m.str (c / 512)).spanTakes t && x.dvT.length = k && decide (checkTime k ≤ t - sp.t0) then
      m.stepCell c fun x => { x with dv := x.dv.set k (fSub v x.vPre), dvT := x.dvT ++ [fSecs (t - sp.t0)] }
    else m
  | _, _, _ => m
def execDvCheckTime (cell idx : Nat) (s : State) : Host.Outcome State Fault Refusal := s.go (·.dvCheck cell idx)

/-- 100^(a / 15), by the tile's exp and ln. -/
def gridPow (a : Nat) : F32 := Config.fexp (fMul (fq a 15) (Config.fln (fq 100 1)))

/-- A candidate of the search: Rf, Rs, τf, τs, residual. -/
structure Fit where
  rf : F32
  rs : F32
  tf : F32
  ts : F32
  res : F32

/-- Keep the better of two. -/
def Fit.best (b : Option Fit) (f : Fit) : Option Fit :=
  if !(fLt fZero f.rf && fLt fZero f.rs) then b
  else match b with
    | none => some f
    | some o => if fLt f.res o.res then some f else b

/-- Points of the fit: time and relaxation. -/
def fitRes (pts : List (F32 × F32)) (rf rs tf ts : F32) : F32 :=
  fSum (pts.map fun p => fSq (fSub (fSub p.2 (fMul rf (fSub fOne (Config.fexp (fNeg (fDiv p.1 tf))))))
    (fMul rs (fSub fOne (Config.fexp (fNeg (fDiv p.1 ts)))))))

/-- Least squares of one grid point, Rf and Rs free. -/
def fitFull (pts : List (F32 × F32)) (tf ts : F32) : Fit :=
  let f := pts.map fun p => fSub fOne (Config.fexp (fNeg (fDiv p.1 tf)))
  let s := pts.map fun p => fSub fOne (Config.fexp (fNeg (fDiv p.1 ts)))
  let r := pts.map (·.2)
  let dot := fun a b => fSum (List.zipWith fMul a b)
  let det := fSub (fMul (dot f f) (dot s s)) (fSq (dot f s))
  let rf := fDiv (fSub (fMul (dot r f) (dot s s)) (fMul (dot r s) (dot f s))) det
  let rs := fDiv (fSub (fMul (dot r s) (dot f f)) (fMul (dot r f) (dot f s))) det
  { rf := rf, rs := rs, tf := tf, ts := ts, res := fitRes pts rf rs tf ts }

/-- The same with Rs and τs held. -/
def fitFast (pts : List (F32 × F32)) (tf rs ts : F32) : Fit :=
  let f := pts.map fun p => fSub fOne (Config.fexp (fNeg (fDiv p.1 tf)))
  let r := pts.map fun p => fSub p.2 (fMul rs (fSub fOne (Config.fexp (fNeg (fDiv p.1 ts)))))
  let dot := fun a b => fSum (List.zipWith fMul a b)
  let rf := fDiv (dot r f) (dot f f)
  { rf := rf, rs := rs, tf := tf, ts := ts, res := fitRes pts rf rs tf ts }

/-- The 16-step search (R232): accepted, or none. -/
def Module.fitRC (full : Bool) (pts : List (F32 × F32)) (imp : List F32) (m : Module) : Option Fit :=
  let tfs := (List.range 16).map fun a => fMul (fq 2 10) (gridPow a)
  let best := if full then
      tfs.foldl (fun b tf => (List.range 16).foldl (fun b k => Fit.best b (fitFull pts tf (fMul (fq 20 1) (gridPow k)))) b) none
    else tfs.foldl (fun b tf => Fit.best b (fitFast pts tf (imp.getD 3 0) (fMul (imp.getD 3 0) (imp.getD 4 0)))) none
  best.filter fun f => fLe (fSqrt (fDiv f.res (fOfNat pts.length))) (fMul (m.setF 0x0334 1000) (fAdd f.rf f.rs))

/-- STEP_FIT_COMPLETE (R230 to R234): 16 steps after the search began, the RC pairs of a cell whose Rser was accepted; where
learning no longer runs they are discarded (R219). The weight is that of the span's one fit, from BIN_N before its Rser (DEDUCED:
R233 names one n). -/
def Module.stepFit (c : Nat) (m : Module) : Module :=
  let x := m.cell c
  match (m.str (c / 512)).span, m.strPack (c / 512), x.fit with
  | some sp, some pk, some (rser, w) =>
    if sp.ended.isNone || sp.steps < 16 then m
    else if !m.learnBit 0 then m.stepCell c Cell.spanDone
    else
      let b := x.stepBin
      let imp := impOf pk (m.learn c) b
      let dI := fSub sp.iPost sp.iPre
      let full := decide (x.dvT.length = 6)
      let pts := ((List.range (if full then 5 else 3)).map (· + 1)).map fun k =>
        let t := x.dvT.getD k 0
        let dl := fNeg (fDiv (fMul (fMul x.slope0 sp.iPost) t) (fMul f3600 x.q0))
        (t, fSub (fDiv (fNeg (fSub (x.dv.getD k 0) dl)) dI) rser)
      let m := match m.fitRC full pts imp with
        | none => m.onEst fun e => { e with fitsBad := satU32 (e.fitsBad + 1) }
        | some f => (m.updLearn c fun l =>
            let t := impMove (impMove l.imp (4 * b + 1) 1000000 f.rf w) (4 * b + 3) 1000 f.tf w
            if !full then { l with imp := t }
            else
              let o := fq l.tauS 10
              { l with imp := impMove t (4 * b + 2) 1000000 f.rs w
                       tauS := if l.tauS = 0xFFFF then impCode f.ts 10 else impCode (fAdd o (fMul (fq 1 4) (fSub f.ts o))) 10 }).onEst
            fun e => { e with fitsOk := satU32 (e.fitsOk + 1) }
      m.stepCell c Cell.spanDone
  | _, _, _ => m
def execStepFitComplete (cell : Nat) (s : State) : Host.Outcome State Fault Refusal := s.go (·.stepFit cell)

/-- RIP_AGE_PERIOD (R236): at each pick index that is a multiple of K × RIP_TAU. -/
def Module.ripAge (m : Module) : Module :=
  if !m.rippleOn || m.pck.index % (m.pickK * m.setting 0x0336) ≠ 0 then m
  else m.livedCells.foldl (fun m c => m.stepCell c fun x => { x with ripAge := min (x.ripAge + 1) 127 }) m
def execRipAgePeriod (s : State) : Host.Outcome State Fault Refusal := s.go (·.ripAge)

/-- A cell's learned capacity changes (R204): θQ of every hypothesis is scaled and clamped. -/
def Module.setCapacity (c q : Nat) (pk : Bytes) (m : Module) : Module :=
  let old := capOf pk (m.learn c)
  let st := m.str (c / 512)
  let m := m.updLearn c fun l => { l with q := q, stampS := st.stampS, stampC := st.stampC }
  let f := fDiv old (fq q 1000)
  m.updCell c fun x => { x with
    hyps := x.hyps.map fun h => { h with x := h.x.set 7 (fClamp (fMul (h.s 7) f) (fq 3 10) (fq 12 10)) } }

/-! ### Sweeps (R245 to R251) -/

/-- µAh of a thousandth of Q_RATED (R245). -/
def Module.efcUnit (c : Nat) (m : Module) : Nat :=
  match m.strPack (c / 512) with
  | some pk => (fToInt (packQ pk) 1000 1).toNat
  | none => 0

/-- The increments of a cell, and what stays in its accumulators (R245, R248). -/
def Module.increments (c : Nat) (m : Module) : SwEntry × Acc :=
  let a := tabGet {} m.lrn.acc c
  let u := m.efcUnit c
  let dc := min (a.chg / 10000) 0xFFFF
  let dd := min (a.dis / 10000) 0xFFFF
  let de := if u = 0 then 0 else min (a.cyc / u) 0xFFFFFFFF
  ({ cell := c, reset := a.reset, dChg := dc, dDis := dd, dEfc := de, snap := m.learn c },
   { chg := a.chg - dc * 10000, dis := a.dis - dd * 10000, cyc := a.cyc - de * u, reset := false })

/-- The freeze (R247): increments, snapshot, header. Outside the write window the header stays unwritten and the sweep is paused
(R251). -/
def Module.freezeSweep (m : Module) : Module :=
  let inc := m.allCells.map fun c => m.increments c
  let e := m.lrn.epoch + 1
  let sw : Sweep := { epoch := e, secs := m.blt.data.stamp.secs, cycles := m.blt.data.stamp.cycles, entries := inc.map (·.1)
                      header := bit m.flashOk, at_ := m.sys.clock }
  let m := m.onLrn fun l =>
    { l with acc := inc.foldl (fun t i => tabPut {} t i.1.cell i.2) l.acc, sweep := some sw, epoch := e, again := false
             frozenAt := m.pck.instant, state := if m.flashOk then 1 else 2, waiters := l.waiters ++ l.waitersNext, waitersNext := [] }
  m.raiseIf (!m.flashOk) 254

/-- A sweep is to be frozen (R250): one is requested, or LEARN_SWEEP_PERIOD has passed since the last freeze. -/
def Module.sweepWanted (m : Module) : Bool :=
  m.lrn.again || decide (m.lrn.frozenAt + secs (m.setting 0x033A) ≤ m.pck.instant)

/-- SWEEP_FREEZE (R250, R251): at a pick boundary, where a sweep is to be frozen and none runs; at command loads above 90 % the
start is deferred. -/
def Module.sweepFreeze (m : Module) : Module :=
  if m.inBoot || m.lrn.sweep.isSome || m.lrn.state = 3 || !m.atBoundary || !m.sweepWanted then m
  else if 900 < m.cmd.loadLast then (m.onLrn fun l => { l with state := 3, deferAt := m.sys.clock }).raise 254
  else m.freezeSweep
def execSweepFreeze (s : State) : Host.Outcome State Fault Refusal := s.go (·.sweepFreeze)

/-- SWEEP_DEFER_END (R251): at the first pick boundary with the load at 90 % or less again, or 10 min after the deferral began. -/
def execSweepDeferEnd (s : State) : Host.Outcome State Fault Refusal :=
  s.go fun m =>
    if m.lrn.state = 3 && !m.inBoot && m.atBoundary && (decide (m.cmd.loadLast ≤ 900) || decide (m.lrn.deferAt + secs 600 ≤ m.sys.clock))
    then m.freezeSweep else m

/-- A sweep is requested (R250). -/
def Module.sweepDue (m : Module) : Module := m.onLrn fun l => { l with again := true }

/-- CAP_APPLY (R242): at a pick boundary at rest, in a mode that permits learning (R219), in the place R205
gives learned-data changes; the sweep that follows is frozen at this boundary (R250). The string's limits restart from 0 (R196);
REINITS does not count it, since no cell is initialised anew (DESIGN CHOICE: R204 and R242 do not say). -/
def Module.capApply (n : Nat) (m : Module) : Module :=
  let s := m.str n
  match m.strPack n with
  | none => m
  | some pk =>
    if s.pendQ = [] || !m.atRest n || !m.learnBit 2 || !m.atBoundary || !m.rankFree 3 then m
    else
      let m := s.pendQ.foldl (fun m p =>
        (m.setCapacity p.1 p.2 pk).cloInput 5 m.pck.index (leBytes 1 3 ++ leBytes 1 0 ++ leBytes 2 p.1 ++ leBytes 2 1 ++ zeros 2
          ++ leBytes 4 p.2)) m
      (((m.updStr n fun x => { x with pendQ := [] }).restartStrings [512 * n]).raise 250).sweepDue.sweepFreeze
def execCapApply (string : Nat) (s : State) : Host.Outcome State Fault Refusal := s.go (·.capApply string)

/-- The record a sweep writes for a cell (R247): its older record's counters plus the increments, or these alone. -/
def sweepRec (e : Nat) (old : LRec) (s : SwEntry) : LRec :=
  let b := if s.reset then { old with ahChg := 0, ahDis := 0, efc := 0 } else old
  { epoch := e, data := s.snap, ahChg := satU32 (b.ahChg + s.dChg), ahDis := satU32 (b.ahDis + s.dDis),
    efc := satU32 (b.efc + s.dEfc) }

/-- A record goes into the slot that does not hold the newer valid one (R246, R247). -/
def LSlots.put (r : LRec) (s : LSlots) : LSlots :=
  match s.a, s.b with
  | some x, some y => if x.epoch < y.epoch then { s with a := some r } else { s with b := some r }
  | some _, none => { s with b := some r }
  | none, _ => { s with a := some r }

/-- A slot torn by a power loss (R249): the one that was to be written holds no correct CRC; the older stays valid. -/
def LSlots.tear (s : LSlots) : LSlots :=
  match s.a, s.b with
  | some x, some y => if x.epoch < y.epoch then { s with a := none } else { s with b := none }
  | _, _ => s

/-- One cell of the sweep's loop (R247): a cell whose newer slot is at the epoch already is skipped. -/
def sweepCell (sw : Sweep) (t : Tab LSlots) (s : SwEntry) : Tab LSlots :=
  let x := tabGet ({} : LSlots) t s.cell
  if x.newest.any fun r => sw.epoch ≤ r.epoch then t else tabPut {} t s.cell (x.put (sweepRec sw.epoch (x.newest.getD {}) s))

/-- All records written, ascending, and the valid mark last (R247). -/
def Module.writeSweep (sw : Sweep) (m : Module) : Module :=
  m.onLrn fun l =>
    { l with recs := sw.entries.foldl (sweepCell sw) l.recs
             sweep := none, state := 0, mark := sw.epoch, markSecs := m.blt.data.stamp.secs }

/-- LEARN_SWEEP_NOW commands without their valid mark after 15 min complete with TIMEOUT; the sweep goes on (R259). The table has
no row for that moment: it is judged at each release of a pick and at the mark (DESIGN CHOICE). -/
def Module.sweepTimeouts (m : Module) : Module :=
  let old := fun (w : Nat × Nat) => decide (w.2 + secs 900 < m.sys.clock)
  let late := (m.lrn.waiters ++ m.lrn.waitersNext).filter old
  if late = [] then m
  else (m.onLrn fun l => { l with waiters := l.waiters.filter fun w => !old w, waitersNext := l.waitersNext.filter fun w => !old w })
    |>.finishAll (late.map (·.1)) .timeout []

/-- SWEEP_VALID_MARK (R247, R250, R259): event 251; LEARN_SWEEP_NOW completes. -/
def Module.sweepMark (m : Module) : Module :=
  match m.lrn.sweep with
  | none => m
  | some sw =>
    if !m.flashOk then m
    else
      let m := m.sweepTimeouts
      let ws := m.lrn.waiters
      let m := ((m.writeSweep sw).raiseIf sw.recovered 252).raise 251
      (m.onLrn fun l => { l with waiters := [] }).finishAll (ws.map (·.1)) .done (leBytes 4 sw.epoch)
def execSweepValidMark (s : State) : Host.Outcome State Fault Refusal := s.go (·.sweepMark)

/-- The sweep pauses or resumes with the write window (R251). -/
def Module.sweepWindow (m : Module) : Module :=
  if m.lrn.sweep.isNone then m
  else if m.flashOk then m.onLrn fun l =>
    { l with state := 1, sweep := l.sweep.map fun w => if w.header = 0 then { w with header := 1, at_ := m.sys.clock } else w }
  else if m.lrn.state = 1 then (m.onLrn fun l => { l with state := 2 }).raise 254
  else m

/-- An interrupted sweep as BOOT finds it (R249): epoch and increments are in its header; the snapshots were in DRAM, so a record
not yet written keeps the learned data of its older slot. -/
def Sweep.found (recs : Tab LSlots) (w : Sweep) : Sweep :=
  { w with recovered := true, header := 2
           entries := w.entries.map fun e => { e with snap := ((tabGet ({} : LSlots) recs e.cell).newest.getD {}).data } }

/-- What a power-off leaves of the learned data in flash (R246, R249, R251): a sweep whose header is unwritten is lost, one whose
header is being written may be. How many cell records were written, and whether the next was torn, is free: the manual times the
loop by bounds alone. -/
def Module.cutSweep (m : Module) : Lrn :=
  let l := m.lrn
  let keep := { recs := l.recs, epoch := l.epoch, mark := l.mark, markSecs := l.markSecs : Lrn }
  match l.sweep with
  | none => keep
  | some w =>
    let sure := w.header = 2 || decide (w.at_ + msec 40 ≤ m.sys.clock)
    if w.header = 0 || (!sure && Config.freeNat m.free % 2 = 0) then { keep with epoch := w.epoch - 1 }
    else
      let k := Config.freeNat (m.free + 1) % (w.entries.length + 1)
      let recs := (w.entries.take k).foldl (sweepCell w) l.recs
      let recs := match w.entries[k]? with
        | some e => if Config.freeNat (m.free + 2) % 2 = 0 then recs else tabUpd {} recs e.cell LSlots.tear
        | none => recs
      { keep with recs := recs, sweep := some (w.found recs) }

/-- BOOT_SWEEP_RECOVERY (R246, R249): an interrupted sweep is completed from its stored header, in flash inside the write
window, else in memory until the window opens; then the working copies are loaded; event 253 for each configured cell
without a record. -/
def Module.learnBoot (m : Module) : Module :=
  let m := m.sweepMark
  let m := m.onLrn fun l =>
    { l with work := l.recs.filterMap fun p => p.2.newest.bind fun r => if r.data = {} then none else some (p.1, r.data)
             frozenAt := m.sys.clock, acc := [], again := false, waiters := [], waitersNext := [], state := if l.sweep.isSome then 2 else 0 }
  (m.allCells.filter fun c => (tabGet ({} : LSlots) m.lrn.recs c).newest.isNone).foldl (fun m _ => m.raise 253) m

/-! ### What flash holds (R246, R248): the state keeps these decoded, an unreadable slot as none -/

/-- A cell's 512-byte record. -/
def LRec.bytes (cell : Nat) (r : LRec) : Bytes := withCrc ((learnRecord cell r.epoch r.data r.ahChg r.ahDis r.efc).take 508)

/-- The sweep header with its vector; the CRC stands before the vector it covers. -/
def Sweep.bytes (w : Sweep) : Bytes :=
  let h := [0x4C, 0x53, 0x57, 0x50] ++ leBytes 4 w.epoch ++ leBytes 2 w.entries.length ++ zeros 2 ++ leBytes 4 w.secs
    ++ leBytes 4 w.cycles ++ zeros 40
  let v := w.entries.flatMap fun e =>
    leBytes 2 e.cell ++ leBytes 2 (bit e.reset) ++ leBytes 2 e.dChg ++ leBytes 2 e.dDis ++ leBytes 4 e.dEfc
  h ++ leBytes 4 (crc32c (h ++ v)) ++ v

/-- The valid mark of an epoch. -/
def markBytes (epoch : Nat) : Bytes := withCrc ([0x4C, 0x53, 0x4F, 0x4B] ++ leBytes 4 epoch ++ zeros 4)

/-! ### Requests (R255 to R259) -/

/-- Counters with the increments not yet swept (R256): charged, discharged, cycles. -/
def Module.sweptCounters (c : Nat) (m : Module) : Nat × Nat × Nat :=
  let r := m.lrec c
  let a := tabGet ({} : Acc) m.lrn.acc c
  let u := m.efcUnit c
  let s := (m.lrn.sweep.bind fun w => if w.epoch ≤ r.epoch then none else w.entries.find? fun e => e.cell = c)
  let base := fun (v : Nat) (d : SwEntry → Nat) => match s with
    | some e => (if e.reset then 0 else v) + d e
    | none => v
  let now := fun (v x : Nat) => satU32 ((if a.reset then 0 else v) + x)
  (now (base r.ahChg (·.dChg)) (a.chg / 10000), now (base r.ahDis (·.dDis)) (a.dis / 10000),
   now (base r.efc (·.dEfc)) (if u = 0 then 0 else a.cyc / u))

def learnFlags (l : Learn) : Nat := bit (l.q ≠ 0) + 2 * bit (l.tauS ≠ 0xFFFF) + 4 * bit l.suspect

/-- The LEARN_CELLS_GET entry (R256). -/
def Module.learnEntry (c : Nat) (m : Module) : Bytes :=
  let l := m.learn c
  let (a, d, e) := m.sweptCounters c
  let (r, x) := m.ripple c
  leBytes 2 c ++ leBytes 2 (learnFlags l) ++ leBytes 4 l.q ++ leBytes 4 a ++ leBytes 4 d ++ leBytes 4 e ++ leBytes 2 l.tauS
    ++ leBytes 1 l.run ++ zeros 1 ++ leBytes 2 r ++ leBytes 2 x ++ zeros 4

/-- The LEARN_STATUS_GET reply (R257). -/
def Module.learnStatus (m : Module) : Bytes :=
  let cs := m.allCells
  let n := fun (p : Nat → Bool) => (cs.filter p).length
  leBytes 4 m.lrn.mark ++ leBytes 1 m.lrn.state ++ zeros 1 ++ leBytes 2 (n fun c => (m.learn c).suspect)
    ++ leBytes 2 (n fun c => (m.learn c).q ≠ 0) ++ leBytes 2 (n fun c => (m.ripple c).1 ≠ 0xFFFF) ++ leBytes 4 m.lrn.markSecs
    ++ leBytes 4 m.est.fitsOk ++ leBytes 4 m.est.fitsBad ++ zeros 8

/-- The LEARN_RUN_STATUS_GET entry (R258). -/
def Module.runEntry (n : Nat) (m : Module) : Bytes :=
  let s := m.str n
  leBytes 1 n ++ leBytes 1 s.cap ++ leBytes 1 s.capEnd ++ zeros 1 ++ leBytes 2 s.capCells ++ leBytes 2 s.capOk
    ++ leBytes 8 s.capStart ++ leBytes 8 (if s.cap = 2 then 0 else s.capStop)
    ++ leBytes 4 (ofInt 32 (sat32s (fToInt s.capStrAh 1000 1))) ++ zeros 4

def cmdLearnStatusGet (r : Req) (m : Module) : Resp := m.checks r 0 true .observe (.done m.learnStatus m)
def execLearnStatusGet (r : Req) (s : State) : Host.Outcome State Fault Refusal := s.go (·.request 0x0310 cmdLearnStatusGet r)

def cmdLearnCellsGet (r : Req) (m : Module) : Resp :=
  m.checks r 4 (m.cellRange (reqFirst r) (reqCount r)) .observe (.done ((rangeOf r).flatMap fun c => m.learnEntry c) m)
def execLearnCellsGet (r : Req) (s : State) : Host.Outcome State Fault Refusal := s.go (·.request 0x0311 cmdLearnCellsGet r)

def cmdLearnTableGet (r : Req) (m : Module) : Resp :=
  let l := m.learn (reqFirst r)
  m.checks r 4 (m.cellRange (reqFirst r) 1) .observe <|
    let (b, m) := m.readCells 1 432 (fun _ => (List.range 192).flatMap (fun i => leBytes 2 (tabGet 0xFFFF l.imp i))
      ++ (List.range 48).flatMap fun i => leBytes 1 (tabGet 0 l.binN i)) [reqFirst r]
    .done b m
def execLearnTableGet (r : Req) (s : State) : Host.Outcome State Fault Refusal := s.go (·.request 0x0312 cmdLearnTableGet r)

/-- A cell without a grading record: RESULT 0xFF (R243). -/
def noGrade (c : Nat) : Bytes := leBytes 2 c ++ leBytes 1 0xFF ++ zeros 29

def cmdLearnGradeGet (r : Req) (m : Module) : Resp :=
  m.checks r 4 (m.cellRange (reqFirst r) (reqCount r)) .observe <|
    .done ((rangeOf r).flatMap fun c => (tabGet none m.est.grade c).getD (noGrade c)) m
def execLearnGradeGet (r : Req) (s : State) : Host.Outcome State Fault Refusal := s.go (·.request 0x0313 cmdLearnGradeGet r)

def cmdLearnRunStatusGet (r : Req) (m : Module) : Resp :=
  m.checks r 4 true .observe (.done ((maskList 16 (field r.payload 0 2)).flatMap fun n => m.runEntry n) m)
def execLearnRunStatusGet (r : Req) (s : State) : Host.Outcome State Fault Refusal :=
  s.go (·.request 0x0314 cmdLearnRunStatusGet r)

/-- The mode a RESET_LEARNED needs: COMMISSION, STANDBY or SAFE-HOLD for capacity or impedance (R259). -/
def Module.resetMode (mask : Nat) (m : Module) : Bool := mask % 4 = 0 || m.reinitMode

def cmdResetLearned (r : Req) (m : Module) : Resp :=
  let mask := byteAt r.payload 4
  m.checks r 8 (m.cellRange (reqFirst r) (reqCount r) && decide (1 ≤ mask ∧ mask < 16)) .engineer <|
    if !m.resetMode mask then .fail .wrongMode m else .wait [] [] m
def execResetLearned (r : Req) (s : State) : Host.Outcome State Fault Refusal := s.go (·.request 0x0315 cmdResetLearned r)

def cmdLearnSuspectClear (r : Req) (m : Module) : Resp :=
  m.checks r 4 (m.cellRange (reqFirst r) (reqCount r)) .operate (.wait [] [] m)
def execLearnSuspectClear (r : Req) (s : State) : Host.Outcome State Fault Refusal :=
  s.go (·.request 0x0316 cmdLearnSuspectClear r)

/-- LEARN_SWEEP_NOW: served by a sweep frozen after the request (R250, R255). -/
def cmdLearnSweepNow (r : Req) (m : Module) : Resp :=
  m.checks r 0 true .operate <|
    .wait [] [] (m.onLrn fun l =>
      { l with again := true, waitersNext := l.waitersNext ++ [(m.thisId, m.sys.clock)] })
def execLearnSweepNow (r : Req) (s : State) : Host.Outcome State Fault Refusal := s.go (·.request 0x0317 cmdLearnSweepNow r)

/-! ### Effects at the pick boundary (R253) -/

/-- SUSPECT and its run are cleared. -/
def Module.clearSuspect (cs : List Nat) (m : Module) : Module :=
  cs.foldl (fun m c => m.updLearn c fun l => { l with suspect := false, run := 0 }) m

/-- Learned data of a cell reset (R204): parameter states to R179, probabilities to the priors. -/
def Cell.resetLearned (x : Cell) : Cell :=
  if !x.init then x
  else { x with hyps := (List.range 4).map fun j => (x.hyps.getD j {}).resetParams j
                prob := priors, reinits := satU32 (x.reinits + 1) }

/-- RESET_LEARNED takes effect (R253). -/
def Module.applyReset (p : Bytes) (m : Module) : Module :=
  let mask := byteAt p 4
  let cs := payRange p
  let m := cs.foldl (fun m c =>
    let m := m.updLearn c fun l =>
      let l := if mask.testBit 0 then { l with q := 0, stampS := 0, stampC := 0 } else l
      if mask.testBit 1 then { l with imp := [], binN := [], tauS := 0xFFFF } else l
    let m := if mask.testBit 0 then m.updCell c fun x => { x with capExcl := x.capExcl || (m.str (c / 512)).cap ≠ 0 } else m
    let m := if mask.testBit 2 then m.onLrn fun l => { l with acc := tabPut {} l.acc c { reset := true } } else m
    if mask % 4 ≠ 0 then (m.updCell c Cell.resetLearned).onEst fun e => { e with reinits := satU32 (e.reinits + bit (m.cell c).init) }
    else m) m
  let m := if mask.testBit 3 then m.clearSuspect cs else m
  let m := if mask % 4 ≠ 0 then m.restartStrings cs else m
  (m.cloInput 5 m.pck.index (leBytes 1 1 ++ leBytes 1 mask ++ leBytes 2 (field p 0 2) ++ leBytes 2 (field p 2 2) ++ zeros 2)).sweepDue

/-- LEARN_SUSPECT_CLEAR takes effect. -/
def Module.applySuspectClear (p : Bytes) (m : Module) : Module :=
  (m.clearSuspect (payRange p)).cloInput 5 m.pck.index
    (leBytes 1 2 ++ leBytes 1 0 ++ leBytes 2 (field p 0 2) ++ leBytes 2 (field p 2 2) ++ zeros 2)

end Sys2Proof.Machine
end

