-- ==== Sys2Proof/Machine/Update.lean ====
section
/-! DEFINITION. Machine/Update.lean: images, their delivery, relay, verification and activation, key revocation, and TIME
frames, which can fire an activation (R671 to R701, R551 to R554). -/
namespace Sys2Proof.Machine

/-! ### Images (R671 to R676) -/

def Image.keySlot (i : Image) : Nat := byteAt i.header 5
def Image.format (i : Image) : Nat := byteAt i.header 6
def Image.release (i : Image) : Nat := field i.header 8 4
def Image.id (i : Image) : Nat := field i.header 12 8
def Image.bytes (i : Image) : Nat := field i.header 20 4
def Image.count (i : Image) : Nat := field i.header 24 2
def Image.piece (n : Nat) (i : Image) : Option Bytes := tabGet none i.pieces n
def Image.stored (i : Image) : Nat := ((List.range i.count).filter fun n => (i.piece n).isSome).length
def Image.missing (i : Image) : List Nat := (List.range i.count).filter fun n => (i.piece n).isNone
/-- Every piece is stored: COMPLETE. -/
def Image.complete (i : Image) : Bool := i.missing.isEmpty

/-- Ciphertext bytes of piece `n` (R674). -/
def Image.pieceLen (n : Nat) (i : Image) : Nat := if n + 1 < i.count then 65520 else i.bytes - 65520 * (i.count - 1)

/-- The header keeps R673. -/
def imageHeaderOk (h : Bytes) : Bool :=
  decide (h.length = 1024 ∧ h.take 5 = [0x53, 0x43, 0x49, 0x4D, 0x01] ∧ field h 1020 4 = crc32c (h.take 1020)
    ∧ byteAt h 5 ≤ 3 ∧ 1 ≤ field h 20 4 ∧ field h 20 4 ≤ 201277440 ∧ field h 24 2 = ceilDiv (field h 20 4) 65520)

/-- The content key the key record yields: the record names this module and its tag passes (R675). -/
def Module.contentKey (i : Image) (m : Module) : Option Bytes :=
  let k := i.keyRec
  if field k 0 8 ≠ m.sys.serial then none
  else Config.deviceOpen ((k.drop 8).take 12) (leBytes 8 m.sys.serial ++ leBytes 8 i.id) ((k.drop 24).take 32)
    ((k.drop 56).take 16)

/-- Key hash slot `n` is programmed and not revoked. -/
def Module.keyLive (n : Nat) (m : Module) : Bool := (m.fuse? (4 + n)).isSome && !m.com.revoked.testBit n
/-- SHA-384 of PUBLIC_KEY equals the slot's hash. -/
def Module.keyHashOk (i : Image) (m : Module) : Bool :=
  decide (some (Config.sha384 ((i.header.drop 192).take 97)) = m.fuse? (4 + i.keySlot))

/-- Plaintext of a piece; none if its tag fails (R674). -/
def openPiece (key : Bytes) (i : Image) (n : Nat) (d : Bytes) : Option Bytes :=
  Config.gcmOpen key ((i.header.drop 28).take 8 ++ leBytes 4 n) (leBytes 8 i.id ++ leBytes 4 n) (d.take (d.length - 16))
    (d.drop (d.length - 16))

/-- The plaintext of an image: none if the key record's tag, or a piece's, fails or a piece is missing. -/
def Module.plaintext (i : Image) (m : Module) : Option Bytes :=
  (m.contentKey i).bind fun key =>
    (List.range i.count).foldl (fun acc n => acc.bind fun b => ((i.piece n).bind (openPiece key i n)).map (b ++ ·)) (some [])

/-- The signature verifies against PUBLIC_KEY (R676). -/
def signatureOk (i : Image) (plain : Bytes) : Bool :=
  Config.ecdsaVerify ((i.header.drop 192).take 97) (Config.sha384 (i.header.take 292 ++ plain)) ((i.header.drop 292).take 96)

/-- The image is authentic (R676). Of an image written at the factory only the revocation is judged. -/
def Module.authentic (i : Image) (m : Module) : Bool :=
  if i.factory then !m.com.revoked.testBit i.keySlot
  else m.keyLive i.keySlot && m.keyHashOk i && (match m.plaintext i with
    | some p => signatureOk i p
    | none => false)

/-- IMAGE_BYTES agrees with PARTS: no part ends past it, and the last ends there (R687). -/
def Image.sizeOk (i : Image) : Bool :=
  let ends := (List.range 8).map fun k =>
    if field i.header (68 + 16 * k) 4 = 0 then 0 else field i.header (64 + 16 * k) 4 + field i.header (68 + 16 * k) 4
  decide (ends.foldl max 0 = i.bytes)

/-! ### The update's state (R681, R672) -/

def updCode : UpdState → Nat
  | .idle => 0 | .receiving => 1 | .verifying => 2 | .ready => 3 | .scheduled => 4 | .deferred => 5 | .activating => 6

def Module.slotImage (b : Bool) (m : Module) : Option Image := if b then m.upd.slotB else m.upd.slotA
def Module.putSlot (b : Bool) (i : Option Image) (m : Module) : Module :=
  m.onUpd fun u => if b then { u with slotB := i } else { u with slotA := i }
/-- RELEASE held in a slot; 0 if empty, or invalid under a revoked key. -/
def Module.slotRelease (b : Bool) (m : Module) : Nat := match m.slotImage b with
  | some i => if m.com.revoked.testBit i.keySlot then 0 else i.release
  | none => 0

def Module.updComplete (m : Module) : Bool := m.upd.staging.any Image.complete

/-- A key hash slot other than `n` is programmed and unrevoked. -/
def Module.otherKey (n : Nat) (m : Module) : Bool := (List.range 4).any fun k => k ≠ n && m.keyLive k

/-- UPD_STATUS (R699). -/
def Module.updStatus (m : Module) : Nat :=
  let u := m.upd
  updCode u.state + 8 * bit u.activeB + 0x10 * bit u.trial + 0x20 * bit m.updComplete + 0x40 * u.deferCause
    + 0x100 * u.verifyFail + 0x800 * bit u.relay.isSome + 0x1000 * bit (u.staging.isSome && u.downgrade)

def Module.updPieces (m : Module) : Nat := match m.upd.staging with
  | some i => i.stored + 65536 * i.count
  | none => 0
def Module.updKeys (m : Module) : Nat :=
  maskOf 4 (fun n => (m.fuse? (4 + n)).isSome) + 16 * (m.com.revoked % 16) + 256 * m.upd.runKey
def Module.updBoot (m : Module) : Nat := m.upd.bootMs + 0x10000 * m.upd.source + 0x40000 * bit m.upd.settingsReset
def Module.stagedId (m : Module) : Nat := (m.upd.staging.map Image.id).getD 0
def Module.stagedRelease (m : Module) : Nat := (m.upd.staging.map Image.release).getD 0

/-- The registers of the UPD block (R698). -/
def Module.updReg (off : Nat) (m : Module) : Option Nat :=
  match off with
  | 0x100000 => some m.updStatus
  | 0x100004 => some m.sys.release
  | 0x100008 => some (m.slotRelease false)
  | 0x10000C => some (m.slotRelease true)
  | 0x100010 => some m.stagedRelease
  | 0x100014 => some m.updPieces
  | 0x100018 => some (m.stagedId % 2 ^ 32)
  | 0x10001C => some (m.stagedId / 2 ^ 32)
  | 0x100020 => some (m.upd.schedG % 2 ^ 32)
  | 0x100024 => some (m.upd.schedG / 2 ^ 32)
  | 0x100028 => some m.updKeys
  | 0x10002C => some m.updBoot
  | 0x100030 => some (m.upd.relayLeft % 2 ^ 32)
  | 0x100034 => some (m.upd.relayLeft / 2 ^ 32)
  | 0x100040 => some (m.counter 0x100040)
  | 0x100044 => some (m.counter 0x100044)
  | 0x100048 => some (m.counter 0x100048)
  | 0x10004C => some (m.counter 0x10004C)
  | _ => none

def cmdUpdStatusGet (r : Req) (m : Module) : Resp :=
  m.basic r 0 .observe <|
    .done (leBytes 4 m.updStatus ++ leBytes 4 m.sys.release ++ leBytes 4 (m.slotRelease false) ++ leBytes 4 (m.slotRelease true)
      ++ leBytes 4 m.stagedRelease ++ leBytes 4 m.updPieces ++ leBytes 4 m.updKeys ++ leBytes 4 m.updBoot
      ++ leBytes 8 m.stagedId ++ leBytes 8 m.upd.schedG) m
def execUpdStatusGet (r : Req) (s : State) : Host.Outcome State Fault Refusal := s.go (·.request 0x0800 cmdUpdStatusGet r)

/-! ### Delivery (R682 to R684) -/

/-- The header and key record of a UPD_BEGIN pass R682. -/
def Module.beginOk (i : Image) (down : Bool) (m : Module) : Bool :=
  imageHeaderOk i.header && (m.contentKey i).isSome && m.keyLive i.keySlot && m.keyHashOk i
    && (down || decide (m.sys.release ≤ i.release))
    && (match m.upd.staging with
      | some j => decide (j.id = i.id → j.header = i.header)
      | none => true)

/-- UPD_BEGIN: a resumption keeps the stored pieces; otherwise staging starts afresh. -/
def cmdUpdBegin (r : Req) (m : Module) : Resp :=
  let p := r.payload
  let i : Image := { header := p.take 1024, keyRec := (p.drop 1024).take 80 }
  let down := (byteAt p 1104).testBit 0
  if p.length ≠ 1108 then .fail .badLength m
  else if !m.beginOk i down then .fail .badParam m
  else if m.lacks r.ctx (if down then .safety else .engineer) then .fail .denied m
  else if m.inBoot then .fail .wrongMode m
  else if (m.upd.state ≠ .idle ∧ m.upd.state ≠ .receiving) ∨ m.flashOk = false then .fail .busy m
  else
    let m := m.onUpd fun u => match u.staging with
      | some j => if j.id = i.id then { u with staging := some { j with keyRec := i.keyRec } }
                  else { u with staging := some i, downgrade := down, state := .receiving }
      | none => { u with staging := some i, downgrade := down, state := .receiving }
    .late [] (m.raise 452)
def execUpdBegin (r : Req) (s : State) : Host.Outcome State Fault Refusal := s.go (·.request 0x0801 cmdUpdBegin r)

/-- A piece passes R683: its CRC and its tag. -/
def Module.pieceOk (i : Image) (n crc : Nat) (d : Bytes) (m : Module) : Bool :=
  decide (crc32c d = crc) && decide (d.length = i.pieceLen n + 16)
    && ((m.contentKey i).bind fun k => openPiece k i n d).isSome

/-- Store a piece; the last one sets COMPLETE, event 454. -/
def Module.storePiece (i : Image) (n : Nat) (d : Bytes) (m : Module) : Module :=
  let j : Image := { i with pieces := tabPut none i.pieces n (some d) }
  (m.onUpd fun u => { u with staging := some j }).raiseIf (j.complete && !i.complete) 454

def cmdUpdPiece (r : Req) (m : Module) : Resp :=
  let p := r.payload
  let n := field p 0 4
  if p.length ≠ 12 then .fail .badLength m
  else match m.upd.staging with
    | none => .fail .badParam m
    | some i =>
      if i.count ≤ n ∨ m.upd.state ≠ .receiving then .fail .badParam m
      else
        let got := m.readPages (field p 4 4) (i.pieceLen n + 16)
        let rest := fun (d : Option Bytes) =>
          if m.lacks r.ctx .engineer then .fail .denied m
          else if m.inBoot then .fail .wrongMode m
          else match d with
            | none => if m.flashOk then .fail .pageNotOwned m else .fail .busy m
            | some b =>
              if (i.piece n).isSome then .done [] m
              else if !m.flashOk then .fail .busy m
              else .late [] (m.storePiece i n b)
        match got with
        | .error .badParam => .fail .badParam m
        | .error _ => rest none
        | .ok d =>
          if m.pieceOk i n (field p 8 4) d then rest (some d) else .fail .badParam ((m.bump 0x100040).raiseOnce 453)
def execUpdPiece (r : Req) (s : State) : Host.Outcome State Fault Refusal := s.go (·.request 0x0802 cmdUpdPiece r)

def cmdUpdMissingGet (r : Req) (m : Module) : Resp :=
  m.basic r 4 .observe <|
    let first := field r.payload 0 2
    let l := (((m.upd.staging.map Image.missing).getD []).filter fun n => decide (first ≤ n)).take 256
    .done (leBytes 2 l.length ++ zeros 2 ++ l.flatMap fun n => leBytes 2 n) m
def execUpdMissingGet (r : Req) (s : State) : Host.Outcome State Fault Refusal := s.go (·.request 0x0803 cmdUpdMissingGet r)

/-! ### Verification (R687) -/

def cmdUpdVerify (r : Req) (m : Module) : Resp :=
  m.checks r 0 true .engineer <|
    if !m.updComplete || m.upd.state = .verifying || !m.flashOk then .fail .busy m
    else .waitFixed [] [] (m.onUpd fun u =>
      { u with state := .verifying, verifier := some m.thisId, verifyFail := 0, schedG := 0, autoG := none, deferCause := 0 })
def execUpdVerify (r : Req) (s : State) : Host.Outcome State Fault Refusal := s.go (·.request 0x0804 cmdUpdVerify r)

/-- The VERIFY_FAIL code of steps 1 and 2; 0 if they pass. -/
def Module.verifyCode (i : Image) (m : Module) : Nat :=
  match m.plaintext i with
  | none => 3
  | some p =>
    if !i.sizeOk then 5
    else if !m.keyLive i.keySlot then 2
    else if !m.keyHashOk i || !signatureOk i p then 1 else 0

/-- UPD_VERIFY_COMPLETE: `copyOk` whether the slot read back as written. It waits while a pause of the write window lasts. -/
def Module.verifyDone (copyOk : Bool) (m : Module) : Module :=
  match m.upd.staging with
  | none => m
  | some i =>
    if m.upd.state ≠ .verifying then m
    else
      let cmd := m.upd.verifier
      let m := m.onUpd fun u => { u with verifier := none }
      let code := m.verifyCode i
      let bad := fun (c : Nat) (m : Module) => (m.raise 456).onUpd fun u => { u with verifyFail := c, state := .receiving }
      if code = 1 ∨ code = 2 then
        ((bad code m).onUpd fun u => { u with state := .idle, staging := none }).finishOpt cmd .badParam []
      else if code ≠ 0 then (bad code m).finishOpt cmd .badParam []
      else if !copyOk then ((bad 4 m).putSlot (!m.upd.activeB) none).finishOpt cmd .badParam []
      else
        ((((m.putSlot (!m.upd.activeB) (some i)).onUpd fun u => { u with state := .ready }).raise 455)).finishOpt cmd .done []
def execUpdVerifyComplete (copyOk : Bool) (s : State) : Host.Outcome State Fault Refusal :=
  s.go fun m => if m.flashOk then m.verifyDone copyOk else m

/-! ### Scheduling (R688 to R690) -/

/-- READY, with or without an instant. -/
def Module.updReady (m : Module) : Bool := decide (m.upd.state ∈ [.ready, .scheduled, .deferred])

/-- Set the activation instant: event 457. -/
def Module.updSchedule (g : Nat) (m : Module) : Module :=
  (m.onUpd fun u => { u with state := .scheduled, schedG := g, autoG := none, deferCause := 0 }).raise 457

def cmdUpdSchedule (r : Req) (m : Module) : Resp :=
  let g := leNat r.payload
  m.checks r 8 (decide (m.ang.gridIndex + 50 ≤ g)) .engineer <|
    if !m.updReady || m.ang.gridLocal then .fail .busy m else .done [] (m.updSchedule g)
def execUpdSchedule (r : Req) (s : State) : Host.Outcome State Fault Refusal := s.go (·.request 0x0805 cmdUpdSchedule r)

def cmdUpdActivate (r : Req) (m : Module) : Resp :=
  m.checks r 0 true .engineer <|
    if m.sys.mode ≠ .standby ∧ m.sys.mode ≠ .safeHold then .fail .wrongMode m
    else if !m.updReady then .fail .busy m
    else .done [] (m.updSchedule (m.ang.gridIndex + 1))
def execUpdActivate (r : Req) (s : State) : Host.Outcome State Fault Refusal := s.go (·.request 0x0806 cmdUpdActivate r)

def cmdUpdCancel (r : Req) (m : Module) : Resp :=
  m.checks r 0 true .operate <|
    if m.upd.state ≠ .scheduled ∧ m.upd.state ≠ .deferred then .fail .busy m
    else .done [] (m.onUpd fun u => { u with state := .ready, schedG := 0, autoG := none, deferCause := 0 })
def execUpdCancel (r : Req) (s : State) : Host.Outcome State Fault Refusal := s.go (·.request 0x0807 cmdUpdCancel r)

/-- UPD_DISCARD: staging is emptied and a READY image withdrawn; a verification that runs ends BUSY, for nothing is staged. -/
def cmdUpdDiscard (r : Req) (m : Module) : Resp :=
  m.checks r 0 true .engineer <|
    if m.upd.state ∈ [.scheduled, .deferred, .activating] ∨ m.flashOk = false then .fail .busy m
    else
      let v := m.upd.verifier
      let m := if m.upd.state = .ready ∨ m.upd.state = .verifying then m.putSlot (!m.upd.activeB) none else m
      .lateThen [] (m.onUpd fun u => { u with staging := none, state := .idle, verifier := none, downgrade := false })
        fun m => m.finishOpt v .busy []
def execUpdDiscard (r : Req) (s : State) : Host.Outcome State Fault Refusal := s.go (·.request 0x0808 cmdUpdDiscard r)

/-- A relay from this module ends: what is not done stays in UPD_RELAY_LEFT, event 461. -/
def Module.relayEnd (m : Module) : Module :=
  match m.upd.relay with
  | none => m
  | some q =>
    ((m.onUpd fun u => { u with relay := none }).raise 461).finish q.cmd .done (leBytes 8 (maskOf 64 fun a => a ∈ q.doneBy))

/-- The activation instant falls (R689): ACTIVATING with its steps 1 and 2 (R691), or deferred, or not honoured. -/
def Module.activation (m : Module) : Module :=
  let m := m.onUpd fun u => { u with schedG := 0, autoG := none }
  let defer := fun (c : Nat) (m : Module) =>
    ((m.onUpd fun u => { u with state := .deferred, deferCause := c }).raise 458).bump 0x100044
  if m.ang.gridLocal then defer 2 m
  else match m.sys.mode with
    | .standby | .safeHold =>
      let m := (m.onUpd fun u => { u with state := .activating, deferCause := 0 }).raise 460
      let m := if m.upd.relay.isSome then (m.onUpd fun u => { u with relay := none, relayLeft := 0 }).raise 461 else m
      let m := if m.drf.state = .stop then m else m.drfStop 1
      m.clearReq allOuts
    | .dispatch | .formation => defer 1 m
    | .commission | .boot => (m.onUpd fun u => { u with state := .ready, deferCause := 0 }).raise 459

/-- ACTIVATION_INSTANT: at the start of the treadle cycle of the grid index set (R83), or of R690. -/
def Module.activationDue (m : Module) : Bool :=
  (decide (m.upd.state = .scheduled) && decide (m.upd.schedG ≤ m.ang.gridIndex))
    || (decide (m.upd.state = .deferred) && m.upd.autoG.any fun g => g ≤ m.ang.gridIndex)
/-- It is the activation's turn at treadle angle 0 (R78): a pick there, with its loop ticks and draft starts, comes first. -/
def Module.activationTurn (m : Module) : Bool :=
  !(m.pck.placed.any fun q => slotPos m.pickK (m.setting 0x0911) q.slot = 0)
    && (!m.atBoundary || decide (m.pck.position ≠ 0)
      || (m.loopsTicked && (m.drf.state ≠ .run || m.startsBelow m.taskCount)))

/-- ACTIVATION_INSTANT (R83, R689), LATE where a forward jump began the cycle (R77). -/
def Module.activationInstant (m : Module) : Module :=
  if m.activationDue && m.activationTurn then (if m.ang.startLate then m.lateEvent else m).activation else m
def execActivationInstant (s : State) : Host.Outcome State Fault Refusal := s.go Module.activationInstant

/-- Entry into STANDBY or SAFE-HOLD with a deferral of cause 1 and UPD_DEFER_AUTO at 1 (R690). -/
def Module.updModeEntry (m : Module) : Module :=
  if m.upd.state = .deferred ∧ m.upd.deferCause = 1 ∧ m.setting 0x0800 = 1
      ∧ (m.sys.mode = .standby ∨ m.sys.mode = .safeHold) then
    m.onUpd fun u => { u with autoG := some (m.ang.gridIndex + 1) }
  else m

/-! ### Relay (R685, R686) -/

/-- A RELAY message (R685). -/
def relayMsg (kind n id crc : Nat) (d : Bytes) : Bytes :=
  leBytes 1 kind ++ zeros 1 ++ leBytes 2 n ++ leBytes 8 id ++ leBytes 4 crc ++ d

/-- A relay of another module is known to run: its PIECEs are heard, at most one round's end apart. -/
def Module.relayHeard (m : Module) : Bool :=
  m.upd.heard.any fun h => decide (m.sys.clock < h.at_ + msec 210)

def cmdUpdRelay (r : Req) (m : Module) : Resp :=
  let mask := leNat r.payload
  m.checks r 8 (decide (mask ≠ 0) && !(decide (m.rng.addr < 64) && mask.testBit m.rng.addr)) .engineer <|
    let okState := (decide (m.upd.state = .receiving) && m.updComplete) || m.updReady
    match m.upd.staging with
    | none => .fail .busy m
    | some i =>
      if !okState || m.upd.relay.isSome || m.relayHeard then .fail .busy m
      else .waitFixed [] [] (m.onUpd fun u =>
        { u with relayLeft := mask
                 relay := some { imageId := i.id, round := 1, targets := maskList 64 mask, queue := List.range i.count,
                                 cmd := m.thisId } })
def execUpdRelay (r : Req) (s : State) : Host.Outcome State Fault Refusal := s.go (·.request 0x0809 cmdUpdRelay r)

/-- RELAY_PIECE_SEND: the next PIECE of the round, at UPD_RELAY_RATE; one sent again is counted. -/
def Module.relaySend (m : Module) : Module :=
  match m.upd.relay, m.upd.staging with
  | some q, some i => match q.queue with
    | n :: ns =>
      let d := (i.piece n).getD []
      let m := m.onUpd fun u => { u with relay := some { q with queue := ns } }
      let m := if 1 < q.round then m.bump 0x10004C else m
      m.ringSend 0x08 1 0xFF (relayMsg 1 n i.id (crc32c d) d)
    | [] => m
  | _, _ => m
def execRelayPieceSend (s : State) : Host.Outcome State Fault Refusal := s.go Module.relaySend

/-- RELAY_PIECE_RX: a target in RECEIVING for the image stores a piece that passes R683 inside the write window; `target`
says whether this module is one. -/
def Module.relayPiece (f : RFrame) (target : Bool) (t : Nat) (m : Module) : Module :=
  (m.tick t).ringMsg 0x08 false f fun b m =>
    if byteAt b 0 ≠ 1 then m
    else
      let n := field b 2 2
      let id := leNat ((b.drop 4).take 8)
      let d := b.drop 16
      let m := m.onUpd fun u => { u with heard := some { src := f.src, imageId := id, at_ := t, owes := target } }
      match m.upd.staging with
      | none => m
      | some i =>
        if target && !m.inBoot && m.upd.state = .receiving && i.id = id && n < i.count && (i.piece n).isNone && m.flashOk
            && m.pieceOk i n (field b 12 4) d then m.storePiece i n d
        else m
def execRelayPieceRx (f : RFrame) (target : Bool) (t : Nat) (s : State) : Host.Outcome State Fault Refusal :=
  s.go (·.relayPiece f target t)

/-- A target's answer reaches the source: `k` takes it, of a target of the relay that runs. -/
def Module.relayAnswer (kind : Nat) (f : RFrame) (k : Relay → Bytes → Relay) (m : Module) : Module :=
  m.ringMsg 0x08 false f fun b m =>
    match m.upd.relay with
    | some q =>
      if byteAt b 0 = kind && leNat ((b.drop 4).take 8) = q.imageId && q.targets.contains f.src then
        m.onUpd fun u => { u with relay := some { k q b with answered := f.src :: q.answered } }
      else m
    | none => m

/-- RELAY_NEED_RX: indices a target lacks; NOT_PREPARED drops it from the relay. -/
def relayNeed (src : Nat) (q : Relay) (b : Bytes) : Relay :=
  let n := field b 2 2
  if n = 0xFFFF then { q with targets := q.targets.filter (· ≠ src) }
  else { q with need := q.need ++ (List.range n).map fun i => field b (16 + 2 * i) 2 }
def execRelayNeedRx (f : RFrame) (s : State) : Host.Outcome State Fault Refusal :=
  s.go (·.relayAnswer 2 f (relayNeed f.src))

/-- RELAY_DONE_RX: a target holds every piece. -/
def execRelayDoneRx (f : RFrame) (s : State) : Host.Outcome State Fault Refusal :=
  s.go fun m =>
    let m1 := m.relayAnswer 3 f fun q _ => { q with doneBy := f.src :: q.doneBy.filter (· ≠ f.src) }
    match m1.upd.relay with
    | some q => if q.doneBy.contains f.src then
        m1.onUpd fun u => { u with relayLeft := if u.relayLeft.testBit f.src then u.relayLeft - 2 ^ f.src else u.relayLeft }
      else m1
    | none => m1

/-- What a target answers at a round's end (R686). -/
def Module.relayReply (h : Heard) (m : Module) : Module :=
  let m := m.onUpd fun u => { u with heard := some { h with owes := false } }
  match m.upd.staging with
  | some i =>
    if i.id ≠ h.imageId then m.ringSend 0x08 1 h.src (relayMsg 2 0xFFFF h.imageId 0 [])
    else if i.complete then m.ringSend 0x08 1 h.src (relayMsg 3 0 i.id 0 [])
    else
      let l := i.missing.take 1000
      m.ringSend 0x08 1 h.src (relayMsg 2 l.length i.id 0 (l.flatMap fun n => leBytes 2 n))
  | none => m.ringSend 0x08 1 h.src (relayMsg 2 0xFFFF h.imageId 0 [])

/-- The source's next round, or the end of the relay (R686). -/
def Module.relayRound (q : Relay) (m : Module) : Module :=
  match q.queue with
  | _ :: _ => m
  | [] =>
    let open_ := q.targets.filter fun a => !q.doneBy.contains a
    let silent := open_.any fun a => !q.answered.contains a
    let count := (m.upd.staging.map Image.count).getD 0
    let next := (List.range count).filter fun n => silent || q.need.contains n
    if open_ = [] ∨ 16 ≤ q.round then m.relayEnd
    else m.onUpd fun u =>
      { u with relay := some { q with round := q.round + 1, queue := next, need := [], answered := [] } }

/-- RELAY_ROUND_END: at the source, and at a target that owes its answer. -/
def Module.roundEnd (m : Module) : Module :=
  match m.upd.relay with
  | some q => m.relayRound q
  | none => match m.upd.heard with
    | some h => if h.owes then m.relayReply h else m
    | none => m
def execRelayRoundEnd (s : State) : Host.Outcome State Fault Refusal := s.go Module.roundEnd

/-! ### Key revocation (R694) -/

def cmdUpdKeyRevoke (r : Req) (m : Module) : Resp :=
  let n := byteAt r.payload 0
  if r.payload.length ≠ 4 then .fail .badLength m
  else if 3 < n || !m.keyLive n then .fail .badParam m
  else if m.lacks r.ctx .safety then .fail .denied m
  else if m.sys.mode ≠ .commission then .fail .wrongMode m
  else if m.comBusy || !m.flashOk then .fail .busy m
  else if !m.com.fuseEn || m.upd.runKey = n || !m.otherKey n then .fail .safetyLocked m
  else .waitFixed [] [] (m.onCom fun c => { c with burn := some { cmd := m.thisId, group := 8 + n, value := [] } })
def execUpdKeyRevoke (r : Req) (s : State) : Host.Outcome State Fault Refusal := s.go (·.request 0x080A cmdUpdKeyRevoke r)

/-! ### TIME frames (R551 to R554, R82) -/

/-- The frame as it leaves again: CORRECTION takes the residence time and the delay of the link it came on (R552). -/
def Module.timeOn (f : RFrame) (residence : Nat) (m : Module) : RFrame :=
  let link := (m.port f.port).delay.getD 0
  if f.crcOk then
    { f with payload := f.payload.take 8 ++ leBytes 4 (field f.payload 8 4 + residence + link) ++ f.payload.drop 12 }
  else f

/-- Plant time and the pair of a TIME frame at this module, which is not head. -/
def Module.timeTake (f : RFrame) (t : Nat) (m : Module) : Module :=
  let b := f.payload
  let pt := leNat (b.take 8)
  if m.isHead || pt = 0 then m
  else
    let v := pt + field b 8 4 + (m.port f.port).delay.getD 0
    let m := match m.rng.plant with
      | some _ => (m.plantCorrect v t).2
      | none =>
        let n := m.rng.timeFrames + 1
        let m := m.onRng fun r => { r with timeFrames := n, plant := if n < 3 then none else some (v, t) }
        m.raiseIf (decide (3 ≤ n)) 397
    let m := m.onRng fun r => { r with timeHoldover := false }
    if m.rng.plant.isNone then m
    else
      let (skip, m) := m.gridAdopt (field b 16 8) (field b 24 8)
      match skip with
      | some (old, now) =>
        if m.upd.state = .scheduled && old < m.upd.schedG && m.upd.schedG ≤ now then ((m.bump 0x04005C).raiseOnce 45).activation
        else m
      | none => m
def execTimeFrameRx (f : RFrame) (residence t : Nat) (s : State) : Host.Outcome State Fault Refusal :=
  s.go fun m =>
    let m := m.tick t
    m.ringIn (some 0x07) false (m.timeOn f residence) (·.timeTake f t)

end Sys2Proof.Machine
end

