-- ==== Sys2Proof/Machine/House.lean ====
section
/-! DEFINITION. Machine/House.lean: supply and hold-up, housekeeping rounds, the write window and calibration reads
(R702 to R728). -/
namespace Sys2Proof.Machine

/-! ### Supply (R705 to R707) -/

/-- HK_SUPPLY.SOURCE: 0 J1, 1 J2, 2 hold-up. -/
def Module.source (m : Module) : Nat := if m.hk.j1 then 0 else if m.hk.j2 then 1 else 2

/-- Flash writes that wait go on (R706, R716). -/
def Module.flashResume (m : Module) : Module :=
  if m.flashOk then (m.cloWindowOpen.flushResume.sweepWindow).drfWindowOpen else m

/-- What pauses when flash may not be written: a sweep (event 254), a slot (event 424), an image copy (event 463). -/
def Module.flashPause (m : Module) : Module :=
  (m.sweepWindow.cloWindowClose).raiseIf (m.upd.state = .verifying) 463

/-- Hold-up begins (R706, R658): HEAD_HOLD released, the power-loss record written inside the write window. -/
def Module.holdupEnter (m : Module) : Module :=
  let head := m.isHead
  let m := m.stopHead
  let m := if head then m.onRng fun r => { r with head := .candidate } else m
  let m := (((m.onHk fun h => { h with holdup := true }).raise 2).bump 0x110060).boltCount 546
  if m.hk.windowOpen then
    m.onBlt fun b => { b with power := some { stamp := b.data.stamp, gen := m.set.gen, unsaved := m.set.unsaved } }
  else m

/-- A change of source: event 0, counted. -/
def Module.sourceChanged (m : Module) : Module := (m.raise 0).bump 0x110064

/-- SUPPLY_LOST: J1, or J2. -/
def Module.supplyLost (j2 : Bool) (m : Module) : Module :=
  let was := m.source
  let had := if j2 then m.hk.j2 else m.hk.j1
  let m := m.onHk fun h => if j2 then { h with j2 := false } else { h with j1 := false }
  if m.source = 2 then (if was = 2 then m else m.holdupEnter)
  else if m.source ≠ was then m.sourceChanged
  else m.raiseIf (j2 && had && m.hk.j1) 9
def execSupplyLost (j2 : Bool) (s : State) : Host.Outcome State Fault Refusal := s.go (·.supplyLost j2)

/-- SUPPLY_RESTORED: `dc`, J1 is a DC supply. -/
def Module.supplyBack (j2 dc : Bool) (m : Module) : Module :=
  let was := m.source
  let m := m.onHk fun h => if j2 then { h with j2 := true } else { h with j1 := true, j1dc := dc }
  if m.source = was then m
  else if m.hk.holdup then (m.onHk fun h => { h with holdup := false }).sourceChanged.flashResume
  else m.sourceChanged
def execSupplyRestored (j2 dc : Bool) (s : State) : Host.Outcome State Fault Refusal := s.go (·.supplyBack j2 dc)

/-! ### Rounds (R715 to R718) -/

/-- Rails outside their limits (R715). -/
def Module.railBad (rails : List Nat) (m : Module) : Nat :=
  let nominal := fun (r : Nat) => [0, 0, 0, 1200, 5000, 3300, 1800, 1100, 850, 620, 1200].getD r 0
  maskOf 11 fun r =>
    let v := rails.getD r 0
    if r < 2 then false
    else if r = 2 then decide (v < 4000) && (m.hk.j1 || m.hk.j2)
    else decide (20 * v < 19 * nominal r ∨ 21 * nominal r < 20 * v)

/-- Step 2 and R715 of a round: a rail that leaves its limits is counted; event 3 when the set of bits changes. -/
def Module.railRound (rails : List Nat) (m : Module) : Module :=
  let bad := m.railBad rails
  let new := (maskList 11 bad).filter fun r => !m.hk.railFault.testBit r
  let chg := decide (bad ≠ m.hk.railFault)
  ((m.onHk fun h => { h with rails := rails, railFault := bad }).bumpBy 0x110068 new.length).raiseIf chg 3

/-- A reading R717 does not accept. -/
def Module.readingBad (v : Int) (m : Module) : Bool :=
  decide (v < -550 ∨ 1500 < v) || m.hk.prevRaw.any fun p => decide (100 < (v - p).natAbs)

/-- The write window closes (R716). -/
def Module.writeWindowClose (m : Module) : Module :=
  if !m.hk.windowOpen then m.onHk fun h => { h with inWindow := 0 }
  else (((m.onHk fun h => { h with windowOpen := false, inWindow := 0 }).raise 6).bump 0x11006C).flashPause

/-- The effects of a reading, each threshold lowered by `low` (R716, R722); `crit`: the sensor is faulty (R717). -/
def Module.thresholds (v low : Int) (crit : Bool) (m : Module) : Module :=
  let shed := crit || decide (1050 - low < v)
  let die := crit || decide (1100 - low < v)
  let out := crit || decide (1000 - low < v ∨ v < -200 - low)
  let good := !crit && decide (-180 - low ≤ v ∧ v ≤ 980 - low)
  let m := if out then m.writeWindowClose
    else if m.hk.windowOpen then m
    else if good then
      if 2 ≤ m.hk.inWindow then
        ((m.onHk fun h => { h with windowOpen := true, inWindow := 0 }).raise 7).flashResume
      else m.onHk fun h => { h with inWindow := h.inWindow + 1 }
    else m.onHk fun h => { h with inWindow := 0 }
  let m := if shed && !m.wft.shed then (m.raise 4).shedTiles else m
  let was := m.hk.critical
  let m := m.onHk fun h => { h with shedZone := shed, critical := die }
  let m := m.raiseIf (die && !was) 5
  if die then m.onSys fun y => { y with dieSeen := true } else m

/-- HK_ROUND (R715 to R718): the diode reading in 0.01 °C before the factory offset, and the rails. -/
def Module.hkRound (raw : Int) (rails : List Nat) (t : Nat) (m : Module) : Module :=
  let m := m.tick t
  let corrected := raw + (if m.hk.factoryBad then 0 else m.hk.diodeOffset)
  let v := (corrected + 5) / 10
  let bad := m.readingBad v
  let run := if bad then m.hk.badRun + 1 else 0
  let newFault := decide (3 ≤ run) && !m.hk.sensorFault
  let m := m.onHk fun h =>
    { h with dieLast := some v, dieMax := some (max v (h.dieMax.getD v)), maxRead := false, prevRaw := some v, badRun := run
             sensorFault := h.sensorFault || newFault }
  let m := m.railRound rails
  let m := if newFault then (m.bump 0x110070).raise 8 else m
  m.thresholds v (if m.hk.factoryBad then 50 else 0) m.hk.sensorFault
def execHkRound (raw : Int) (rails : List Nat) (t : Nat) (s : State) : Host.Outcome State Fault Refusal :=
  s.go (·.hkRound raw rails t)

/-! ### Registers and reads (R721 to R727) -/

def Module.calDefault (base : Nat) (m : Module) : Bool := (List.range 16).all fun n => m.setting (base + n) = 1000000

/-- HK counters in map order. -/
def hkCounters : List Nat := [0x110060, 0x110064, 0x110068, 0x11006C, 0x110070]

/-- A die temperature as R14 encodes it, saturated. -/
def dieField (v : Option Int) : Nat := match v with
  | some x => ofInt 16 (max (-32767) (min 32767 x))
  | none => 0x8000

/-- The registers of the HK block (R726). -/
def Module.hkReg (off : Nat) (m : Module) : Option Nat :=
  let h := m.hk
  if off = 0x110000 then some (bit h.windowOpen + 2 * bit h.shedZone + 4 * bit h.critical + 8 * bit h.sensorFault
    + 16 * bit h.factoryBad + 32 * bit h.holdup)
  else if off = 0x110004 then some (dieField h.dieLast + 65536 * if h.maxRead then 0 else dieField h.dieMax)
  else if off = 0x110008 then some (m.source + 4 * bit h.j1 + 8 * bit h.j1dc + 16 * bit h.j2)
  else if off = 0x11000C then some h.railFault
  else if off = 0x110010 then some (bit (!h.factoryBad) + 2 * bit (m.calDefault 0x0C00) + 4 * bit (m.calDefault 0x0C10)
    + 8 * bit (decide (m.setting 0x090B = 0)))
  else if off = 0x110014 then some h.factoryId
  else if 0x110020 ≤ off ∧ off < 0x11004C ∧ off % 4 = 0 then some (h.rails.getD ((off - 0x110020) / 4) 0 % 65536)
  else if off ∈ hkCounters then some (m.counter off)
  else none

/-- Reading HK_DIE_TEMP clears MAX: it reads 0 until the next round (R16), which begins the maximum anew. -/
def Module.hkRead (m : Module) : Module := m.onHk fun h => { h with dieMax := none, maxRead := true }

def cmdHkStatusGet (r : Req) (m : Module) : Resp :=
  m.basic r 0 .observe <|
    .done (([0x110000, 0x110004, 0x110008, 0x11000C, 0x110010, 0x110014].flatMap fun o => leBytes 4 ((m.hkReg o).getD 0)) ++ zeros 8) m
def execHkStatusGet (r : Req) (s : State) : Host.Outcome State Fault Refusal := s.go (·.request 0x0C00 cmdHkStatusGet r)

def cmdHkRailsGet (r : Req) (m : Module) : Resp :=
  m.basic r 0 .observe (.done ((List.range 11).flatMap fun k => leBytes 4 (m.hk.rails.getD k 0 % 65536)) m)
def execHkRailsGet (r : Req) (s : State) : Host.Outcome State Fault Refusal := s.go (·.request 0x0C01 cmdHkRailsGet r)

/-- CAL_GET: the factory fields read zero while FACTORY_BAD is set. -/
def cmdCalGet (r : Req) (m : Module) : Resp :=
  let h := m.hk
  let factory := if h.factoryBad then zeros 76
    else ((List.range 16).flatMap fun n => leBytes 4 (tabGet 1000000 h.dciGain n)) ++ leBytes 4 h.mainsGain
      ++ leBytes 4 h.mainsDelay ++ leBytes 2 (ofInt 16 h.diodeOffset) ++ zeros 2
  m.basic r 0 .observe <|
    .done (factory ++ ((List.range 16).flatMap fun n => leBytes 4 (m.setting (0x0C00 + n)))
      ++ ((List.range 16).flatMap fun n => leBytes 4 (m.setting (0x0C10 + n))) ++ leBytes 2 (m.setting 0x090B) ++ zeros 2) m
def execCalGet (r : Req) (s : State) : Host.Outcome State Fault Refusal := s.go (·.request 0x0C02 cmdCalGet r)

def cmdHkCountersGet (r : Req) (m : Module) : Resp :=
  m.basic r 0 .observe (let (b, m) := m.readCounters hkCounters; .done b m)
def execHkCountersGet (r : Req) (s : State) : Host.Outcome State Fault Refusal := s.go (·.request 0x0C04 cmdHkCountersGet r)

end Sys2Proof.Machine
end

