-- ==== Sys2Proof/Machine/Modes.lean ====
section
/-! DEFINITION. Machine/Modes.lean: the device modes, their requests and transitions, the local reset on SI7, and commands whose
effect falls at a pick boundary (R29 to R48, R338, R379 to R381, R729). -/
namespace Sys2Proof.Machine

/-! ### Conditions (R34, R47) -/

/-- SYS_INHIBIT (R47); throughout BOOT it reads its reset value. -/
def Module.inhibit (m : Module) : Nat :=
  if m.inBoot then 0xD
  else bit m.com.armed.isNone + 2 * bit (m.switchMode && m.com.sealBroken) + 4 * bit m.enumIncomplete + 8 * bit m.est.notReady

/-- Die temperature is known and below 105 °C, by a sensor that is not faulty (R34, R717). -/
def Module.dieCool (m : Module) : Bool := !m.hk.sensorFault && m.hk.dieLast.any fun t => decide (t < 1050)

/-- Lanes FAILED. -/
def Module.failedLanes (m : Module) : Nat := ([0, 1, 2].filter fun i => decide ((m.lane i).state = .failed)).length

/-- The cause of SAFE-HOLD has cleared (R34). -/
def Module.causeCleared (m : Module) : Bool :=
  decide (m.votingLanes = []) && decide (m.failedLanes ≤ 1) && m.dieCool && m.siInactive 7

/-- Where a reset goes (R30): STANDBY with an armed block and, in switch mode, no broken seal; else COMMISSION. -/
def Module.resetTarget (m : Module) : Mode :=
  if m.com.armed.isSome && !(m.switchMode && m.com.sealBroken) then .standby else .commission

/-- The row of R30 that a MODE_REQUEST takes: its privilege and its condition; none where there is no row. -/
def Module.modeRow (target : Mode) (m : Module) : Option (Priv × Bool) :=
  match m.sys.mode, target with
  | .commission, .standby => some (.safety, m.com.armed.isSome && !m.com.fuseEn)
  | .standby, .commission => some (.safety, true)
  | .standby, .dispatch => some (.operate, decide (m.inhibit = 0))
  | .standby, .formation => some (.operate, decide (m.inhibit = 0))
  | .dispatch, .standby => some (.operate, true)
  | .formation, .standby => some (.operate, true)
  | .safeHold, .commission => some (.safety, m.causeCleared)
  | _, _ => none

/-- Privilege of a request that matches no row (R43). -/
def noRowPriv (cur target : Mode) : Priv :=
  if cur = .commission ∨ target = .commission ∨ cur = .safeHold then .safety else .operate

/-! ### Requests (R41 to R43) -/

/-- The MODE_GET reply (R42). -/
def Module.modeBytes (m : Module) : Bytes :=
  let y := m.sys
  leBytes 1 (modeCode y.mode) ++ leBytes 1 (modeCode y.prev)
    ++ leBytes 1 ((y.pending.map fun p => modeCode p.target).getD 0xFF) ++ leBytes 1 y.cause ++ leBytes 4 m.inhibit
    ++ leBytes 8 y.entryPick
def cmdModeGet (r : Req) (m : Module) : Resp :=
  if r.payload.length ≠ 0 then .fail .badLength m
  else if m.lacks r.ctx .observe then .fail .denied m
  else .done m.modeBytes m
def execModeGet (r : Req) (s : State) : Host.Outcome State Fault Refusal := s.go (·.request 0x0010 cmdModeGet r)

/-- MODE_REQUEST: the rows of R43 in their order. -/
def cmdModeRequest (r : Req) (m : Module) : Resp :=
  if r.payload.length ≠ 4 then .fail .badLength m
  else match modeOf (byteAt r.payload 0) with
    | none => .fail .badParam m
    | some target =>
      let row := m.modeRow target
      let priv := match row with
        | some x => x.1
        | none => noRowPriv m.sys.mode target
      if m.lacks r.ctx priv then .fail .denied m
      else if m.sys.pending.isSome then .fail .busy m
      else match row with
        | none => .fail .wrongMode m
        | some x =>
          if !x.2 then .fail .safetyLocked m
          else .wait [] [] (m.onSys fun y =>
            { y with pending := some { target := target, cmd := some m.thisId, ctx := r.ctx, reset := false } })
def execModeRequest (r : Req) (s : State) : Host.Outcome State Fault Refusal := s.go (·.request 0x0011 cmdModeRequest r)

/-- SAFEHOLD_RESET; one that finds a local reset waiting joins it (R381). -/
def cmdSafeholdReset (r : Req) (m : Module) : Resp :=
  let alone := m.sys.pending.any fun p => p.local_ && p.cmd.isNone
  if r.payload.length ≠ 0 then .fail .badLength m
  else if m.lacks r.ctx .safety then .fail .denied m
  else if m.sys.pending.isSome && !alone then .fail .busy m
  else if m.sys.mode ≠ .safeHold then .fail .wrongMode m
  else if !m.causeCleared then .fail .safetyLocked m
  else .wait [] [] (m.onSys fun y =>
    { y with pending := some { target := m.resetTarget, cmd := some m.thisId, ctx := r.ctx, reset := true, local_ := alone } })
def execSafeholdReset (r : Req) (s : State) : Host.Outcome State Fault Refusal := s.go (·.request 0x0012 cmdSafeholdReset r)

/-! ### The local reset on SI7 (R338, R381) -/

/-- A local reset refused or ignored: counted in SYS_MODE_CAUSE.LOCAL_RESET_REFUSED, event 137. -/
def Module.localRefused (m : Module) : Module := (m.bump 0x000104).raise 137

/-- SI7 returns to inactive after `d` (R338). -/
def Module.localReset (d : Nat) (m : Module) : Module :=
  if decide (d < msec 100 ∨ secs 5 < d) || m.sys.mode ≠ .safeHold || (m.sin 7).discrep || !m.causeCleared
      || decide (m.healthyLanes.length < 2) then m.localRefused
  else match m.sys.pending with
    | none => m.onSys fun y =>
      { y with pending := some { target := m.resetTarget, cmd := none, ctx := 0, reset := true, local_ := true } }
    | some p => if p.reset then m.onSys fun y => { y with pending := some { p with local_ := true } } else m.localRefused

/-- SI_INPUT_CHANGE (R335 to R338). -/
def Module.siChange (i : Nat) (a b : Bool) (t : Nat) (m : Module) : Module :=
  let m := m.siChannels i a b t
  if i ≠ 7 || m.inBoot then m
  else if m.siActive 7 then m.onSlv fun v => { v with si7At := some (v.si7At.getD t) }
  else if m.siInactive 7 then
    match m.slv.si7At with
    | some t0 => (m.onSlv fun v => { v with si7At := none }).localReset (t - t0)
    | none => m
  else m
def execSiInputChange (si : Nat) (a b : Bool) (t : Nat) (s : State) : Host.Outcome State Fault Refusal :=
  s.go (·.siChange si a b t)

/-! ### Transitions (R30, R36 to R40, R46, R380) -/

/-- An arming that runs is abandoned (R365). -/
def Module.armAbandon (m : Module) : Module :=
  match m.com.arming with
  | some a => (m.onCom fun c => { c with arming := none }).finish a.cmd .wrongMode []
  | none => m

/-- What entry into SAFE-HOLD does (R36, R365, R656). -/
def Module.safeEntry (cause : Nat) (m : Module) : Module :=
  let m := m.clearReq allOuts
  let m := (m.canStop cause).detectStop
  let m := m.balCancelAll.drfSafe.armAbandon
  m.flushWant false false none

/-- Leaving SAFE-HOLD (R324, R380): the lanes clear their trip latches, and SLV_TRIP.VALID clears. -/
def Module.safeExit (m : Module) : Module :=
  m.onSlv fun v =>
    { v with tripValid := false, laneA := { v.laneA with latch := false }, laneB := { v.laneB with latch := false },
             laneC := { v.laneC with latch := false } }

/-- Conditions of the outputs on entry into a mode (R328, R331). -/
def Module.outEntry (old new : Mode) (m : Module) : Module :=
  let m := if old ∈ [.standby, .dispatch, .formation] ∧ new ∉ [.standby, .dispatch, .formation] then m.clearReq allOuts else m
  let m := if new = .standby then ((List.range 24).filter fun x => m.soKind x = 1).foldl (fun m x => m.softClear x) m else m
  m.soUpdate

/-- The mode changes (R40, R44 to R46), with everything that follows from it. R29 says that the mode code appears in event 1,
but the event record of R508 has no field for it: the record carries none, and SYS_MODE, updated at the same boundary,
shows it (DESIGN CHOICE). -/
def Module.enterMode (new : Mode) (cause : Nat) (ctx : Option Nat) (m : Module) : Module :=
  let old := m.sys.mode
  let m := if old = .safeHold then m.safeExit else m
  let m := m.onSys fun y =>
    { y with mode := new, prev := old, cause := cause, causeCtx := ctx, entryPick := m.pck.index, pending := none }
  let m := m.raise 1
  let m := if new = .safeHold then m.safeEntry cause else m
  let m := m.tmpMode old new
  let m := if m.learns then m else m.learnStop
  let m := m.outEntry old new
  let m := if new = .commission && m.com.fuseEn then m.stopHead else m
  let m := if new = .dispatch ∨ new = .formation then m.forceEnd else m
  m.judgeLocal.updModeEntry

/-- Forget the conditions seen since the last boundary. -/
def Module.seenClear (m : Module) : Module :=
  m.onSys fun y => { y with tripSeen := false, lanesSeen := false, dieSeen := false, sealSeen := false }

/-- CAUSE of an entry into SAFE-HOLD that is due, in the order of R46. -/
def Module.safeCause (m : Module) : Option Nat :=
  if m.sys.lanesSeen then some 3 else if m.sys.dieSeen then some 4 else if m.sys.tripSeen then some 2 else none

/-- A waiting transition that is not taken. -/
def Module.pendRefuse (p : PendMode) (st : Status) (m : Module) : Module :=
  let m := (m.onSys fun y => { y with pending := none }).finishOpt p.cmd st []
  if p.local_ then m.localRefused else m

/-- The waiting transition at its boundary: judged again (R43). -/
def Module.pendTake (p : PendMode) (m : Module) : Module :=
  if p.reset then
    if m.sys.mode ≠ .safeHold then m.pendRefuse p .wrongMode
    else if !m.causeCleared || m.resetTarget ≠ p.target then m.pendRefuse p .safetyLocked
    else
      let m := m.enterMode p.target (if p.cmd.isSome then 8 else 9) (p.cmd.map fun _ => p.ctx)
      (m.raiseIf p.local_ 137).finishOpt p.cmd .done []
  else match m.modeRow p.target with
    | none => m.pendRefuse p .wrongMode
    | some x =>
      if !x.2 then m.pendRefuse p .safetyLocked
      else (m.enterMode p.target 1 (some p.ctx)).finishOpt p.cmd .done []

def Module.pendJudge (m : Module) : Module := match m.sys.pending with
  | some p => m.pendTake p
  | none => m

/-- MODE_TRANSITION: the events of R30 first, then the waiting transition. A request that meets an event completes with
WRONG_MODE (R39), a reset that meets a new trip in SAFE-HOLD too (R381). -/
def Module.modeBoundary (m : Module) : Module :=
  if m.inBoot then m
  else
    let sealDue := m.sys.sealSeen && decide (m.sys.mode = .dispatch ∨ m.sys.mode = .formation)
    match m.safeCause with
    | some c =>
      if m.sys.mode = .safeHold then
        let p := m.sys.pending
        let m := if c = 3 then m.onSys fun y => { y with cause := 3 } else m
        match p with
        | some q => (m.pendRefuse q .wrongMode).seenClear
        | none => m.seenClear
      else
        let trip := m.sys.tripSeen
        let p := m.sys.pending
        let m := (m.enterMode .safeHold c none).onSlv fun v => { v with tripValid := trip }
        let m := match p with
          | some q => m.pendRefuse q .wrongMode
          | none => m
        m.seenClear
    | none =>
      let m := m.seenClear
      if sealDue then
        let p := m.sys.pending
        let m := m.enterMode .standby 5 none
        match p with
        | some q => m.pendRefuse q .wrongMode
        | none => m
      else m.pendJudge
def execModeTransition (s : State) : Host.Outcome State Fault Refusal := s.go Module.modeBoundary

/-! ### Commands whose effect falls at a boundary (R205, R729) -/

/-- A command's effect, with the status it completes with; none while it goes on waiting. -/
def Module.boundaryEffect (o : Outst) (m : Module) : Module :=
  let p := o.payload
  let fin := fun (m : Module) => m.finish o.id .done []
  let wrong := m.finish o.id .wrongMode []
  if m.inBoot then wrong
  else if o.opcode = 0x0304 then fin (m.applyFlagsClear p)
  else if o.opcode = 0x0305 then (if m.reinitMode then fin (m.applyReinit p) else wrong)
  else if o.opcode = 0x0315 then (if m.resetMode (byteAt p 4) then fin (m.applyReset p) else wrong)
  else if o.opcode = 0x0316 then fin (m.applySuspectClear p)
  else if o.opcode = 0x0404 then m.applyDisarm o.id
  else if o.opcode = 0x040A then m.applySoRequest o
  else if o.opcode = 0x0500 then (if m.sys.mode = .dispatch then fin (m.applyDispatch p) else wrong)
  else if o.opcode = 0x0502 then fin (m.applySp p)
  else if 0x0508 ≤ o.opcode ∧ o.opcode ≤ 0x050B then
    if m.sys.mode ≠ .formation then wrong
    else let (st, m) := m.applyForm o.opcode p; m.finish o.id st []
  else if 0x0603 ≤ o.opcode ∧ o.opcode ≤ 0x0607 then
    match m.applyDrf o.opcode o.id p with
    | (some st, m) => m.finish o.id st []
    | (none, m) => m
  else m

/-- Opcodes whose effect falls at a pick boundary. -/
def boundaryOps : List Nat :=
  [0x0304, 0x0305, 0x0315, 0x0316, 0x0404, 0x040A, 0x0500, 0x0502, 0x0508, 0x0509, 0x050A, 0x050B, 0x0603, 0x0604, 0x0605,
   0x0606, 0x0607]

/-- COMMAND_BOUNDARY_APPLY: at a pick boundary the waiting command of a context and TAG is judged again and takes effect, once what
R205 puts before it has. -/
def Module.boundaryApply (ctx tag : Nat) (m : Module) : Module :=
  match m.cmd.outst.find? fun o => decide (o.ctx = ctx ∧ o.tag = tag ∧ o.opcode ∈ boundaryOps) with
  | some o =>
    if !(m.inBoot || m.atBoundary) || !m.rankFree (boundaryRank o.opcode) || m.drf.stepTask.any (fun p => p.2 = o.id) then m
    else m.boundaryEffect o
  | none => m
def execCommandBoundaryApply (ctx tag : Nat) (s : State) : Host.Outcome State Fault Refusal := s.go (·.boundaryApply ctx tag)

/-! ### Registers (R44 to R48) -/

/-- SYS_CONFIG (R48). -/
def Module.sysConfig (m : Module) : Nat :=
  let mons := m.enabledChains.foldl (fun a n => max a (m.monitors n)) 0
  let compulsory := m.enabledChains.any fun n => decide (16 < m.monitors n)
  m.enabledChains.length + 32 * mons + 2048 * (if compulsory then 2 else if m.windowMode then 1 else 0)
    + 8192 * (if m.windowMode then m.setting 0x0203 else 0) + 65536 * (m.tilesIn .live).length

/-- The mode registers of the SYS block (R44). -/
def Module.modeReg (off : Nat) (m : Module) : Option Nat :=
  let y := m.sys
  if off = 0x000100 then some (modeCode y.mode + 16 * modeCode y.prev + 256 * ((y.pending.map fun p => modeCode p.target).getD 7))
  else if off = 0x000104 then some (y.cause + 256 * y.causeCtx.getD 0 + 0x20000 * bit y.causeCtx.isSome
    + 0x1000000 * min 0xFF (m.counter 0x000104))
  else if off = 0x000108 then some m.inhibit
  else if off = 0x00010C then some m.sysConfig
  else if off = 0x000110 then some (y.entryPick % 2 ^ 32)
  else if off = 0x000114 then some (y.entryPick / 2 ^ 32)
  else none

/-! ### CMD_ABORT (R502) -/

/-- A command cannot be stopped: it waits for none of the instants R502 lists, a stepped cycle runs for it, or its output is
being written to given pages. -/
def Module.executing (o : Outst) (m : Module) : Bool :=
  o.fixed || m.drf.stepTask.any (·.2 = o.id)
    || (m.cmd.bulkOut.any (·.id = o.id) && (m.ctx? o.ctx).any fun c => !c.given.isEmpty)

/-- Withdraw what waits for a command: a mode transition, an angle source (R94), balance commands sent for a pick to come
(DURATION 0 to their monitors, as R158 has it where a request is not carried out). -/
def Module.withdraw (id : Nat) (m : Module) : Module :=
  let keep := fun (p : PendMode) =>
    if p.cmd ≠ some id then some p else if p.local_ then some { p with cmd := none } else none
  let m := m.onSys fun y => { y with pending := y.pending.bind keep }
  let m := m.onAng fun a => { a with waitForce := a.waitForce.filter fun f => f.cmd ≠ id }
  m.balRefuse (fun q => q.cmd = id) .timeout

/-- CMD_ABORT's result and effect on a TAG of its context; the withdrawn command sends no further reply. -/
def Module.abort (ctx tag : Nat) (m : Module) : Nat × Module :=
  match m.cmd.outst.find? fun o => o.ctx = ctx && o.tag = tag && o.live with
  | some o => if m.executing o then (4, m) else (1, (m.dropOutst o).withdraw o.id)
  | none => match m.ctx? ctx with
    | some c => (if c.done.any (·.tag = tag) then 2 else 3, m)
    | none => (3, m)

def cmdCmdAbort (r : Req) (m : Module) : Resp :=
  if r.payload.length ≠ 4 then .fail .badLength m
  else if m.inBoot then .fail .wrongMode m
  else
    let (res, m) := m.abort r.ctx (field r.payload 0 2)
    .done (leBytes 1 res ++ zeros 3) m
def execCmdAbort (r : Req) (s : State) : Host.Outcome State Fault Refusal := s.go (·.request 0x0004 cmdCmdAbort r)

end Sys2Proof.Machine
end

