-- ==== Sys2Proof/Machine/Weft.lean ====
section
/-! DEFINITION. Machine/Weft.lean: the commands of the weft array, the banks and the power domains (R261 to R310). -/
namespace Sys2Proof.Machine

/-- TILE_LATE_TIMEOUT (R271): 80 µs after the release of a live step. -/
def execTileLateTimeout (tile : Nat) (s : State) : Host.Outcome State Fault Refusal :=
  s.go fun m => if (m.tile tile).state = .live then m.tileFault tile 2 else m

/-- TILE_WATCHDOG_EXPIRY (R271). -/
def execTileWatchdogExpiry (tile : Nat) (s : State) : Host.Outcome State Fault Refusal :=
  s.go fun m => if (m.tile tile).state ∈ [.live, .spare, .replay] then m.tileFault tile 4 else m

/-- BANK_ECC_ERROR (R283): corrected, or uncorrectable: a home bank of a live or replay tile faults the tile; a frame of
an exchange bank is missing for the estimator and the cloth record; elsewhere the reading master receives an error. -/
def Module.bankEcc (bank : Nat) (uncorr : Bool) (frames : List Nat) (m : Module) : Module :=
  if !uncorr then
    let m := (m.bump 0x020308).raiseOnce 204
    if bank < 64 then m.bump (0x07010C + 0x10 * (bank / 2)) else m
  else
    let m := (m.bump 0x02030C).raise 205
    if bank < 64 then
      if (m.tile (bank / 2)).state ∈ [.live, .replay] then m.tileFault (bank / 2) 3 else m.emit (.bankError bank)
    else if bank = 64 ∨ bank = 65 then m.onEst fun e => { e with badFrames := e.badFrames ++ frames }
    else m.emit (.bankError bank)
def execBankEccError (bank : Nat) (uncorr : Bool) (frames : List Nat) (s : State) : Host.Outcome State Fault Refusal :=
  s.go (·.bankEcc bank uncorr frames)

/-- TAKEOVER_ASSIGN (R275). -/
def execTakeoverAssign (tile : Nat) (lost : List Nat) (s : State) : Host.Outcome State Fault Refusal :=
  s.go (·.takeoverAssign tile lost)

/-- TILE_STARTED (R271, R296): microcode loaded and self-test passed, or failed. -/
def Module.tileStarted (t : Nat) (ok : Bool) (m : Module) : Module :=
  let x := m.tile t
  if x.state ≠ .starting then m
  else if !ok then m.tileFault t 1
  else
    let m := m.updTile t fun y => { y with state := if y.toSpare then .spare else .idle, toSpare := false }
    (m.onWft fun w => { w with take := w.take.map fun k => if k.repl = t then { k with ready := true } else k }).power
def execTileStarted (tile : Nat) (ok : Bool) (s : State) : Host.Outcome State Fault Refusal := s.go (·.tileStarted tile ok)

/-- SHED_END (R279). -/
def execShedEnd (s : State) : Host.Outcome State Fault Refusal := s.go (·.shedEnd)

/-- BNK_OWN_REQ_WRITE and BNK_OWN_REQ_B_WRITE (R290, R306): writes to REQ_B of a bobbin bank are ignored. -/
def Module.hostOwnReq (bank : Nat) (portB : Bool) (master : Nat) (m : Module) : Module :=
  if portB && decide (bank < 64) then m else m.ownReq false bank portB master
def execBnkOwnReqWrite (bank master : Nat) (s : State) : Host.Outcome State Fault Refusal :=
  s.go (·.hostOwnReq bank false master)
def execBnkOwnReqBWrite (bank master : Nat) (s : State) : Host.Outcome State Fault Refusal :=
  s.go (·.hostOwnReq bank true master)

/-- HANDOVER_COMPLETE (R291). -/
def execHandoverComplete (bank : Nat) (portB : Bool) (s : State) : Host.Outcome State Fault Refusal :=
  s.go (·.handoverDone bank portB)

/-- Why a request of a domain is refused (R294, R297, R309); 0 where it is not. -/
def Module.domRefusal (d req : Nat) (m : Module) : Nat :=
  if m.inBoot then 6
  else if req = 0 then 0
  else if d = 49 ∨ d = 50 then 2
  else if req = 2 && (d < 32 || 48 ≤ d) then 3
  else if d < 32 then
    match (m.tile d).state with
    | .fault => 4
    | .shed => 5
    | .off => 0
    | .idle => 0
    | _ => 1
  else if d < 48 then
    if (m.dom (2 * (d - 32))).state ≠ 0 || (m.dom (2 * (d - 32) + 1)).state ≠ 0 || m.groupHeld (d - 32) then 1 else 0
  else if d = 48 then (if req = 3 && (m.rep.state = 1 || m.rep.state = 2) then 1 else 0)
  else if req = 3 && !m.sys.draftStopped then 1 else 0

/-- PWR_DOM_REQ_WRITE (R297). -/
def Module.domReq (d req : Nat) (m : Module) : Module :=
  let cause := m.domRefusal d req
  if cause ≠ 0 then (m.updDom d fun x => { x with req := 0, refuse := cause }).power.raise 207
  else (m.updDom d fun x => { x with req := req }).power
def execPwrDomReqWrite (dom req : Nat) (s : State) : Host.Outcome State Fault Refusal := s.go (·.domReq dom req)

/-- DOMAIN_CHANGE_DONE (R296): the domain has its new state; event 206. -/
def Module.domDone (d : Nat) (m : Module) : Module :=
  match (m.dom d).dest with
  | none => m
  | some x => ((m.updDom d fun y => { y with state := x, dest := none }).raiseOnce 206).power
def execDomainChangeDone (dom : Nat) (s : State) : Host.Outcome State Fault Refusal := s.go (·.domDone dom)

/-- REPLAY_DOMAIN_OFF (R295): 10 s after the last replay ended. -/
def execReplayDomainOff (s : State) : Host.Outcome State Fault Refusal :=
  s.go fun m => if m.rep.state = 1 ∨ m.rep.state = 2 then m
    else (m.onWft fun w => { w with replayKeep := false }).power

/-- WFT_MAP_GET (R299). -/
def cmdWftMapGet (r : Req) (m : Module) : Resp := m.basic r 0 .observe (.done m.wftMap m)
def execWftMapGet (r : Req) (s : State) : Host.Outcome State Fault Refusal := s.go (·.request 0x0320 cmdWftMapGet r)

/-! ### Registers (R300 to R309) -/

def Module.tileReg (t o : Nat) (m : Module) : Option Nat :=
  let x := m.tile t
  match o with
  | 0x0 => some (tileCode x.state + 8 * x.cause + 0x40 * x.groups.headD 0 + 0x8000 * x.groups.length
      + 0x100000 * bit (x.state = .live && m.wft.lead = t))
  | 0x4 => some x.cycles
  | 0x8 => some (if x.state = .live then m.stepCost x.groups.length else 0)
  | 0xC => some (m.counter (0x07010C + 0x10 * t))
  | _ => none

/-- The live tile with the highest predicted load, the lowest-numbered of them. -/
def Module.maxLoad (m : Module) : Nat × Nat :=
  (m.tilesIn .live).foldl (fun (a : Nat × Nat) t =>
    let l := loadOf (m.stepCost (m.tile t).groups.length)
    if a.1 < l then (l, t) else a) (0, 0)

/-- The registers of the WFT block. -/
def Module.wftReg (off : Nat) (m : Module) : Option Nat :=
  let mask := fun st => maskOf 32 fun t => (m.tile t).state = st
  match off with
  | 0x070000 => some ((m.tilesIn .live).length + 0x40 * (m.tilesIn .spare).length + 0x1000 * (m.tilesIn .replay).length
      + 0x40000 * m.wft.lead + 0x800000 * bit m.wft.shed + 0x1000000 * bit (m.wft.unassigned ≠ []))
  | 0x070004 => some (mask .live)
  | 0x070008 => some (mask .spare)
  | 0x07000C => some (mask .replay)
  | 0x070010 => some (mask .fault)
  | 0x070014 => some (m.maxLoad.1 + 0x10000 * m.maxLoad.2)
  | 0x070018 => some (m.wft.stepLast + 0x10000 * m.wft.stepMax)
  | 0x07001C => some m.wft.unassigned.length
  | 0x070020 => some (m.counter off)
  | 0x070024 => some (m.counter off)
  | _ => if 0x070100 ≤ off ∧ off < 0x070300 then m.tileReg ((off - 0x070100) / 0x10) ((off - 0x070100) % 0x10) else none

/-- BNK_OWNn (R306). -/
def Module.bankReg (n : Nat) (m : Module) : Nat :=
  let b := m.bank n
  let wake := decide (n < 64) && (m.dom (32 + n / 4)).state = 2
  let st := if b.dest.isSome || b.toB.isSome then (if wake then 2 else 1) else 0
  b.owner + 0x40 * st + 0x100 * b.req.getD b.owner + 0x4000 * bit b.refused + 0x10000 * b.ownerB
    + 0x1000000 * b.reqB.getD b.ownerB

/-- The registers of the BNK block. -/
def Module.bnkReg (off : Nat) (m : Module) : Option Nat :=
  if off % 4 ≠ 0 then none
  else if 0x020000 ≤ off ∧ off < 0x020110 then some (m.bankReg ((off - 0x020000) / 4))
  else if off = 0x020120 then
    some (m.wft.lastBank + 0x80 * bit m.wft.lastPortB + 0x100 * m.wft.lastMaster + 0x10000 * m.wft.lastCause)
  else if off = 0x020124 then some (if m.pck.released then m.pck.index % 2 else (m.pck.index + 1) % 2 * bit (0 < m.pck.index))
  else if (0x020200 ≤ off ∧ off < 0x020298) ∨ (0x020300 ≤ off ∧ off < 0x020318) then some (m.counter off)
  else none

/-- The registers of the PWR block. -/
def Module.pwrReg (off : Nat) (m : Module) : Option Nat :=
  if off % 4 ≠ 0 then none
  else if 0x010000 ≤ off ∧ off < 0x0100D0 then
    let x := m.dom ((off - 0x010000) / 4)
    some ((if x.dest.isSome then 3 else x.state) + 4 * x.req + 0x10 * x.refuse)
  else if off = 0x010100 then some (maskOf 32 fun t => (m.dom t).state = 1)
  else if off = 0x010104 then
    some (maskOf 16 (fun g => (m.dom (32 + g)).state = 1) + 0x10000 * maskOf 16 fun g => (m.dom (32 + g)).state = 2)
  else if off = 0x010108 then some (m.setting 0x0340 + 8 * m.setting 0x0341)
  else if off = 0x010110 then some (m.counter off)
  else none

end Sys2Proof.Machine
end

