-- ==== Sys2Proof/Machine/Regs.lean ====
section
/-! DEFINITION. Machine/Regs.lean: the register blocks and the register commands (R16 to R18, R509, R510, R530 to R532,
R626). -/
namespace Sys2Proof.Machine

/-! ### The blocks that no other file holds -/

/-- The interface registers of the SYS block (R530, R531). -/
def Module.cmdReg (off : Nat) (m : Module) : Option Nat :=
  match off with
  | 0x000200 => some ((m.cmd.outst.filter fun o => !o.urgent).length + 0x800 * (m.cmd.outst.filter (·.urgent)).length)
  | 0x000204 => some (m.cmd.loadLast + 0x10000 * m.cmd.loadMax)
  | 0x000208 => some m.cmd.ctxs.length
  | 0x00020C => match m.set.txn with
    | none => some 0
    | some t => some (1 + 2 * t.owner + 0x400 * bit t.committing.isSome
        + 0x10000 * satU16 (t.writes.length + t.bulk.length))
  | 0x000210 => some m.set.gen
  | 0x000214 => some (m.set.format + 0x100 * bit m.set.unsaved + 0x200 * bit m.set.reverted)
  | 0x000218 => some (m.bulk.pages + 0x10000 * m.bulk.owner.length)
  | _ => if 0x000220 ≤ off ∧ off ≤ 0x000240 ∧ off % 4 = 0 then some (m.counter off) else none

/-- The registers of the EVT block (R532). -/
def Module.evtReg (off : Nat) (m : Module) : Option Nat :=
  if off % 4 ≠ 0 then none
  else if off = 0x030000 then
    some ((m.cmd.ctxs.filter fun p => p.2.any fun c => c.subs ≠ 0).length + 0x10000 * m.evt.last)
  else if 0x030100 ≤ off ∧ off < 0x030140 then some (m.evt.raised >>> (8 * (off - 0x030100)) % 2 ^ 32)
  else if 0x031000 ≤ off ∧ off < 0x031800 then some (m.counter off)
  else none

def svcCode : SvcState → Nat
  | .idle => 0 | .target => 1 | .controller => 2 | .recovering => 3

/-- The registers of the SVC block (R626, R627). -/
def Module.svcReg (off : Nat) (m : Module) : Option Nat :=
  let v := m.svc
  match off with
  | 0x0F0000 => some (0x58 + v.addr % 8 + 0x100 * m.setting 0x0B80 + 0x10000 * m.setting 0x0B82 + 0x40000 * m.setting 0x0B83)
  | 0x0F0004 => some (svcCode v.state + 4 * v.pointer + 0x400 * bit (decide (v.latches ≠ [])) + 0x800 * bit v.pending
      + 0x1000 * bit v.failed)
  | 0x0F0008 => some (m.setting 0x0B81 + 0x100 * v.cause + 0x10000 * v.seq)
  | _ => if 0x0F0010 ≤ off ∧ off ≤ 0x0F0024 ∧ off % 4 = 0 then some (m.counter off) else none

/-- The counters of the SLV, CLO and BLT blocks. -/
def otherCounters : List Nat :=
  [0x0800F0, 0x0800F4, 0x0800F8, 0x0800FC, 0x080100, 0x0B0080, 0x0B0084, 0x0B0088, 0x0B008C, 0x0C0020, 0x0C0024, 0x0C0028,
   0x0C002C]

/-- A counter of the list, or nothing. -/
def Module.otherCounter (off : Nat) (m : Module) : Option Nat := if off ∈ otherCounters then some (m.counter off) else none

/-! ### Reading (R16, R18) -/

/-- The register at an offset; none where none is mapped. -/
def Module.regGet (off : Nat) (m : Module) : Option Nat :=
  if off % 4 ≠ 0 then none
  else match off / 0x10000 with
  | 0x00 => (m.modeReg off).or (m.cmdReg off)
  | 0x01 => m.pwrReg off
  | 0x02 => m.bnkReg off
  | 0x03 => m.evtReg off
  | 0x04 => m.angReg off
  | 0x05 => m.pckReg off
  | 0x06 => m.wrpReg off
  | 0x07 => m.wftReg off
  | 0x08 => (m.slvReg off).or ((m.comReg off).or (m.otherCounter off))
  | 0x09 => m.tmpReg off
  | 0x0A => m.drfReg off
  | 0x0B => (m.cloReg off).or (m.otherCounter off)
  | 0x0C => (m.bltReg off).or (m.otherCounter off)
  | 0x0D => m.rngReg off
  | 0x0E => m.canReg off
  | 0x0F => m.svcReg off
  | 0x10 => m.updReg off
  | 0x11 => m.hkReg off
  | _ => none

/-- A register's value; an offset with none mapped reads 0 (R509). -/
def Module.regPeek (off : Nat) (m : Module) : Nat := (m.regGet off).getD 0 % 2 ^ 32

/-- An offset a register command takes: a multiple of 4 within the blocks of R509. -/
def regOk (off : Nat) : Bool := decide (off % 4 = 0 ∧ off < 0x120000)

/-- Offsets of the counter registers (RC), and of SYS_MODE_CAUSE, whose one RC field is LOCAL_RESET_REFUSED. -/
def isCounter (off : Nat) : Bool :=
  let o := off % 0x10000
  match off / 0x10000 with
  | 0x00 => decide (off = 0x000104 ∨ (0x220 ≤ o ∧ o ≤ 0x240))
  | 0x01 => decide (o = 0x110)
  | 0x02 => decide ((0x200 ≤ o ∧ o < 0x298) ∨ (0x300 ≤ o ∧ o < 0x318))
  | 0x03 => decide (0x1000 ≤ o ∧ o < 0x1800)
  | 0x04 => decide (0x50 ≤ o ∧ o ≤ 0x68)
  | 0x05 => decide (o = 0x20 ∨ o = 0x24)
  | 0x06 => decide (0x100 ≤ o ∧ o < 0x500 ∧ 0x20 ≤ o % 0x40 ∧ o % 0x40 < 0x30)
  | 0x07 => decide (o = 0x20 ∨ o = 0x24 ∨ (0x100 ≤ o ∧ o < 0x300 ∧ o % 0x10 = 0xC))
  | 0x09 => decide (0x18 ≤ o ∧ o ≤ 0x28)
  | 0x0A => decide (o = 0x24 ∨ (0x100 ≤ o ∧ o < 0x200 ∧ o % 0x10 = 0xC))
  | 0x0D => decide (0x40 ≤ o ∧ o ≤ 0x58)
  | 0x0E => decide (0x20 ≤ o % 0x8000 ∧ o % 0x8000 < 0x40)
  | 0x0F => decide (0x10 ≤ o ∧ o ≤ 0x24)
  | 0x10 => decide (0x40 ≤ o ∧ o ≤ 0x4C)
  | 0x11 => decide (0x60 ≤ o ∧ o ≤ 0x70)
  | _ => decide (off ∈ otherCounters)

/-- What reading a register does besides answering: the RC fields beside the counters, and the mailbox words that lock and
unlock (R589). Each coil current read from SLV_SOx is a value of its own. -/
def Module.regRest (off : Nat) (m : Module) : Module :=
  let o := off % 0x10000
  match off / 0x10000 with
  | 0x00 => if o = 0x204 then m.onCmd fun c => { c with loadMax := 0 } else m
  | 0x03 =>
    if 0x100 ≤ o ∧ o < 0x140 then
      m.onEvt fun v => { v with raised := maskOf 512 fun i => v.raised.testBit i && decide (i / 32 ≠ (o - 0x100) / 4) }
    else m
  | 0x06 =>
    if o = 0x0C then m.onWrp fun w => { w with releaseMax := 0 }
    else if 0x100 ≤ o ∧ o < 0x500 ∧ o % 0x40 = 0x0C then m.updChain ((o - 0x100) / 0x40) fun c => { c with returnMax := 0 }
    else m
  | 0x07 => if o = 0x18 then m.onWft fun w => { w with stepMax := 0 } else m
  | 0x08 =>
    if o = 0x28 then m.onSlv fun v => { v with evalMax := 0 }
    else if 0x80 ≤ o ∧ o < 0xE0 then m.onFree (· + 32)
    else m
  | 0x09 =>
    if o = 0x14 then m.onTmp fun v => { v with tickMax := 0 }
    else if 0x100 ≤ o ∧ o < 0x200 then m.onTmp fun v => { v with causes := tabPut 0 v.causes ((o - 0x100) / 4) 0 }
    else m
  | 0x0A =>
    if o = 0x0C then m.onDrf fun d => { d with measMax := 0 }
    else if 0x100 ≤ o ∧ o < 0x200 ∧ o % 0x10 = 4 then m.updTask ((o - 0x100) / 16) fun x => { x with max := 0 }
    else m
  | 0x0B => if o = 0x24 then m.onClo fun c => { c with appendMax := 0 } else m
  | 0x0E => match canBoxWord (o % 0x8000) with
    | some (k, 0) => m.boxLock (o / 0x8000) k m.sys.clock
    | some (k, 19) => m.boxConsume (o / 0x8000) k
    | _ => m
  | 0x11 => if o = 4 then m.hkRead else m
  | _ => m

/-- Read a register, with what the read clears (R18). -/
def Module.regTake (off : Nat) (m : Module) : Nat × Module :=
  let v := m.regPeek off
  (v, if isCounter off && decide (off % 4 = 0) then m.clearCounter off else m.regRest off)

/-- Read a run of registers in one access. -/
def Module.regTakes : List Nat → Module → List Nat × Module
  | [], m => ([], m)
  | o :: os, m =>
    let (v, m) := m.regTake o
    let (vs, m) := m.regTakes os
    (v :: vs, m)

/-- Two registers read in one access (R510, R621). -/
def Module.regTake2 (off : Nat) (m : Module) : Nat × Nat × Module :=
  let (a, m) := m.regTake off
  let (b, m) := m.regTake (off + 4)
  (a, b, m)

/-- Cells whose output is VALID, and those with MICRO_SHORT (R209, R620). -/
def Module.validCells (m : Module) : Nat := (m.allCells.filter fun c => (m.cell c).valid).length
def Module.shortCells (m : Module) : Nat :=
  (m.allCells.filter fun c => (m.cell c).flags.testBit 7).length

/-! ### 64-bit registers and the half shadow (R510) -/

/-- The low half of a 64-bit register lies at the offset. -/
def lowHalf (off : Nat) : Bool :=
  let o := off % 0x10000
  match off / 0x10000 with
  | 0x00 => decide (o = 0x110)
  | 0x04 => decide (o = 0x38)
  | 0x05 => decide (o = 0x08 ∨ o = 0x14)
  | 0x06 => decide (0x100 ≤ o ∧ o < 0x500 ∧ (o % 0x40 = 0x10 ∨ o % 0x40 = 0x18))
  | 0x08 => decide (o = 0x18)
  | 0x0A => decide (o = 0x10)
  | 0x0B => decide (o = 0x08 ∨ o = 0x10 ∨ o = 0x18 ∨ o = 0x44 ∨ o = 0x54 ∨ o = 0x64 ∨ o = 0x74 ∨ o = 0x8004 ∨ o = 0x800C)
  | 0x0D => decide (o = 0x20)
  | 0x0E => decide (o % 0x8000 = 0x18)
  | 0x10 => decide (o = 0x18 ∨ o = 0x20 ∨ o = 0x30)
  | _ => false

/-- A high half whose low half the read does not cover: from the shadow within 1 ms, else live and stale. -/
def Module.shadowed (ctx off : Nat) (m : Module) : Option Nat × Nat × Module :=
  match (m.ctx? ctx).bind (·.shadow) with
  | some h =>
    if h.offset = off then
      let m := m.updCtx ctx fun c => { c with shadow := none }
      if m.sys.clock ≤ h.time + msec 1 then (some h.value, 1, m) else (none, 2, m)
    else (none, 2, m)
  | none => (none, 2, m)

/-- REG_RD of `n` registers from an offset: FLAGS and the values. -/
def Module.regRead (ctx off n : Nat) (m : Module) : Nat × List Nat × Module :=
  let last := off + 4 * (n - 1)
  let (vs, m) := m.regTakes ((List.range n).map (off + 4 * ·))
  let (head, flags, m) := if 4 ≤ off ∧ lowHalf (off - 4) then m.shadowed ctx off else (none, 0, m)
  let m := if lowHalf last then
      m.updCtx ctx fun c => { c with shadow := some { offset := last + 4, value := m.regPeek (last + 4), time := m.sys.clock } }
    else m
  (flags, (match head with
    | some v => v :: vs.drop 1
    | none => vs), m)

/-! ### The register commands (R509) -/

/-- The range of a register command lies within one block. -/
def regRange (off n : Nat) : Bool := regOk off && decide (off % 0x10000 + 4 * n ≤ 0x10000)

def cmdRegRd (r : Req) (m : Module) : Resp :=
  let off := field r.payload 0 4
  let n := field r.payload 4 2
  m.checks r 8 (decide (1 ≤ n ∧ n ≤ 256) && regRange off n) .observe <|
    let (flags, vs, m) := m.regRead r.ctx off n
    .done (leBytes 4 flags ++ vs.flatMap fun v => leBytes 4 v) m
def execRegRd (r : Req) (s : State) : Host.Outcome State Fault Refusal := s.go (·.request 0x0120 cmdRegRd r)

/-- The write of a register with writable fields, if it has any: BNK_OWNn (REQ, REQ_B) and PWR_DOMd (REQ). -/
def Module.regWrite (off v : Nat) (m : Module) : Option Module :=
  if 0x020000 ≤ off ∧ off < 0x020110 then
    let n := (off - 0x020000) / 4
    some ((m.hostOwnReq n false (bits v 13 8)).hostOwnReq n true (bits v 29 24))
  else if 0x010000 ≤ off ∧ off < 0x0100D0 then some (m.domReq ((off - 0x010000) / 4) (bits v 3 2))
  else none

/-- REG_WR (R17): DENIED in the SLV block and for a register without a writable field; no register mapped, no effect. -/
def cmdRegWr (r : Req) (m : Module) : Resp :=
  let off := field r.payload 0 4
  m.checks r 8 (regOk off) .engineer <|
    if off / 0x10000 = 8 then .fail .denied m
    else match m.regWrite off (field r.payload 4 4) with
      | some m => .done [] m
      | none => if (m.regGet off).isSome then .fail .denied m else .done [] m
def execRegWr (r : Req) (s : State) : Host.Outcome State Fault Refusal := s.go (·.request 0x0121 cmdRegWr r)

def cmdRegRd64 (r : Req) (m : Module) : Resp :=
  let off := field r.payload 0 4
  m.checks r 4 (regRange off 2) .observe <|
    let (a, b, m) := m.regTake2 off
    .done (leBytes 4 a ++ leBytes 4 b) m
def execRegRd64 (r : Req) (s : State) : Host.Outcome State Fault Refusal := s.go (·.request 0x0122 cmdRegRd64 r)

end Sys2Proof.Machine
end

