-- ==== Sys2Proof/Machine/Picks.lean ====
section
/-! DEFINITION. Machine/Picks.lean: the pick instant and the release of a pick to its consumers (R20 to R27, R80 to R90, R136,
R471). -/
namespace Sys2Proof.Machine

/-! ### The pick stamp (R89) -/

/-- FLAGS of the pick stamp. -/
def Module.pickFlags (p : Placed) (close : Bool) (m : Module) : Nat :=
  bit p.late + 2 * bit p.held + 4 * bit close + 8 * bit (decide (m.ang.state ≠ .locked)) + 16 * m.ang.active
    + 64 * bit m.ang.gridLocal

/-- The 24 bytes of the latest pick's stamp. -/
def Module.stampBytes (m : Module) : Bytes :=
  let p := m.pck
  leBytes 8 p.index ++ leBytes 2 p.position ++ leBytes 2 p.angle ++ leBytes 2 (p.generation % 65536) ++ leBytes 1 p.flags
    ++ leBytes 1 p.slot ++ leBytes 8 p.time

/-! ### PICK_INSTANT (R88) -/

/-- The first pick after BOOT: STOP inputs then in demand (R337), and the cloth record begins with its BOOT entry (R628, R630). -/
def Module.firstPick (m : Module) : Module :=
  (m.siFirstPick.onClo fun c => { c with running := true }).cloAppend 8 0 0
    (leBytes 8 m.sys.serial ++ leBytes 4 m.sys.release ++ leBytes 4 (satU32 m.blt.data.stamp.cycles) ++ leBytes 1 m.set.format
      ++ zeros 7)

/-- ESTIMATOR_NOT_READY clears once every configured cell has been VALID since it was set (R202). -/
def Module.readyJudge (m : Module) : Module :=
  if m.est.notReady && m.allCells.all (fun c => (m.cell c).seen) then
    (m.onEst fun e => { e with notReady := false }).raise 240
  else m

/-- The window's picks at which each cell balances (R175), counted at the pick's conversion. -/
def Module.balCount (m : Module) : Module :=
  if !m.windowMode then m
  else (if m.wrp.winPos = some 0 then m.onEst fun e => { e with balClosed := e.bal, bal := [] } else m).balAdd

/-- The pick placed is taken: its stamp, the DCIs, its place in the window, and what falls at the pick boundary. -/
def Module.pickInstant (dci : List Nat) (m : Module) : Module :=
  match m.pck.placed with
  | none => m
  | some q =>
    if m.inBoot then m
    else
      let m := m.angTo q.instant
      let first := !m.pck.running
      let close := m.windowMode && m.wrp.nextPos = some 0 && m.wrp.winPos = some (m.windowPicks - 1)
      let flags := m.pickFlags q close
      let pos := slotPos m.pickK (m.setting 0x0911) q.slot
      let plant := m.plantAt q.instant
      let gen := m.set.gen
      let angle := m.ang.tracked / au
      let m := m.onPck fun p =>
        { p with running := true, index := if first then 0 else p.index + 1, flags := flags, slot := q.slot, position := pos
                 angle := angle, time := plant, generation := gen
                 spacing := if first then 0 else satU32 ((q.instant - p.instant) / 4)
                 prevInstant := if first then q.instant else p.instant, instant := q.instant, placed := none, dci := dci
                 released := false, jumped := q.jumped, fresh := q.fresh }
      let m := m.onWrp fun w => { w with winPos := w.nextPos, winClose := close, frames := [] }
      let m := m.showChains.onEst fun e => { e with badFrames := [] }
      let m := if first then m.firstPick else m
      let m := (m.balPick m.pck.index).balCount
      let m := if m.wft.take = [] then m.leadUpdate else m
      m.readyJudge
def execPickInstant (dci : List Nat) (s : State) : Host.Outcome State Fault Refusal := s.go (·.pickInstant dci)

/-! ### PICK_RELEASE (R24 step 5, R136) -/

/-- In window mode the closing pick delivers the frames held for it (R138). -/
def Module.deliverHeld (m : Module) : Module :=
  if m.windowMode && m.wrp.winClose then
    m.onWrp fun w => { w with frames := w.held.foldl (fun t p => tabUpd [] t p.1 (· ++ p.2)) w.frames, held := [] }
  else m

/-- The mask of addresses whose frames the exchange bank holds (R285). -/
def Module.chainMask (n : Nat) (m : Module) : Nat :=
  if m.chainEnabled n then maskOf 33 fun a => (a = 0 || (m.cellPick && decide (a ≤ m.monitors n))) && (m.estFrame n a).isSome
  else 0

/-- The PICK body (R631). -/
def Module.pickBody (m : Module) : Bytes :=
  let mon := if m.windowMode then 112 else 98
  m.stampBytes ++ (m.pck.dci.flatMap fun c => leBytes 2 c) ++ ((List.range 16).flatMap fun n => leBytes 8 (m.chainMask n))
    ++ ((List.range 16).flatMap fun n => if m.chainEnabled n then (m.estFrame n 0).getD (zeros 32) else zeros 32)
    ++ (if m.cellPick then m.enabledChains.flatMap fun n =>
          (List.range (m.monitors n)).flatMap fun i => (m.estFrame n (i + 1)).getD (zeros mon)
        else [])

/-- A frame written into its slot: the bytes beyond it stay as they were. -/
def slotPut (t : Tab Bytes) (k : Nat) (b : Bytes) : Tab Bytes := tabUpd [] t k fun old => b ++ old.drop b.length

/-- The chain's mask of delivered frames (R285). -/
def Module.pickMask (n : Nat) (m : Module) : Nat := maskOf 33 fun a => (m.frameAt n a).isSome

/-- The warp engine writes the pick into the exchange bank of its parity (R284, R285): a slot without a frame keeps what it held. -/
def Module.bankPick (m : Module) : Module :=
  let slots := fun (t : Tab Bytes) (ks : List (Nat × Nat × Nat)) => ks.foldl (fun t k => match m.frameAt k.2.1 k.2.2 with
    | some b => slotPut t k.1 b
    | none => t) t
  let put := fun (p : PickBank) => { p with
    stamp := m.stampBytes, dci := m.pck.dci, masks := (List.range 16).map fun n => m.pickMask n
    heads := slots p.heads (m.enabledChains.map fun n => (n, n, 0))
    mons := slots p.mons (m.groups.map fun g => (32 * g.1 + g.2 - 1, g)) }
  m.onWft fun w => if m.pck.index % 2 = 0 then { w with x0 := put w.x0 } else { w with x1 := put w.x1 }

/-- A valid integer and its absence as image words. -/
def imgInt (v : Option Int) : List Nat := match v with
  | some x => [1, ofInt 64 x]
  | none => [0, 0]

/-- String head data of a chain in the input image: I_PRI, I_SEC, V_STRING, ISO_POS, ISO_NEG, SHUNT_TEMP, each with its
validity. -/
def Module.headWords (n : Nat) (m : Module) : List Nat :=
  match m.estFrame n 0 with
  | none => zerosNat 12
  | some b =>
    let iso := fun (o : Nat) => imgInt (if field b o 2 = 0xFFFF then none else some (field b o 2))
    imgInt (curField b 8) ++ imgInt (curField b 12) ++ imgInt (if field b 16 4 = 0xFFFFFFFF then none else some (field b 16 4))
      ++ iso 20 ++ iso 22 ++ imgInt (tempField b 24)
where
  /-- `n` zero words -/
  zerosNat (n : Nat) : List Nat := List.replicate n 0

/-- The values of the input image, in the order of R471's table. -/
def Module.inputImage (m : Module) : List Nat :=
  (m.stampBytes.map (·.toNat)) ++ [m.pck.time] ++ ((List.range 16).flatMap fun n => m.headWords n)
    ++ ((List.range 16).flatMap fun n => match m.dciMa n with
        | some v => [1, v.toNat]
        | none => [0, 0])
    ++ (m.aggBytes.map (·.toNat))
    ++ [(m.modeReg 0x000100).getD 0, m.inhibit]
    ++ ([0x080000, 0x080030, 0x08003C, 0x080040].map fun o => (m.slvReg o).getD 0)
    ++ [(m.angReg 0x040000).getD 0, m.ang.freq]
    ++ ((List.range 256).map fun l => m.loopStateReg l) ++ ((List.range 16).map fun n => m.seqReg n)
    ++ ((List.range 256).flatMap fun k =>
        let x := tabGet ({} : RxSig) m.can.rx k
        [x.value.toNat, (m.sys.clock - x.at_) / 4000000])
    ++ ((List.range 256).map fun i => (tabGet 0 m.drf.vars i).toNat)

/-- The PICK entry of the cloth record (R24 step 9, R631, R634). -/
def Module.cloPick (t : Nat) (full : Bool) (m : Module) : Module :=
  let m := if full then m.cloMiss m.pck.index else m.cloAppend 1 (bit m.cellPick) m.pck.index m.pickBody
  let d := satU16 ((t - m.pck.instant) / 40)
  m.onClo fun c => { c with appendLast := d, appendMax := max c.appendMax d }

/-- In SAFE-HOLD no transition takes up a trip or a hot die: once its pick boundary has passed, it is no longer new (R381). -/
def Module.seenOld (m : Module) : Module :=
  if m.sys.mode = .safeHold then m.onSys fun y => { y with tripSeen := false, dieSeen := false } else m

/-- PICK_RELEASE: at time `t`; `full`, the cloth record writer's queue is full. -/
def Module.pickRelease (t : Nat) (full : Bool) (m : Module) : Module :=
  if m.inBoot || !m.pck.running || m.pck.released then m
  else
    let m := (m.tick t).seenOld
    let d := satU16 ((t - m.pck.instant) / 40)
    let m := (m.onPck fun p => { p with released := true }).onWrp fun w =>
      { w with releaseLast := d, releaseMax := max w.releaseMax d }
    let m := m.deliverHeld.bankPick
    let m := m.enabledChains.foldl (fun m n => m.strPick n) m
    let m := m.cloPick t full
    let m := m.boltExtremes
    let m := if m.blt.histDue then m.histCount else m
    let m := m.tmpRelease.sweepTimeouts
    m.drfLatch m.inputImage
def execPickRelease (t : Nat) (full : Bool) (s : State) : Host.Outcome State Fault Refusal := s.go (·.pickRelease t full)

end Sys2Proof.Machine
end

