-- ==== Sys2Proof/Machine/Settings.lean ====
section
/-! DEFINITION. Machine/Settings.lean: the settings store, its transactions, the checks of a commit and what a commit changes
in every block (R511 to R521, R527, R528). -/
namespace Sys2Proof.Machine

/-! ### The checks of a commit (R516) -/

/-- Check 1: a written setting may be committed in the mode in force (R396, R430, R516). -/
def Module.commitMode (t : Txn) (id : Nat) (m : Module) : Bool :=
  let early := decide (m.sys.mode = .commission ∨ m.sys.mode = .standby)
  match (setSpec? id).map SetSpec.rule with
  | none => false
  | some .any => !m.inBoot
  | some .commission => decide (m.sys.mode = .commission)
  | some .commissionStandby => early
  | some .loopTable => early || (!m.inBoot && !loopStructural m.loopTable (tabGet none t.bulk id))
  | some .recipe => early || (decide (m.sys.mode = .formation) && decide ((m.seq (id - 0x0510)).state ∈ [0, 3, 4]))

/-- The settings a transaction has written. -/
def Txn.ids (t : Txn) : List Nat := t.writes.map (·.1) ++ t.bulk.map (·.1)

/-- The lowest of a list of IDs. -/
def lowestId : List Nat → Nat
  | [] => 0
  | x :: xs => xs.foldl min x

/-- The settings that fail check 1. -/
def Module.modeFails (t : Txn) (m : Module) : List Nat := t.ids.filter fun id => !m.commitMode t id

/-- A check: whether the settings pass it, and the settings it reads. -/
abbrev CommitCheck := Bool × List Nat

def chainIds : List Nat := 0x0200 :: (List.range 16).map (0x0210 + ·)

/-- R49, R51 and the angle and pick rules: R60, R66, R85, R92, R148. -/
def Module.angleChecks (m : Module) : List CommitCheck :=
  let k := m.pickK
  let fmin := m.setting 0x0907
  let fmax := m.setting 0x0908
  let prim := m.setting 0x0900
  let fall := m.setting 0x0901
  let free := m.setting 0x0909
  [(decide (m.setting 0x0200 ≠ 0), [0x0200]),
   (!(m.windowMode && m.setting 0x0203 = 0 && decide (k = 1 ∨ k = 5)), chainIds ++ [0x0202, 0x0203, 0x0910]),
   (decide (m.setting 0x0904 * fmax ≤ 50000000), [0x0904, 0x0908]),
   (decide (m.setting 0x0905 = 0 ∨ 8 ≤ m.setting 0x0904), [0x0904, 0x0905]),
   (decide (k * fmax ≤ 480000), [0x0908, 0x0910]),
   (!(decide (prim = 3 ∨ fall = 3)) || decide (10 * fmin ≤ free ∧ free ≤ 10 * fmax), [0x0900, 0x0901, 0x0907, 0x0908, 0x0909]),
   (decide (prim ≠ fall), [0x0900, 0x0901]),
   (decide (fmin < fmax), [0x0907, 0x0908]),
   (decide ((m.setting 0x0204 + 20) * 65536 * fmax < 65536 / k * 100000000), [0x0204, 0x0908, 0x0910])]

/-- R212: a written EST_PACK_n of an enabled string names a slot with a valid pack. -/
def Module.packChecks (t : Txn) (m : Module) : List CommitCheck :=
  (List.range 16).map fun n =>
    (!(m.chainEnabled n && (tabGet none t.writes (0x0300 + n)).isSome) || (m.strPack n).isSome,
     [0x0200, 0x0300 + n, 0x03F0 + m.setting (0x0300 + n)])

def loopIds : List Nat := [0x0200, 0x0202, 0x0203, 0x0500, 0x0910]
def canIds_ : List Nat := canRuleIds ++ [0x0B60]

/-- The loop table and the recipes: R392, R395, R430, R431, R587. -/
def Module.loopChecks (m : Module) : List CommitCheck :=
  [(m.loopRowsOk, loopIds), (m.loopStringsOk, [0x0200, 0x0500]), (m.loopSignalsOk, [0x0500, 0x0B60])]
  ++ (List.range 16).map fun n =>
    (match m.recipe n with
      | none => true
      | some b => recipeOk (rowOn (m.lrow (n + 16))) b,
     [0x0500, 0x0510 + n])

/-- The CAN settings and the map: R434, R581, R587, R602. -/
def Module.canSetChecks (m : Module) : List CommitCheck :=
  [(m.canRulesOk, canRuleIds), (!m.refLoadHigh 0 && !m.refLoadHigh 1, canRuleIds ++ [0x0500, 0x0908, 0x0910])]
  ++ (match tabGet none m.set.bulk 0x0B60 with
    | none => []
    | some mp => [(mapHeaderOk mp && mapFiltersOk mp && mapSignalsOk mp, [0x0B60]), (m.mapBoxesOk mp, canIds_)])
  ++ (match m.drf.image with
    | none => []
    | some b => [(m.imgSignalsOk b, [0x0B60])])

/-- The ring settings (R568). -/
def Module.ringChecks (m : Module) : List CommitCheck :=
  let gw := m.setting 0x0D04
  let mask := m.setting 0x0D03
  [(decide (m.setting 0x0D01 ≠ 1) || m.headCapable, [0x0D01]),
   (decide (gw = 0) || decide (gw &&& mask = m.setting 0x0D02 &&& mask), [0x0D02, 0x0D03, 0x0D04])]

/-- The live load of the fullest tile after a re-deal (R264, R268). -/
def Module.fullestLoad (m : Module) : Nat :=
  let live := min m.liveNeeded (tileNos.filter fun t => (m.tile t).state ≠ .fault).length
  if live = 0 then 0 else m.stepCost (ceilDiv (min m.groups.length (m.tileCap * live)) live)

def timeIds : List Nat := [0x0200, 0x0202, 0x0203, 0x0907, 0x0908, 0x0910]

/-- Order 3: R269, R340 and R453. -/
def Module.lastChecks (m : Module) (t : Txn) (old : Module) : List CommitCheck :=
  let angle := old.changesOf (fun id => decide (0x0900 ≤ id ∧ id ≤ 0x0911)) t.writes
  [(decide (m.fullestLoad ≤ 166400), chainIds ++ [0x0202])]
  ++ (match old.block with
    | none => []
    | some b => [(!angle || !m.tpExceeds [] (blkBlind b), [0x0900, 0x0901, 0x0904, 0x0907, 0x0910])])
  ++ (match m.drf.image with
    | none => []
    | some b =>
      [(!(angle || old.changesOf slotSetting t.writes) || m.imgTimesOk b, timeIds),
       ((tabGet none t.bulk 0x0500).isNone || m.imgOwnOk b, [0x0500])])

/-- The setting a failed commit reports (R516): the lowest written one of those that take part, else the lowest. -/
def reportId (t : Txn) (fails : List CommitCheck) : Nat :=
  let ids := fails.flatMap (·.2)
  let w := ids.filter (· ∈ t.ids)
  lowestId (if w.isEmpty then ids else w)

/-- The verdict on a shadow at acceptance (R516): none where it passes. -/
def Module.commitRefusal (t : Txn) (m : Module) : Option (Status × Nat) :=
  let n := m.withShadow t.writes t.bulk
  let two := (n.angleChecks ++ n.packChecks t ++ n.loopChecks ++ n.canSetChecks ++ n.ringChecks).filter fun c => !c.1
  let three := (n.lastChecks t m).filter fun c => !c.1
  if m.modeFails t ≠ [] then some (.wrongMode, lowestId (m.modeFails t))
  else if two ≠ [] then some (.badParam, reportId t two)
  else if three ≠ [] then some (.badParam, reportId t three)
  else none

def failId (id : Nat) : Bytes := leBytes 2 id ++ zeros 2

/-- A commit is checked (R513, R516): `full`, it is TXN_COMMIT, whose failure carries the setting. One that waits for its
boundary holds the window pages its data came from until its final reply (R524). -/
def Module.commitAsk (full : Bool) (pages : List Nat) (t : Txn) (m : Module) : Resp :=
  match m.commitRefusal t with
  | some (st, id) => if full then .failWith st (failId id) (m.raise 491) else .fail st (m.raise 491)
  | none => .waitFixed [] pages (m.onSet fun s => { s with txn := some { t with committing := some m.thisId, last := m.sys.clock } })

/-! ### The settings commands (R512, R513) -/

/-- The owner's timer of R519 starts anew. -/
def Module.touchTxn (ctx : Nat) (m : Module) : Module :=
  m.onSet fun s => { s with txn := s.txn.map fun t => if t.owner = ctx then { t with last := m.sys.clock } else t }

/-- The bytes of a bulk setting: the default table of TMP_LOOP_TABLE, zeros for another that is empty (R512). -/
def bulkBytes (s : SetSpec) (v : Option Bytes) : Bytes :=
  match v with
  | some b => b
  | none => if s.id = 0x0500 then loopTableDflt else zeros s.bulk

/-- SET_READ's value: in force, in the shadow of the context's own transaction, or the default. -/
def Module.setRead (s : SetSpec) (src : Nat) (m : Module) : Bytes :=
  let (w, b) := match m.set.txn with
    | some t => if src = 1 then (t.writes, t.bulk) else ([], [])
    | none => ([], [])
  let n := m.withShadow w b
  leBytes 2 s.id ++ zeros 2 ++
    (if s.bulk = 0 then leBytes 4 (if src = 2 then m.settingDflt s.id else n.setting s.id)
     else bulkBytes s (if src = 2 then none else tabGet none n.set.bulk s.id))

/-- The context owns the open transaction. -/
def Module.ownsTxn (ctx : Nat) (m : Module) : Bool := m.set.txn.any fun t => t.owner = ctx && !t.single

def cmdSetRead (r : Req) (m : Module) : Resp :=
  let src := byteAt r.payload 2
  match setSpec? (field r.payload 0 2) with
  | none => m.checks r 4 false .observe (.done [] m)
  | some s => m.checks r 4 (decide (src ≤ 2) && (src ≠ 1 || m.ownsTxn r.ctx)) .observe (.done (m.setRead s src) m)
def execSetRead (r : Req) (s : State) : Host.Outcome State Fault Refusal := s.go (·.request 0x0100 cmdSetRead r)

/-- A settings write (R513): to the shadow of the context's transaction, or a commit of its own. -/
def Module.settingsWrite (ctx : Nat) (w : Tab (Option Nat)) (b : Tab (Option Bytes)) (pages : List Nat) (m0 : Module) : Resp :=
  let m := m0.touchTxn ctx
  match m.set.txn with
  | some t =>
    if t.owner = ctx ∧ t.committing = none then
      let t := { t with writes := w.foldl (fun x p => tabPut none x p.1 p.2) t.writes
                        bulk := b.foldl (fun x p => tabPut none x p.1 p.2) t.bulk }
      .done [] (m.onSet fun s => { s with txn := some t })
    else .fail .txnConflict m
  | none => m.commitAsk false pages { owner := ctx, single := true, gen0 := m.set.gen, writes := w, bulk := b }

def cmdSetWrite (r : Req) (m : Module) : Resp :=
  let id := field r.payload 0 2
  let v := field r.payload 4 4
  m.checks r 8 (setInRange id v) .engineer <| m.settingsWrite r.ctx [(id, some v)] [] []
def execSetWrite (r : Req) (s : State) : Host.Outcome State Fault Refusal := s.go (·.request 0x0101 cmdSetWrite r)

/-! ### Loads of bulk settings (R216, R440, R604) -/

/-- The window bytes a load names, as far as they can be read for its own checks. -/
def Module.loadCheck (page n : Nat) (p : Bytes → Bool) (m : Module) : Bool :=
  match m.readPages page n with
  | .error .pageNotOwned => true
  | .error _ => false
  | .ok b => p b

/-- A load as a settings write: PAGE_NOT_OWNED, then a content that fails its own rules, then R513. -/
def Module.loadSetting (ctx id page n : Nat) (p : Bytes → Bool) (m : Module) : Resp :=
  match m.readPages page n with
  | .error st => .fail st m
  | .ok b => if p b then m.settingsWrite ctx [] [(id, some b)] (pageRange page n) else .fail .badParam m

def cmdEstPackLoad (r : Req) (m : Module) : Resp :=
  let k := byteAt r.payload 0
  let page := field r.payload 4 4
  m.checks r 8 (decide (k ≤ 3) && m.loadCheck page 2048 packOk) .engineer <|
    if m.sys.mode = .commission ∨ m.sys.mode = .standby then m.loadSetting r.ctx (0x03F0 + k) page 2048 packOk
    else .fail .wrongMode m
def execEstPackLoad (r : Req) (s : State) : Host.Outcome State Fault Refusal := s.go (·.request 0x0306 cmdEstPackLoad r)

/-- A loop table by itself (R395): header, CRC and the fields of every enabled record. -/
def loopTableOk (b : Bytes) : Bool :=
  loopHeaderOk (some b) && (List.range 256).all fun l =>
    let e := loopRec (some b) l
    decide (byteAt e 0 ≤ 1) && (!rowOn e || rowOk l e)

def cmdTmpLoopLoad (r : Req) (m : Module) : Resp :=
  let page := field r.payload 0 4
  m.checks r 8 true .engineer <| m.loadSetting r.ctx 0x0500 page 32800 loopTableOk
def execTmpLoopLoad (r : Req) (s : State) : Host.Outcome State Fault Refusal := s.go (·.request 0x0504 cmdTmpLoopLoad r)

def cmdFormRecipeLoad (r : Req) (m : Module) : Resp :=
  let n := byteAt r.payload 0
  m.checks r 8 (decide (n ≤ 15)) .engineer <|
    m.loadSetting r.ctx (0x0510 + n) (field r.payload 4 4) 2080 (recipeOk true)
def execFormRecipeLoad (r : Req) (s : State) : Host.Outcome State Fault Refusal :=
  s.go (·.request 0x0506 cmdFormRecipeLoad r)

/-- A map by itself (R587). -/
def canMapOk (b : Bytes) : Bool := mapHeaderOk b && mapFiltersOk b && mapSignalsOk b

def cmdCanMapLoad (r : Req) (m : Module) : Resp :=
  let page := field r.payload 0 4
  m.checks r 8 (m.loadCheck page mapLen canMapOk) .engineer <| m.loadSetting r.ctx 0x0B60 page mapLen canMapOk
def execCanMapLoad (r : Req) (s : State) : Host.Outcome State Fault Refusal := s.go (·.request 0x0B01 cmdCanMapLoad r)

/-! ### Transactions (R515, R519) -/

def cmdTxnBegin (r : Req) (m : Module) : Resp :=
  m.basic r 0 .engineer <|
    if m.set.txn.isSome then .fail .txnConflict (m.touchTxn r.ctx)
    else .done (leBytes 4 m.set.gen) ((m.onSet fun s =>
      { s with txn := some { owner := r.ctx, gen0 := s.gen, last := m.sys.clock } }).raise 489)
def execTxnBegin (r : Req) (s : State) : Host.Outcome State Fault Refusal := s.go (·.request 0x0110 cmdTxnBegin r)

/-- TXN_COMMIT: a shadow without a write completes at once, and the transaction closes. -/
def cmdTxnCommit (r : Req) (m0 : Module) : Resp :=
  let m := m0.touchTxn r.ctx
  m.basic r 0 .engineer <|
    match m.set.txn with
    | none => .fail .txnConflict m
    | some t =>
      if t.owner ≠ r.ctx ∨ t.committing ≠ none then .fail .txnConflict m
      else if t.ids = [] then .done (leBytes 4 m.set.gen) (m.onSet fun s => { s with txn := none })
      else m.commitAsk true [] t
def execTxnCommit (r : Req) (s : State) : Host.Outcome State Fault Refusal := s.go (·.request 0x0111 cmdTxnCommit r)

def cmdTxnRollback (r : Req) (m0 : Module) : Resp :=
  let m := m0.touchTxn r.ctx
  m.basic r 0 .engineer <|
    match m.set.txn with
    | none => .fail .txnConflict m
    | some t => if t.owner ≠ r.ctx ∨ t.committing ≠ none then .fail .txnConflict m else .done [] m.rollback
def execTxnRollback (r : Req) (s : State) : Host.Outcome State Fault Refusal := s.go (·.request 0x0112 cmdTxnRollback r)

/-- Whole seconds left before R519. -/
def Module.txnLeft (t : Txn) (m : Module) : Nat :=
  if t.committing.isSome then 120 else ceilDiv (secs 120 - (m.sys.clock - t.last)) (secs 1)

def cmdTxnStatusGet (r : Req) (m0 : Module) : Resp :=
  let m := m0.touchTxn r.ctx
  m.basic r 0 .observe <| .done (match m.set.txn with
    | none => zeros 16
    | some t => leBytes 1 1 ++ zeros 1 ++ leBytes 2 t.owner ++ leBytes 2 (satU16 t.ids.length) ++ leBytes 2 (m.txnLeft t)
        ++ leBytes 4 t.gen0 ++ zeros 4) m
def execTxnStatusGet (r : Req) (s : State) : Host.Outcome State Fault Refusal := s.go (·.request 0x0113 cmdTxnStatusGet r)

/-- TXN_IDLE_TIMEOUT (R519): the timer stands still while a commit is accepted. -/
def Module.txnIdle (m : Module) : Module :=
  match m.set.txn with
  | some t => if t.committing.isNone then m.rollback else m
  | none => m
def execTxnIdleTimeout (s : State) : Host.Outcome State Fault Refusal := s.go Module.txnIdle

/-- The user calibration settings (R723). -/
def isUserCal (id : Nat) : Bool := decide ((0x0C00 ≤ id ∧ id < 0x0C20) ∨ id = 0x090B)

/-- RESTORE_FACTORY_CAL (R724): a transaction of these writes alone. -/
def cmdRestoreFactoryCal (r : Req) (m : Module) : Resp :=
  m.basic r 0 .engineer <|
    if m.sys.mode ≠ .commission then .fail .wrongMode m
    else if m.set.txn.isSome then .fail .txnConflict m
    else m.commitAsk false []
      { owner := r.ctx, single := true, gen0 := m.set.gen
        writes := (0x090B, some 0) :: (List.range 32).map fun i => (0x0C00 + i, some 1000000) }
def execRestoreFactoryCal (r : Req) (s : State) : Host.Outcome State Fault Refusal :=
  s.go (·.request 0x0C03 cmdRestoreFactoryCal r)

/-! ### What a commit changes (R517) -/

/-- The settings and the generation come into force, and the pick of the boundary carries them (R23, R89, R90). -/
def Module.commitStore (t : Txn) (m : Module) : Module :=
  let sched := m.changesOf (fun id => decide (id = 0x0910 ∨ id = 0x0911)) t.writes
  let slots := m.changesOf slotSetting t.writes
  let m := (m.withShadow t.writes t.bulk).onSet fun s => { s with gen := (s.gen + 1) % 2 ^ 32, txn := none }
  let m := m.onPck fun p =>
    { p with generation := m.set.gen, position := slotPos m.pickK (m.setting 0x0911) p.slot
             fresh := false, nextSlot := if sched then 1 % m.pickK else p.nextSlot, late := if sched then [] else p.late }
  let m := if slots then
      let m := m.onWrp fun w =>
        { w with winPos := if m.windowMode then some 0 else none, winClose := w.winClose && m.windowMode
                 held := if m.windowMode then w.held else [] }
      (m.onEst fun e => { e with bal := [] }).balAdd
    else m
  if m.flashOk then m else (m.onSet fun s => { s with unsaved := true }).raise 493

/-- The cloth record's INPUT entries of a commit: subtype 1, and subtype 2 for each pack slot written (R152, R213, R632). -/
def Module.commitCloth (m : Module) (t : Txn) (old : Module) : Module :=
  let ch := t.writes.filterMap fun p =>
    if clothGroup p.1 && decide (old.setting p.1 ≠ m.setting p.1) then some (p.1, m.setting p.1) else none
  let packs := t.bulk.filter fun p => decide (0x03F0 ≤ p.1 ∧ p.1 < 0x03F4)
  let m := if ch = [] ∧ packs = [] then m
    else m.cloInput 1 m.pck.index (leBytes 4 m.set.gen ++ leBytes 2 ch.length ++ zeros 2
      ++ ch.flatMap fun p => leBytes 2 p.1 ++ zeros 2 ++ leBytes 4 p.2)
  packs.foldl (fun m p => m.cloInput 2 m.pck.index (leBytes 1 (p.1 - 0x03F0) ++ zeros 3 ++ p.2.getD [])) m

/-- A chain is disabled (R129): its ports go off, so no lock is held on them. -/
def Module.chainOff (n : Nat) (m : Module) : Module :=
  ((((m.balDrop n).updStr n fun s => { s with limChg := 0, limDis := 0, chgmA := 0, dismA := 0, agg := [] }).updChain n fun c => { c with lockA := false, lockB := false, healing := false, breakDue := false }).setChain n .off).reenumDone

/-- Chains enabled, disabled or with another monitor count (R128, R129), and the parameters and SKEW_WIDE bits a commit changes
(R123, R133, R153, R154). -/
def Module.commitChain (m : Module) (old : Module) (n : Nat) : Module :=
  if !m.chainEnabled n then (if old.chainEnabled n then m.chainOff n else m)
  else if !old.chainEnabled n then m.train n
  else if old.monitors n ≠ m.monitors n then
    (if (m.chain n).state ∈ [.loop, .broken, .partial_, .fault] then (m.balDrop n).train n else m)
  else if !(m.chain n).active then m
  else
    let mons := (m.chain n).devs.filterMap fun p => if p.1 = 0 then none else some p.1
    let m := if old.setting (0x0C00 + n) ≠ m.setting (0x0C00 + n) then m.writeParam n 0 7 (m.setting (0x0C00 + n)) else m
    let m := if old.setting 0x0209 ≠ m.setting 0x0209 then m.writeParam n 0 8 (m.setting 0x0209) else m
    let m := if old.windowMode ≠ m.windowMode then
        (mons.foldl (fun m a => m.writeParam n a 5 (bit m.windowMode)) m).skewUpdate n else m
    if old.setting 0x0204 ≠ m.setting 0x0204 then
      mons.foldl (fun m a => m.writeParam n a 6 (m.setting 0x0204)) m else m

def Module.commitChains (m old : Module) : Module := (List.range 16).foldl (fun m n => m.commitChain old n) m

/-- A re-deal (R265), cold starts of strings with another pack (R204), NOT_READY (R202), and the end of spans (R226). -/
def Module.commitEst (m : Module) (t : Txn) (old : Module) : Module :=
  let cells := decide (old.allCells ≠ m.allCells)
  let m := if cells || old.windowMode ≠ m.windowMode || old.setting 0x0340 ≠ m.setting 0x0340 then m.redeal old.cellTiles else m
  let ns := m.enabledChains.filter fun n =>
    old.chainEnabled n && (decide (old.setting (0x0300 + n) ≠ m.setting (0x0300 + n))
      || (tabGet none t.bulk (0x03F0 + m.setting (0x0300 + n))).isSome)
  let cs := ns.flatMap fun n => m.stringCells n
  let m := (m.dropCells cs).restartStrings cs
  let m := if cells || !ns.isEmpty then m.setNotReady else m
  if old.pickK = m.pickK && old.windowMode = m.windowMode && old.windowPicks = m.windowPicks then m
  else
    let ends := decide (old.pickK ≠ m.pickK) || old.windowMode ≠ m.windowMode
    (List.range 16).foldl (fun m n =>
      (if ends then m.spanEnd n else m).updStr n fun s => { s with win := {}, closed := {}, before := {} }) m

/-- The angle unit and the pick engine (R61, R71, R73, R90): the angles run on from the boundary at the new FREE_FREQ while
free-run is active, at the clamped estimate in HOLDOVER, and tooth 0 of a source with an index lies where the new
TOOTH_PHASE and ANGLE_OFFSET put it from its next edge on. -/
def Module.commitAngle (m : Module) (t : Txn) (old : Module) : Module :=
  let base := m.tooth0 1
  let m := (m.angTo m.sys.clock).onAng fun a =>
    { a with cycle := if a.active = 3 then cycleOfFreq (m.setting 0x0909) else if a.state = .holdover then m.holdCycle else a.cycle
             freq := if a.active = 3 then m.setting 0x0909 else a.freq
             tooth := if m.indexed 1 then { a.tooth with base := base } else a.tooth }
  let m := if old.changesOf (fun id => decide (0x0900 ≤ id ∧ id ≤ 0x0903)) t.writes then m.sourcesChanged m.sys.clock else m
  m.raiseIf (old.changesOf (fun id => decide (0x0900 ≤ id ∧ id ≤ 0x0911)) t.writes) 47

/-- Controllers whose enable or rates change go through OFF (R579); a commit of time settings ends CONFLICT (R599). -/
def Module.commitCan (m : Module) (t : Txn) (old : Module) : Module :=
  [0, 1].foldl (fun m n =>
    let b := 0x0B00 + 0x10 * n
    let m := if old.changesOf (fun id => decide (b ≤ id ∧ id < b + 4)) t.writes then m.canInit n else m
    if t.writes.any fun p => decide (b + 4 ≤ p.1 ∧ p.1 ≤ b + 6) then
      m.updCan n fun c => { c with timeState := 0, syncAt := none, sync := none, pairs := 0 }
    else m) m

/-- The armed block goes when the chains no longer match it (R373), and the lanes forget values no longer configured. -/
def Module.commitSafety (t : Txn) (m : Module) : Module :=
  let chains := t.writes.any fun p => decide (p.1 ∈ chainIds)
  let match_ := (m.com.armed.or m.com.held).all fun a => m.blockChains [] a.block
  let m := if chains && !match_ then m.disarm else m
  [0, 1, 2].foldl (fun m i => m.updLane i fun l => { l with pres := l.pres.filter fun p => m.valueConfigured p.1 }) m

/-- The commit comes into force at its boundary (R517). -/
def Module.commitApply (t : Txn) (id : Nat) (old : Module) : Module :=
  let restore := (old.outst? id).any fun o => o.opcode = 0x0C03
  let full := (old.outst? id).any fun o => o.opcode = 0x0111
  let m := (old.commitStore t).commitCloth t old
  let m := ((m.commitChains old).commitEst t old).commitAngle t old
  let m := ((Module.tmpTable false old m).commitCan t old).commitSafety t
  let m := if m.isHead && old.changesOf (fun i => decide (i = 0x0D02)) t.writes then m.onRng fun r => { r with arpLeft := 3 } else m
  let m := if old.setting 0x0341 ≠ m.setting 0x0341 then m.power else m
  let m := (m.raise 490).finish id .done (if full then leBytes 4 m.set.gen else [])
  (m.raiseIf restore 11).raiseIf (restore || old.changesOf isUserCal t.writes) 10

/-- TXN_APPLY (R517, R518): at a pick instant, before that pick is released to its consumers (R23); check 1 is repeated against
the mode in force. -/
def Module.txnApply (m : Module) : Module :=
  match m.set.txn with
  | none => m
  | some t => match t.committing with
    | none => m
    | some id =>
      if !m.atBoundary || !m.txnDue then m
      else if m.modeFails t ≠ [] then
        let full := (m.outst? id).any fun o => o.opcode = 0x0111
        let back := if t.single then none else some { t with committing := none, last := m.sys.clock }
        ((m.onSet fun s => { s with txn := back }).raise 491).finish id .wrongMode
          (if full then failId (lowestId (m.modeFails t)) else [])
      else m.commitApply t id
def execTxnApply (s : State) : Host.Outcome State Fault Refusal := s.go Module.txnApply

/-! ### The flash copies (R514, R521) -/

/-- The copy with the higher generation, of the valid ones. -/
def SetCopy.newer (a b : SetCopy) : Option SetCopy :=
  if !a.valid && !b.valid then none
  else if !b.valid then some a
  else if !a.valid then some b
  else if a.gen < b.gen then some b else some a

/-- A copy counts only in the settings format of the running image (R680). -/
def SetCopy.own (fmt : Nat) (c : SetCopy) : SetCopy := { c with valid := c.valid && decide (c.format = fmt) }

/-- The copies that count. -/
def Settings.copies (s : Settings) : SetCopy × SetCopy := (s.copyA.own s.format, s.copyB.own s.format)

/-- The generation in force is in flash. -/
def Module.saved (m : Module) : Bool := (m.set.copies.1.newer m.set.copies.2).any fun c => c.gen = m.set.gen

/-- SETTINGS_SAVE (R521): the generation in force goes to the older copy; outside the write window the write waits. -/
def Module.settingsSave (m : Module) : Module :=
  if m.saved then m
  else if !m.flashOk then (if m.set.unsaved then m else (m.onSet fun s => { s with unsaved := true }).raise 493)
  else
    let s := m.set
    let c : SetCopy := { valid := true, format := s.format, gen := s.gen, scalars := s.scalars, bulk := s.bulk }
    let (a, b) := s.copies
    let second := a.valid && (!b.valid || decide (b.gen < a.gen))
    m.onSet fun s => if second then { s with copyB := c, unsaved := false } else { s with copyA := c, unsaved := false }
def execSettingsSave (s : State) : Host.Outcome State Fault Refusal := s.go Module.settingsSave

end Sys2Proof.Machine
end

