-- ==== Sys2Proof/Machine/Boot.lean ====
section
/-! DEFINITION. Machine/Boot.lean: resets, the choice of an image, what BOOT loads from flash, the end of BOOT, and the
activation's reset (R30, R327, R371 to R374, R514, R521, R657, R658, R671 to R680, R691, R706). -/
namespace Sys2Proof.Machine

/-! ### What a reset leaves (R19, R691): flash, fuses and the levels of the pins -/

/-- The image slot that an update was writing is invalid (R687). -/
def Upd.cut (u : Upd) : Upd :=
  if u.state = .verifying then (if u.activeB then { u with slotA := none } else { u with slotB := none }) else u

/-- A burn cut short leaves its group SPOILED (R355, R356); whether the one bit of a revoke fuse had been burnt is free. -/
def Module.cutFuses (m : Module) : Tab Fuse := match m.com.burn with
  | some b => if b.group < 8 then tabPut {} m.com.fuses b.group { state := .spoiled, value := [] } else m.com.fuses
  | none => m.com.fuses
def Module.cutRevoked (m : Module) : Nat := match m.com.burn with
  | some b => if 8 ≤ b.group ∧ Config.freeNat (m.free + 3 * bit m.lrn.sweep.isSome) % 2 = 1 then m.com.revoked ||| 2 ^ (b.group - 8) else m.com.revoked
  | none => m.com.revoked

/-- Everything at its reset value, except what flash, fuses and pins hold. A frozen slot being written is EMPTY (R645); a
flush being written is torn (R657). -/
def Module.fresh (m : Module) : Module :=
  let u := m.upd.cut
  { sys := { clock := m.sys.clock, serial := m.sys.serial, release := m.sys.release, draftLoaded := m.drf.image.isSome }
    set := { copyA := m.set.copyA, copyB := m.set.copyB }
    wrp := { chains := m.wrp.chains.filterMap fun p =>
               if p.2.roster.isSome then some (p.1, { roster := p.2.roster }) else none }
    lrn := m.cutSweep
    com := { keys := m.com.keys, fuses := m.cutFuses, revoked := m.cutRevoked, fuseEn := m.com.fuseEn
             copyA := m.com.copyA, copyB := m.com.copyB, profA := m.com.profA, profB := m.com.profB
             sealBroken := m.com.sealBroken, swA := m.com.swA, swB := m.com.swB, sealA := m.com.sealA
             sealB := m.com.sealB, sealTimer := m.com.sealTimer }
    slv := { degSaved := m.slv.degSaved
             sins := m.slv.sins.filterMap fun p =>
               if p.2.a || p.2.b then some (p.1, { a := p.2.a, b := p.2.b }) else none }
    drf := { image := m.drf.image, copyA := m.drf.copyA, copyB := m.drf.copyB }
    rng := { cageH := m.rng.cageH, cageA := m.rng.cageA, cageB := m.rng.cageB, hostUp := m.rng.hostUp
             arbEpoch := m.rng.arbEpoch, grantIn := m.rng.grantIn, holdLine := m.rng.holdLine }
    clo := { seq := m.clo.seq, slots := m.clo.slots.filter fun p => p.2.state ≠ 1 }
    blt := { newestQuick := m.blt.newestQuick, newestFull := m.blt.newestFull, power := m.blt.power
             torn := m.blt.torn || m.blt.flush.isSome }
    svc := { addr := m.svc.addr }
    upd := { activeB := u.activeB, trial := u.trial, tried := u.tried, slotA := u.slotA, slotB := u.slotB
             staging := u.staging, downgrade := u.downgrade }
    hk := { factoryBad := m.hk.factoryBad, j1 := m.hk.j1, j1dc := m.hk.j1dc, j2 := m.hk.j2, dciGain := m.hk.dciGain
            mainsGain := m.hk.mainsGain, mainsDelay := m.hk.mainsDelay, diodeOffset := m.hk.diodeOffset
            factoryId := m.hk.factoryId }
    out := m.out
    free := m.free + 3 * bit m.lrn.sweep.isSome + bit m.com.burn.isSome }

/-! ### The image (R678, R681, R694) -/

/-- The slot named ACTIVE holds an authentic image. -/
def Module.activeOk (m : Module) : Bool := (m.slotImage m.upd.activeB).any fun i => m.authentic i

/-- The rows of R678 for an ACTIVE slot that has failed. -/
def Module.bootOther (m : Module) : Module :=
  let m := (m.onUpd fun u => { u with activeB := !u.activeB, source := 1 }).raise 449
  if m.activeOk then m
  else match m.upd.staging.filter fun i => i.complete && m.authentic i with
    | some i => (m.onUpd fun u => { u with slotA := some i, activeB := false, source := 3 }).raise 449
    | none => m.onUpd fun u => { u with dead := true }

/-- BOOT_IMAGE_SELECT (R678). -/
def Module.bootSelect (m : Module) : Module :=
  let u := m.upd
  let m := if u.trial && u.tried then
      ((m.onUpd fun u => { u with activeB := !u.activeB, trial := false, tried := false, source := 2 }).raise 450).bump 0x100048
    else if u.trial then m.onUpd fun u => { u with tried := true }
    else m
  if m.activeOk then m else m.bootOther

/-- An image signed under a revoked key slot. -/
def Module.keyGone (i : Option Image) (m : Module) : Bool := i.any fun x => m.com.revoked.testBit x.keySlot

/-- Inactive and staging slots under a revoked key are emptied, event 462 for each (R694). -/
def Module.bootRevoked (m : Module) : Module :=
  let b := !m.upd.activeB
  let m := if m.keyGone (m.slotImage b) then (m.putSlot b none).raise 462 else m
  if m.keyGone m.upd.staging then (m.onUpd fun u => { u with staging := none, downgrade := false }).raise 462 else m

/-- The running image, and the state of the update (R681, R684, R688). -/
def Module.bootRunning (m : Module) : Module :=
  let run := (m.slotImage m.upd.activeB).getD factoryImage
  let ready := match m.upd.staging, m.slotImage (!m.upd.activeB) with
    | some s, some i => s.complete && s.header == i.header
    | _, _ => false
  (m.onSys fun y => { y with release := run.release }).onUpd fun u =>
    { u with runKey := run.keySlot, state := if u.staging.isNone then .idle else if ready then .ready else .receiving }

def Module.runFormat (m : Module) : Nat := ((m.slotImage m.upd.activeB).getD factoryImage).format

/-! ### Settings and safety data (R371 to R374, R514, R521, R680) -/

/-- The newer valid copy of the armed block (R372): its CRC-32C and its block CRC are both correct. -/
def BlockCopy.good (c : BlockCopy) : Bool := c.ok && c.armed.all fun a => decide (blkCrc a.block = crc32 (a.block.take 508))

/-- The armed block of the newer good copy; a bad other copy is rewritten, event 150; both bad: none, event 144. It is held
until the end of BOOT judges its presence. -/
def Module.blockBoot (m : Module) : Module :=
  let a := m.com.copyA
  let b := m.com.copyB
  match a.good, b.good with
  | true, true =>
    let x := if a.seq < b.seq then b else a
    m.onCom fun c => { c with held := x.armed }
  | true, false => (m.onCom fun c => { c with held := a.armed, copyB := a }).raise 150
  | false, true => (m.onCom fun c => { c with held := b.armed, copyA := b }).raise 150
  | false, false => m.raise 144

/-- The profile set, kept in the same way (R372). -/
def Module.profBoot (m : Module) : Module :=
  let a := m.com.profA
  let b := m.com.profB
  let take := fun (x : ProfCopy) (m : Module) => m.onCom fun c => { c with profiles := if x.set = [] then none else some x.set }
  match a.ok, b.ok with
  | true, true => take (if a.seq < b.seq then b else a) m
  | true, false => ((take a m).onCom fun c => { c with profB := a }).raise 150
  | false, true => ((take b m).onCom fun c => { c with profA := b }).raise 150
  | false, false => m

/-- R374: the armed block and the profile set go with the settings. -/
def Module.formatReset (m : Module) : Module :=
  let m := (m.onUpd fun u => { u with settingsReset := true }).disarm
  (m.onCom fun c => { c with profiles := none, profA := {}, profB := {} }).raise 451

/-- Settings loaded (R514, R521, R680): none but a copy in the image's format counts. -/
def Module.settingsBoot (m : Module) : Module :=
  let fmt := m.runFormat
  let m := m.onSet fun s => { s with format := fmt }
  let m := match m.set.copies.1.newer m.set.copies.2 with
    | some c =>
      let m := m.onSet fun s => { s with scalars := c.scalars, bulk := c.bulk, gen := c.gen }
      if m.set.copyA.valid && m.set.copyB.valid then m
      else (m.onSet fun s => { s with copyA := c, copyB := c }).raise 495
    | none =>
      if m.set.copyA.valid || m.set.copyB.valid then m.formatReset else (m.raise 495).disarm
  if m.blt.power.any fun p => decide (m.set.gen < p.gen) then (m.onSet fun s => { s with reverted := true }).raise 494 else m

/-! ### The bolt (R654, R656 to R658) -/

def Stamp.before (a b : Stamp) : Bool := decide (a.cycles < b.cycles ∨ (a.cycles = b.cycles ∧ a.secs < b.secs))

/-- H2 and H3 come from the newest FULL flush, the rest from the newest of either kind; stamps resume from the later of the
newest flush and the power-loss record, with one power cycle more. -/
def Module.boltBoot (m : Module) : Module :=
  let b := m.blt
  let all : BoltData := (b.newest.map (·.data)).getD {}
  let full : BoltData := (b.newestFull.map (·.data)).getD {}
  let isCell := fun (k : Nat) => decide (2 ≤ k / 262144 ∧ k / 262144 ≤ 3)
  let st := match b.power with
    | some p => if all.stamp.before p.stamp then p.stamp else all.stamp
    | none => all.stamp
  let data : BoltData :=
    { stamp := { st with cycles := st.cycles + 1 }
      codes := all.codes.map fun p => (p.1, { p.2 with closed := false, held := none })
      extremes := all.extremes
      hist := (all.hist.filter fun p => !isCell p.1 && p.1 / 262144 < 2) ++ (full.hist.filter fun p => isCell p.1)
        ++ all.hist.filter fun p => decide (4 ≤ p.1 / 262144) }
  let m := (m.onBlt fun x => { x with data := data }).boltCount 545
  if b.torn then ((m.bump 0x0C0028).boltCount 547).raise 431 else m

/-! ### BOOT begins (R30, R677) -/

/-- The live and spare tiles start (R262, R296); every other tile is OFF, every domain but RING and CANSVC too. -/
def Module.tilesBoot (m : Module) : Module :=
  let n := min 32 (m.liveNeeded + m.setting 0x0340)
  let m := (List.range n).foldl (fun m t => m.updTile t fun x => { x with state := .starting }) m
  let m := [49, 50].foldl (fun m d => m.updDom d fun x => { x with state := 1 }) m
  m.power

/-- Ports, role and arbiter as the settings give them (R535, R549, R558, R561, R566, R568). -/
def Module.ringBoot (m : Module) : Module :=
  let role := m.setting 0x0D01
  let up := fun (cage kind : Nat) (p : Nat) (m : Module) =>
    let m := m.updPort p fun x => { x with state := if opticOk cage kind then .down else .disabled }
    m.raiseIf (kind ≠ 0 && !opticOk cage kind) 390
  let m := m.onRng fun r =>
    { r with addr := m.setting 0x0D00, role := role, head := if role = 1 then .candidate else .member
             arb := if role ≠ 2 then .notArbiter else if r.holdLine then .held else .guard_ }
  let m := m.raiseIf m.hostRefused 390
  up 2 m.rng.cageB 1 (up 1 m.rng.cageA 0 m)

/-- Chains that are enabled train (R124, R129). -/
def Module.chainsBoot (m : Module) : Module := m.enabledChains.foldl (fun m n => m.train n) m

/-- What BOOT loads once an authentic image is chosen: what steps 3 to 6 of R677 start. -/
def Module.bootLoad (m : Module) : Module :=
  let m := m.bootRevoked.bootRunning.blockBoot.profBoot.settingsBoot
  let m := m.onBulk fun b => { b with pages := m.setting 0x0A00 }
  let m := m.raiseIf m.hk.factoryBad 12
  let m := (List.range 16).foldl (fun m k =>
    m.raiseIf ((tabGet none m.set.bulk (0x03F0 + k)).any fun p => !packOk p) 245) m
  let m := m.tilesBoot.ringBoot.chainsBoot
  let m := ((Module.tmpTable true m m).canInit 0).canInit 1
  m.drfBootCheck.power

/-- The module restarts into BOOT: each reset is a BOOT of its own (R30, R677). -/
def Module.restart (m : Module) : Module :=
  let m := m.fresh.boltBoot.bootSelect
  if m.upd.dead then m else m.bootLoad.judgeSources m.sys.clock

/-- POWER_ON_RESET (R30, R614): the ADDR pins, and HEAD_HOLD asserted by another module, as found. -/
def execPowerOnReset (addr : Nat) (hold : Bool) (s : State) : Host.Outcome State Fault Refusal :=
  s.go fun m => ((m.onSvc fun v => { v with addr := addr }).onRng fun r => { r with holdLine := hold }).restart

/-- WATCHDOG_RESET (R677, R679). -/
def execWatchdogReset (s : State) : Host.Outcome State Fault Refusal := s.go Module.restart

/-- BOOT_WATCHDOG_EXPIRY (R677): only BOOT is watched by it. -/
def execBootWatchdogExpiry (s : State) : Host.Outcome State Fault Refusal := s.go fun m => if m.inBoot then m.restart else m

/-- HOLDUP_EXHAUSTED (R706): the hold-up store falls below 36 V. -/
def execHoldupExhausted (s : State) : Host.Outcome State Fault Refusal := s.go fun m => if m.hk.holdup then m.restart else m

/-! ### The end of BOOT (R30, R46, R327, R371, R677, R679) -/

/-- The lanes as BOOT found them: cause 0 loaded and tested, else 3 or 6 of R326. A lane without its cause fails as R326
says; the voting state follows R327. -/
def Module.lanesBoot (causes : List Nat) (m : Module) : Module :=
  let m := m.laneCal
  let m := [0, 1, 2].foldl (fun m i =>
    let c := causes.getD i 0
    if c = 0 then m.updLane i fun l => { l with state := .healthy }
    else ((m.updLane i fun l => { l with state := .failed, cause := c }).raise 130).boltCount (528 + c)) m
  match m.healthyLanes.length with
  | 3 => (m.onSlv fun v => { v with voting := 1, degraded := 0, degSaved := none }).raise 131
  | 2 => (m.onSlv fun v => { v with voting := 2, degraded := v.degSaved.getD 0 + 60 }).raise 131
  | _ => m

/-- An armed record is present unless, in switch mode, the switches or the contact do not match; an open contact records a
break (R371). -/
def Module.blockPresent (m : Module) : Module :=
  let isOpen := !(m.com.sealA && m.com.sealB)
  let m := if m.switchMode && isOpen then m.onCom fun c => { c with sealBroken := true } else m
  match m.com.held with
  | none => m
  | some a =>
    if m.switchMode && !m.switchesShow a.profile then m
    else m.onCom fun c => { c with armed := some a, held := none }

/-- The mode BOOT ends in, with its cause (R30, R46). -/
def Module.bootMode (m : Module) : Mode × Nat :=
  if 2 ≤ m.failedLanes then (.safeHold, 3)
  else if m.upd.settingsReset then (.commission, 6)
  else if m.com.armed.isNone then (.commission, 7)
  else (.standby, 0)

/-- TRIAL_CONFIRM (R679): the image is confirmed and the staging slot emptied. -/
def Module.confirm (m : Module) : Module :=
  if !m.upd.trial then m
  else m.onUpd fun u => { u with trial := false, tried := false, staging := none, downgrade := false, state := .idle }

/-- The angle unit leaves BOOT's acquisition (R73), and the grid index stands as R81 and R82 give it: a head candidate whose
plant time is acquired starts at the whole nominal cycles of it; one not adopted from a head is local (R101). -/
def Module.angBootEnd (t : Nat) (m : Module) : Module :=
  let m := if m.ang.state = .acquiring then m.acquireTimeout t else m
  m.onAng fun a =>
    { a with gridLocal := a.gridLocal || !(m.isHead || a.adopted)
             gridIndex := if m.rng.role = 1 && !a.adopted && m.rng.plant.isSome then m.gridStart else a.gridIndex }

/-- BOOT_COMPLETE (R677): lane load causes, the duration of BOOT in ms, and the time. Default settings after a change of
format are written (R680). -/
def Module.bootEnd (causes : List Nat) (ms t : Nat) (m : Module) : Module :=
  if !m.inBoot || m.upd.dead then m
  else
    let m := (m.tick t).onUpd fun u => { u with bootMs := satU16 ms }
    let m := ((((m.angBootEnd t).learnBoot.redeal []).lanesBoot causes).blockPresent).showChains
    let m := m.siRejudge m
    let (md, cause) := m.bootMode
    if md = .safeHold ∧ m.upd.trial then m.restart
    else
      let m := ((m.enterMode md cause none).confirm.drfBootEnd).raise 448
      if m.upd.settingsReset then m.settingsSave else m
def execBootComplete (laneA laneB laneC bootMs t : Nat) (s : State) : Host.Outcome State Fault Refusal :=
  s.go (·.bootEnd [laneA, laneB, laneC] bootMs t)

/-! ### The activation's reset (R691) -/

/-- Step 3 of R691: a sweep frozen and its header written, a QUICK flush, the RETAIN area and the settings; skipped outside
the write window. -/
def Module.activationWrites (m : Module) : Module :=
  if !m.flashOk then m
  else
    let m := if m.lrn.sweep.isNone then m.freezeSweep else m
    let m := m.onLrn fun l => { l with sweep := l.sweep.map fun w => { w with header := 2 } }
    let m := m.onBlt fun b => { b with newestQuick := some { full := false, seq := flushSeq b.newest + 1, data := b.data }, flush := none }
    m.retainWrite.settingsSave

/-- ACTIVATION_RESET: steps 3 and 4 of R691, then BOOT. -/
def Module.activationReset (m : Module) : Module :=
  if m.upd.state ≠ .activating then m
  else
    (m.activationWrites.onUpd fun u => { u with activeB := !u.activeB, trial := true, tried := false }).restart
def execActivationReset (s : State) : Host.Outcome State Fault Refusal := s.go Module.activationReset

end Sys2Proof.Machine
end

