-- ==== Sys2Proof/Machine/Service.lean ====
section
/-! DEFINITION. Machine/Service.lean: the service port (R613 to R627). -/
namespace Sys2Proof.Machine

/-- Own target address (R613). -/
def Module.svcAddr (m : Module) : Nat := 0x58 + m.svc.addr % 8

/-- Die temperature as the map shows it, s16 in 0.1 °C (R620). -/
def Module.dieCode (m : Module) : Nat := dieField m.hk.dieLast

/-- The values of the map (R620): pointer of the lowest byte, length, content; WIN_DATA apart. -/
def Module.svcMap (m : Module) : List (Nat × Nat × Nat) :=
  let mapped := [(0x00, 1, 1), (0x01, 1, m.svcAddr), (0x02, 1, m.rng.addr),
    (0x03, 1, bit m.isHead + 2 * bit m.rng.plant.isSome), (0x04, 8, m.sys.serial), (0x0C, 4, m.sys.release)]
  let modes := [(0x10, 1, modeCode m.sys.mode), (0x11, 1, modeCode m.sys.prev), (0x12, 1, m.sys.cause),
    (0x14, 4, m.inhibit), (0x18, 4, m.regPeek 0x080000), (0x1C, 4, m.regPeek 0x080004)]
  let picks := [(0x20, 8, m.pck.index), (0x28, 8, m.pck.time), (0x30, 2, m.dieCode),
    (0x34, 4, m.regPeek 0x080010), (0x38, 4, m.regPeek 0x080014), (0x3C, 1, m.svc.cause), (0x3D, 1, m.svc.seq)]
  let rest := [(0x40, 4, m.regPeek 0x060000), (0x44, 4, m.regPeek 0x040020), (0x48, 4, m.regPeek 0x0D0000),
    (0x4C, 2, m.validCells), (0x4E, 2, m.shortCells), (0x80, 4, m.svc.winOffset), (0x84, 1, m.svc.winStatus)]
  mapped ++ modes ++ picks ++ rest

/-- The value whose bytes include pointer `p`. -/
def Module.svcAt (p : Nat) (m : Module) : Option (Nat × Nat × Nat) :=
  m.svcMap.find? fun v => v.1 ≤ p && p < v.1 + v.2.1

/-- Reading the lowest byte of WIN_DATA (R621): both registers in one access, WIN_STATUS set. -/
def Module.winLatch (m : Module) : Bytes × Module :=
  let o := m.svc.winOffset
  if regOk o && regOk (o + 4) then
    let (a, b, m) := m.regTake2 o
    (leBytes 4 a ++ leBytes 4 b, m.onSvc fun v => { v with winStatus := 0 })
  else (zeros 8, m.onSvc fun v => { v with winStatus := 1 })

/-- The bytes of WIN_DATA taken live (R617), without clearing. -/
def Module.winLive (m : Module) : Bytes :=
  let o := m.svc.winOffset
  if regOk o && regOk (o + 4) then leBytes 4 (m.regPeek o) ++ leBytes 4 (m.regPeek (o + 4)) else zeros 8

/-- Keep a latched value; the same value latched again takes its place. -/
def Module.svcLatch (p : Nat) (b : Bytes) (m : Module) : Module :=
  m.onSvc fun v => { v with latches := (p, b) :: v.latches.filter (·.1 ≠ p) }

/-- Read the byte at pointer `p` (R616, R617); a read of NOTIFY_CAUSE clears it (R18), and withdraws a notify that waits for its
START (R624). -/
def Module.svcByte (p : Nat) (m : Module) : Byte × Module :=
  match m.svc.latches.find? fun l => l.1 < p && p < l.1 + l.2.length with
  | some l => (l.2.getD (p - l.1) 0, m)
  | none =>
    if p = 0x88 then
      let (b, m) := m.winLatch
      (b.getD 0 0, m.svcLatch p b)
    else if 0x88 < p ∧ p < 0x90 then (m.winLive.getD (p - 0x88) 0, m)
    else match m.svcAt p with
      | none => (0, m)
      | some (lo, n, v) =>
        let b := leBytes n v
        let m := if p = 0x3C then m.onSvc fun x => { x with cause := 0, pending := false, attempts := 0 } else m
        (b.getD (p - lo) 0, if p = lo ∧ 1 < n then m.svcLatch p b else m)

/-- Read `n` bytes from the pointer on, which wraps (R615). -/
def Module.svcRead : Nat → Module → Bytes × Module
  | 0, m => ([], m)
  | n + 1, m =>
    let (b, m) := m.svcByte m.svc.pointer
    let (bs, m) := (m.onSvc fun v => { v with pointer := (v.pointer + 1) % 256 }).svcRead n
    (b :: bs, m)

/-- Write one byte at the pointer (R616, R617): only WIN_OFFSET is writable; its bytes take effect with the highest. -/
def Module.svcPut (b : Byte) (m : Module) : Module :=
  let p := m.svc.pointer
  let m := if 0x80 ≤ p ∧ p ≤ 0x83 then
      let m := m.onSvc fun v => { v with held := tabPut none v.held (p - 0x80) (some b) }
      if p = 0x83 then
        let old := leBytes 4 m.svc.winOffset
        let new := (List.range 4).map fun i => (tabGet none m.svc.held i).getD (old.getD i 0)
        m.onSvc fun v => { v with winOffset := leNat new % 0x1000000, held := [] }
      else m
    else m.bump 0x0F0018
  m.onSvc fun v => { v with pointer := (v.pointer + 1) % 256 }

/-- A STOP drops the latches and any held write (R617). -/
def Module.svcStop (stop : Bool) (m : Module) : Module :=
  m.onSvc fun v => if stop then { v with latches := [], held := [], state := .idle } else { v with state := .target }

/-- SVC_WRITE_TRANSFER (R615): the first byte sets the pointer, each further one is written at it; bytes held at its end, by a
STOP or a repeated START, are dropped (R617). -/
def Module.svcWrite (data : Bytes) (stop : Bool) (m : Module) : Module :=
  if m.svc.state = .recovering then m
  else
    let m := m.bump 0x0F0010
    let m := match data with
      | [] => m
      | p :: bs => bs.foldl (fun m b => m.svcPut b) (m.onSvc fun v => { v with pointer := p.toNat })
    (m.onSvc fun v => { v with held := [] }).svcStop stop
def execSvcWriteTransfer (data : List Byte) (stop : Bool) (s : State) : Host.Outcome State Fault Refusal :=
  s.go (·.svcWrite data stop)

/-- SVC_READ_TRANSFER (R617): bytes from the pointer on leave on the bus. -/
def Module.svcReadTransfer (n : Nat) (stop : Bool) (m : Module) : Module :=
  if m.svc.state = .recovering then m
  else
    let (b, m) := (m.bump 0x0F0010).svcRead n
    (m.emit (.svc b)).svcStop stop
def execSvcReadTransfer (n : Nat) (stop : Bool) (s : State) : Host.Outcome State Fault Refusal :=
  s.go (·.svcReadTransfer n stop)

/-- SVC_WIN_DATA_READ (R621): a read transfer from the lowest byte of WIN_DATA on. -/
def execSvcWinDataRead (n : Nat) (s : State) : Host.Outcome State Fault Refusal :=
  s.go fun m => if m.svc.state = .recovering then m
    else (m.onSvc fun v => { v with pointer := 0x88, latches := [] }).svcReadTransfer n true

/-- SVC_BUS_STUCK (R619): the port releases the bus, abandons the transfer, and recovers. -/
def execSvcBusStuck (s : State) : Host.Outcome State Fault Refusal :=
  s.go fun m => if m.svc.state = .target ∨ m.svc.state = .controller then
      (m.onSvc fun v => { v with state := .recovering, held := [], latches := [], pointer := 0 }).bump 0x0F0014
    else m

/-- SVC_BUS_RECOVERED (R619): both lines high together for 50 µs. -/
def execSvcBusRecovered (s : State) : Host.Outcome State Fault Refusal :=
  s.go fun m => if m.svc.state = .recovering then m.onSvc fun v => { v with state := .idle } else m

/-- One attempt at the notify write (R622, R624), with its outcome on the bus. -/
def Module.notifyTry (t outcome : Nat) (m : Module) : Module :=
  let m := m.tick t
  let c := m.svc.cause &&& m.setting 0x0B81
  let early := match m.svc.sentAt with
    | some t0 => decide (t < t0 + msec 100)
    | none => false
  if !m.svc.pending || early || m.setting 0x0B80 = 0 || m.svc.state ≠ .idle then m
  else if c = 0 then m.onSvc fun v => { v with pending := false, attempts := 0 }
  else if outcome = 0 then
    let seq := (m.svc.seq + 1) % 256
    ((m.onSvc fun v => { v with seq := seq, pending := false, failed := false, attempts := 0, sentAt := some t }).bump
      0x0F001C).emit (.svc [BitVec.ofNat 8 m.svcAddr, BitVec.ofNat 8 c, BitVec.ofNat 8 seq])
  else
    let m := if outcome = 1 then m else m.bump 0x0F0024
    let n := m.svc.attempts + 1
    if m.setting 0x0B83 < n then
      (m.onSvc fun v => { v with pending := false, failed := true, attempts := 0 }).bump 0x0F0020
    else m.onSvc fun v => { v with attempts := n }

/-- SVC_NOTIFY (R622): the first attempt of a pending notify. -/
def execSvcNotify (t outcome : Nat) (s : State) : Host.Outcome State Fault Refusal :=
  s.go fun m => if m.svc.attempts = 0 then m.notifyTry t outcome else m

/-- SVC_NOTIFY_RETRY (R624): a retry after SVC_NOTIFY_GAP. -/
def execSvcNotifyRetry (t outcome : Nat) (s : State) : Host.Outcome State Fault Refusal :=
  s.go fun m => if 0 < m.svc.attempts then m.notifyTry t outcome else m

end Sys2Proof.Machine
end

