-- ==== Sys2Proof/Machine/Dispatch.lean ====
section
/-! DEFINITION. Machine/Dispatch.lean: the meaning of every command, one arm per row of the opcode table. -/
namespace Sys2Proof.Machine

def exec (i : Instr) (s : State) : Host.Outcome State Fault Refusal :=
  match i with
  | .powerOnReset addr hold => Sys2Proof.Machine.execPowerOnReset addr hold s
  | .watchdogReset => Sys2Proof.Machine.execWatchdogReset s
  | .bootWatchdogExpiry => Sys2Proof.Machine.execBootWatchdogExpiry s
  | .bootComplete laneA laneB laneC bootMs t => Sys2Proof.Machine.execBootComplete laneA laneB laneC bootMs t s
  | .modeTransition => Sys2Proof.Machine.execModeTransition s
  | .modeGet r => Sys2Proof.Machine.execModeGet r s
  | .modeRequest r => Sys2Proof.Machine.execModeRequest r s
  | .safeholdReset r => Sys2Proof.Machine.execSafeholdReset r s
  | .commandBoundaryApply ctx tag => Sys2Proof.Machine.execCommandBoundaryApply ctx tag s
  | .toothEdge t => Sys2Proof.Machine.execToothEdge t s
  | .indexEdge t => Sys2Proof.Machine.execIndexEdge t s
  | .mainsCrossing t rising rms => Sys2Proof.Machine.execMainsCrossing t rising rms s
  | .toothExtrapolate src t => Sys2Proof.Machine.execToothExtrapolate src t s
  | .toothTimeout src t => Sys2Proof.Machine.execToothTimeout src t s
  | .mainsLowLoss t => Sys2Proof.Machine.execMainsLowLoss t s
  | .acquireTimeout t => Sys2Proof.Machine.execAcquireTimeout t s
  | .autoRevert t => Sys2Proof.Machine.execAutoRevert t s
  | .slewComplete t => Sys2Proof.Machine.execSlewComplete t s
  | .treadleHoldEnd t => Sys2Proof.Machine.execTreadleHoldEnd t s
  | .treadleCycleStart t => Sys2Proof.Machine.execTreadleCycleStart t s
  | .angleStatusGet r => Sys2Proof.Machine.execAngleStatusGet r s
  | .angleSourceForce r => Sys2Proof.Machine.execAngleSourceForce r s
  | .angleForceTimeout t => Sys2Proof.Machine.execAngleForceTimeout t s
  | .angleCountersGet r => Sys2Proof.Machine.execAngleCountersGet r s
  | .gridIndexAt r => Sys2Proof.Machine.execGridIndexAt r s
  | .timeGet r => Sys2Proof.Machine.execTimeGet r s
  | .pickTrigger t => Sys2Proof.Machine.execPickTrigger t s
  | .pickInstant dci => Sys2Proof.Machine.execPickInstant dci s
  | .loopTick => Sys2Proof.Machine.execLoopTick s
  | .draftCycleStart task => Sys2Proof.Machine.execDraftCycleStart task s
  | .activationInstant => Sys2Proof.Machine.execActivationInstant s
  | .activationReset => Sys2Proof.Machine.execActivationReset s
  | .warpLockGained chain port => Sys2Proof.Machine.execWarpLockGained chain port s
  | .warpLockLost chain port => Sys2Proof.Machine.execWarpLockLost chain port s
  | .enumLockTimeout chain => Sys2Proof.Machine.execEnumLockTimeout chain s
  | .enumFrameReturn chain body => Sys2Proof.Machine.execEnumFrameReturn chain body s
  | .enumReturnTimeout chain => Sys2Proof.Machine.execEnumReturnTimeout chain s
  | .identReply chain port body => Sys2Proof.Machine.execIdentReply chain port body s
  | .echoReply chain port body trip => Sys2Proof.Machine.execEchoReply chain port body trip s
  | .configReply chain body => Sys2Proof.Machine.execConfigReply chain body s
  | .enumFinish chain => Sys2Proof.Machine.execEnumFinish chain s
  | .enumOverallTimeout chain => Sys2Proof.Machine.execEnumOverallTimeout chain s
  | .autoReenumerate chain => Sys2Proof.Machine.execAutoReenumerate chain s
  | .headDataRx chain port body t => Sys2Proof.Machine.execHeadDataRx chain port body t s
  | .monInstantRx chain port body t => Sys2Proof.Machine.execMonInstantRx chain port body t s
  | .monWindowRx chain port body t => Sys2Proof.Machine.execMonWindowRx chain port body t s
  | .balanceAckRx chain body => Sys2Proof.Machine.execBalanceAckRx chain body s
  | .returnWindowClose chain => Sys2Proof.Machine.execReturnWindowClose chain s
  | .pickRelease t full => Sys2Proof.Machine.execPickRelease t full s
  | .breakDeclared chain => Sys2Proof.Machine.execBreakDeclared chain s
  | .deviceAnswerLost chain addr => Sys2Proof.Machine.execDeviceAnswerLost chain addr s
  | .deviceAnswerRestored chain closed => Sys2Proof.Machine.execDeviceAnswerRestored chain closed s
  | .healingStart chain => Sys2Proof.Machine.execHealingStart chain s
  | .healingComplete chain => Sys2Proof.Machine.execHealingComplete chain s
  | .warpStatusGet r => Sys2Proof.Machine.execWarpStatusGet r s
  | .warpRosterGet r => Sys2Proof.Machine.execWarpRosterGet r s
  | .warpRosterAccept r => Sys2Proof.Machine.execWarpRosterAccept r s
  | .warpReenumerate r => Sys2Proof.Machine.execWarpReenumerate r s
  | .balanceSet r => Sys2Proof.Machine.execBalanceSet r s
  | .balanceAckTimeout pick => Sys2Proof.Machine.execBalanceAckTimeout pick s
  | .balanceHotResume chain addr => Sys2Proof.Machine.execBalanceHotResume chain addr s
  | .autoBalanceIssue string => Sys2Proof.Machine.execAutoBalanceIssue string s
  | .balanceStatusGet r => Sys2Proof.Machine.execBalanceStatusGet r s
  | .warpCountersGet r => Sys2Proof.Machine.execWarpCountersGet r s
  | .estimatorStep time cycles => Sys2Proof.Machine.execEstimatorStep time cycles s
  | .hypReseed cell j => Sys2Proof.Machine.execHypReseed cell j s
  | .shortWatchSet cell => Sys2Proof.Machine.execShortWatchSet cell s
  | .microShortSet cell => Sys2Proof.Machine.execMicroShortSet cell s
  | .resHighChange cell => Sys2Proof.Machine.execResHighChange cell s
  | .fadeChange cell => Sys2Proof.Machine.execFadeChange cell s
  | .cellValidTimeout cell => Sys2Proof.Machine.execCellValidTimeout cell s
  | .tSubstTimeout chain monitor input => Sys2Proof.Machine.execTSubstTimeout chain monitor input s
  | .currentLostHoldEnd string => Sys2Proof.Machine.execCurrentLostHoldEnd string s
  | .estStatusGet r => Sys2Proof.Machine.execEstStatusGet r s
  | .estCellsGet r => Sys2Proof.Machine.execEstCellsGet r s
  | .estStringsGet r => Sys2Proof.Machine.execEstStringsGet r s
  | .estCellRecordGet r => Sys2Proof.Machine.execEstCellRecordGet r s
  | .estFlagsClear r => Sys2Proof.Machine.execEstFlagsClear r s
  | .estReinit r => Sys2Proof.Machine.execEstReinit r s
  | .estPackLoad r => Sys2Proof.Machine.execEstPackLoad r s
  | .estPackGet r => Sys2Proof.Machine.execEstPackGet r s
  | .spanEnd string => Sys2Proof.Machine.execSpanEnd string s
  | .dvCheckTime cell idx => Sys2Proof.Machine.execDvCheckTime cell idx s
  | .stepFitComplete cell => Sys2Proof.Machine.execStepFitComplete cell s
  | .ripAgePeriod => Sys2Proof.Machine.execRipAgePeriod s
  | .capRunRestTimeout string => Sys2Proof.Machine.execCapRunRestTimeout string s
  | .capApply string => Sys2Proof.Machine.execCapApply string s
  | .sweepFreeze => Sys2Proof.Machine.execSweepFreeze s
  | .sweepValidMark => Sys2Proof.Machine.execSweepValidMark s
  | .sweepDeferEnd => Sys2Proof.Machine.execSweepDeferEnd s
  | .learnStatusGet r => Sys2Proof.Machine.execLearnStatusGet r s
  | .learnCellsGet r => Sys2Proof.Machine.execLearnCellsGet r s
  | .learnTableGet r => Sys2Proof.Machine.execLearnTableGet r s
  | .learnGradeGet r => Sys2Proof.Machine.execLearnGradeGet r s
  | .learnRunStatusGet r => Sys2Proof.Machine.execLearnRunStatusGet r s
  | .resetLearned r => Sys2Proof.Machine.execResetLearned r s
  | .learnSuspectClear r => Sys2Proof.Machine.execLearnSuspectClear r s
  | .learnSweepNow r => Sys2Proof.Machine.execLearnSweepNow r s
  | .tileLateTimeout tile => Sys2Proof.Machine.execTileLateTimeout tile s
  | .tileWatchdogExpiry tile => Sys2Proof.Machine.execTileWatchdogExpiry tile s
  | .bankEccError bank uncorr frames => Sys2Proof.Machine.execBankEccError bank uncorr frames s
  | .takeoverAssign tile lost => Sys2Proof.Machine.execTakeoverAssign tile lost s
  | .tileStarted tile ok => Sys2Proof.Machine.execTileStarted tile ok s
  | .shedEnd => Sys2Proof.Machine.execShedEnd s
  | .bnkOwnReqWrite bank master => Sys2Proof.Machine.execBnkOwnReqWrite bank master s
  | .bnkOwnReqBWrite bank master => Sys2Proof.Machine.execBnkOwnReqBWrite bank master s
  | .handoverComplete bank portB => Sys2Proof.Machine.execHandoverComplete bank portB s
  | .pwrDomReqWrite dom req => Sys2Proof.Machine.execPwrDomReqWrite dom req s
  | .domainChangeDone dom => Sys2Proof.Machine.execDomainChangeDone dom s
  | .replayDomainOff => Sys2Proof.Machine.execReplayDomainOff s
  | .wftMapGet r => Sys2Proof.Machine.execWftMapGet r s
  | .laneEvaluation lane bad t => Sys2Proof.Machine.execLaneEvaluation lane bad t s
  | .laneTick lane accuse t => Sys2Proof.Machine.execLaneTick lane accuse t s
  | .blindTimeout lane kind item t => Sys2Proof.Machine.execBlindTimeout lane kind item t s
  | .blindHalfTime lane kind item t => Sys2Proof.Machine.execBlindHalfTime lane kind item t s
  | .laneWatchdogExpiry lane => Sys2Proof.Machine.execLaneWatchdogExpiry lane s
  | .laneBlockCrcCheck lane ok => Sys2Proof.Machine.execLaneBlockCrcCheck lane ok s
  | .laneSelfTestCycle lane ok => Sys2Proof.Machine.execLaneSelfTestCycle lane ok s
  | .laneDisputeExpiry lane => Sys2Proof.Machine.execLaneDisputeExpiry lane s
  | .degradedTimeout => Sys2Proof.Machine.execDegradedTimeout s
  | .degradedWarn => Sys2Proof.Machine.execDegradedWarn s
  | .degradedSave => Sys2Proof.Machine.execDegradedSave s
  | .pulseTestStart so => Sys2Proof.Machine.execPulseTestStart so s
  | .pulseTestSwitchOn sensedOff sensedOn => Sys2Proof.Machine.execPulseTestSwitchOn sensedOff sensedOn s
  | .pulseTestOnTimeout => Sys2Proof.Machine.execPulseTestOnTimeout s
  | .soStuckOnTimeout so low => Sys2Proof.Machine.execSoStuckOnTimeout so low s
  | .soStuckOffTimeout so low => Sys2Proof.Machine.execSoStuckOffTimeout so low s
  | .soOverloadTimeout so => Sys2Proof.Machine.execSoOverloadTimeout so s
  | .soOpenLoadTimeout so => Sys2Proof.Machine.execSoOpenLoadTimeout so s
  | .siInputChange si a b t => Sys2Proof.Machine.execSiInputChange si a b t s
  | .siDiscrepancy si t => Sys2Proof.Machine.execSiDiscrepancy si t s
  | .sealBreak => Sys2Proof.Machine.execSealBreak s
  | .sealSwitchChange lane sw => Sys2Proof.Machine.execSealSwitchChange lane sw s
  | .fuseEnAssert => Sys2Proof.Machine.execFuseEnAssert s
  | .fuseEnRelease => Sys2Proof.Machine.execFuseEnRelease s
  | .safetyStatusGet r => Sys2Proof.Machine.execSafetyStatusGet r s
  | .safetyBlockLoad r => Sys2Proof.Machine.execSafetyBlockLoad r s
  | .safetyBlockGet r => Sys2Proof.Machine.execSafetyBlockGet r s
  | .commissionArm r => Sys2Proof.Machine.execCommissionArm r s
  | .armCommit okA okB => Sys2Proof.Machine.execArmCommit okA okB s
  | .safetyDisarm r => Sys2Proof.Machine.execSafetyDisarm r s
  | .safetyProfilesLoad r => Sys2Proof.Machine.execSafetyProfilesLoad r s
  | .fuseProgram r => Sys2Proof.Machine.execFuseProgram r s
  | .fuseRead r => Sys2Proof.Machine.execFuseRead r s
  | .keyProvision r => Sys2Proof.Machine.execKeyProvision r s
  | .keyRetire r => Sys2Proof.Machine.execKeyRetire r s
  | .soRequest r => Sys2Proof.Machine.execSoRequest r s
  | .loopCompute time => Sys2Proof.Machine.execLoopCompute time s
  | .fbLost loop => Sys2Proof.Machine.execFbLost loop s
  | .fbHoldTimeout loop t => Sys2Proof.Machine.execFbHoldTimeout loop t s
  | .dwellEnd loop t => Sys2Proof.Machine.execDwellEnd loop t s
  | .stopTimeout loop t => Sys2Proof.Machine.execStopTimeout loop t s
  | .stepTimeExpiry string => Sys2Proof.Machine.execStepTimeExpiry string s
  | .pulsePhaseEnd string t => Sys2Proof.Machine.execPulsePhaseEnd string t s
  | .dispatchSet r => Sys2Proof.Machine.execDispatchSet r s
  | .dispatchGet r => Sys2Proof.Machine.execDispatchGet r s
  | .tmpSpSet r => Sys2Proof.Machine.execTmpSpSet r s
  | .tmpLoopGet r => Sys2Proof.Machine.execTmpLoopGet r s
  | .tmpLoopLoad r => Sys2Proof.Machine.execTmpLoopLoad r s
  | .tmpLoopTableGet r => Sys2Proof.Machine.execTmpLoopTableGet r s
  | .formRecipeLoad r => Sys2Proof.Machine.execFormRecipeLoad r s
  | .formRecipeGet r => Sys2Proof.Machine.execFormRecipeGet r s
  | .formStart r => Sys2Proof.Machine.execFormStart r s
  | .formPause r => Sys2Proof.Machine.execFormPause r s
  | .formResume r => Sys2Proof.Machine.execFormResume r s
  | .formAbort r => Sys2Proof.Machine.execFormAbort r s
  | .formStatusGet r => Sys2Proof.Machine.execFormStatusGet r s
  | .draftTaskCommit task vals us acts => Sys2Proof.Machine.execDraftTaskCommit task vals us acts s
  | .draftExecLimit task => Sys2Proof.Machine.execDraftExecLimit task s
  | .draftTrap task code offset => Sys2Proof.Machine.execDraftTrap task code offset s
  | .draftSend task event => Sys2Proof.Machine.execDraftSend task event s
  | .draftWait task event timeout t => Sys2Proof.Machine.execDraftWait task event timeout t s
  | .draftWaitTimeout task t => Sys2Proof.Machine.execDraftWaitTimeout task t s
  | .draftCellRead task first n => Sys2Proof.Machine.execDraftCellRead task first n s
  | .draftRetainSave => Sys2Proof.Machine.execDraftRetainSave s
  | .draftTimeAdjust busy t => Sys2Proof.Machine.execDraftTimeAdjust busy t s
  | .drfStatusGet r => Sys2Proof.Machine.execDrfStatusGet r s
  | .drfLoad r => Sys2Proof.Machine.execDrfLoad r s
  | .drfUnload r => Sys2Proof.Machine.execDrfUnload r s
  | .drfStart r => Sys2Proof.Machine.execDrfStart r s
  | .drfStop r => Sys2Proof.Machine.execDrfStop r s
  | .drfHold r => Sys2Proof.Machine.execDrfHold r s
  | .drfResume r => Sys2Proof.Machine.execDrfResume r s
  | .drfStep r => Sys2Proof.Machine.execDrfStep r s
  | .drfTasksGet r => Sys2Proof.Machine.execDrfTasksGet r s
  | .drfVarGet r => Sys2Proof.Machine.execDrfVarGet r s
  | .drfVarSet r => Sys2Proof.Machine.execDrfVarSet r s
  | .requestMalformed datagram fragmented => Sys2Proof.Machine.execRequestMalformed datagram fragmented s
  | .badOpcode op r => Sys2Proof.Machine.execBadOpcode op r s
  | .sysIdentGet r => Sys2Proof.Machine.execSysIdentGet r s
  | .ctxOpen r => Sys2Proof.Machine.execCtxOpen r s
  | .ctxAuth r => Sys2Proof.Machine.execCtxAuth r s
  | .ctxAuthTimeout ctx => Sys2Proof.Machine.execCtxAuthTimeout ctx s
  | .ctxClose r => Sys2Proof.Machine.execCtxClose r s
  | .ctxIdleTimeout ctx => Sys2Proof.Machine.execCtxIdleTimeout ctx s
  | .cmdAbort r => Sys2Proof.Machine.execCmdAbort r s
  | .evtSubscribe r => Sys2Proof.Machine.execEvtSubscribe r s
  | .eventPacketSend ctx => Sys2Proof.Machine.execEventPacketSend ctx s
  | .cmdLoadHigh load => Sys2Proof.Machine.execCmdLoadHigh load s
  | .regRd r => Sys2Proof.Machine.execRegRd r s
  | .regWr r => Sys2Proof.Machine.execRegWr r s
  | .regRd64 r => Sys2Proof.Machine.execRegRd64 r s
  | .setRead r => Sys2Proof.Machine.execSetRead r s
  | .setWrite r => Sys2Proof.Machine.execSetWrite r s
  | .txnBegin r => Sys2Proof.Machine.execTxnBegin r s
  | .txnCommit r => Sys2Proof.Machine.execTxnCommit r s
  | .txnApply => Sys2Proof.Machine.execTxnApply s
  | .txnRollback r => Sys2Proof.Machine.execTxnRollback r s
  | .txnIdleTimeout => Sys2Proof.Machine.execTxnIdleTimeout s
  | .txnStatusGet r => Sys2Proof.Machine.execTxnStatusGet r s
  | .settingsSave => Sys2Proof.Machine.execSettingsSave s
  | .bulkStatusGet r => Sys2Proof.Machine.execBulkStatusGet r s
  | .bulkGive r => Sys2Proof.Machine.execBulkGive r s
  | .bulkReclaim r => Sys2Proof.Machine.execBulkReclaim r s
  | .bulkWrite r => Sys2Proof.Machine.execBulkWrite r s
  | .bulkRead r => Sys2Proof.Machine.execBulkRead r s
  | .bulkOutputBatch ctx tag => Sys2Proof.Machine.execBulkOutputBatch ctx tag s
  | .bulkPageWaitTimeout ctx tag => Sys2Proof.Machine.execBulkPageWaitTimeout ctx tag s
  | .ringBlockLockChange port ok t => Sys2Proof.Machine.execRingBlockLockChange port ok t s
  | .helloSend port turn => Sys2Proof.Machine.execHelloSend port turn s
  | .helloRx f trip t => Sys2Proof.Machine.execHelloRx f trip t s
  | .helloTimeout port t => Sys2Proof.Machine.execHelloTimeout port t s
  | .ringUnwrap port t => Sys2Proof.Machine.execRingUnwrap port t s
  | .pathHoldEnd dst => Sys2Proof.Machine.execPathHoldEnd dst s
  | .announceSend loadA loadB t => Sys2Proof.Machine.execAnnounceSend loadA loadB t s
  | .announceRx f hostUp t => Sys2Proof.Machine.execAnnounceRx f hostUp t s
  | .moduleAnnounceTimeout serial => Sys2Proof.Machine.execModuleAnnounceTimeout serial s
  | .ringFrameForward f full => Sys2Proof.Machine.execRingFrameForward f full s
  | .replyFrameRx f => Sys2Proof.Machine.execReplyFrameRx f s
  | .eventFrameRx f => Sys2Proof.Machine.execEventFrameRx f s
  | .bulkFrameRx f => Sys2Proof.Machine.execBulkFrameRx f s
  | .creditRx f => Sys2Proof.Machine.execCreditRx f s
  | .timeFrameSend t => Sys2Proof.Machine.execTimeFrameSend t s
  | .timeFrameRx f residence t => Sys2Proof.Machine.execTimeFrameRx f residence t s
  | .timeHoldover t => Sys2Proof.Machine.execTimeHoldover t s
  | .addrAssignRx f => Sys2Proof.Machine.execAddrAssignRx f s
  | .hostDatagramRx ip port dport bcast d => Sys2Proof.Machine.execHostDatagramRx ip port dport bcast d s
  | .hostArpRx ip mac target t => Sys2Proof.Machine.execHostArpRx ip mac target t s
  | .hostIcmpEcho ip t d => Sys2Proof.Machine.execHostIcmpEcho ip t d s
  | .hostLinkChange up t => Sys2Proof.Machine.execHostLinkChange up t s
  | .cageOpticChange cage kind => Sys2Proof.Machine.execCageOpticChange cage kind s
  | .gratuitousArpSend => Sys2Proof.Machine.execGratuitousArpSend s
  | .headHoldReleaseSensed t => Sys2Proof.Machine.execHeadHoldReleaseSensed t s
  | .arbGuardEnd t => Sys2Proof.Machine.execArbGuardEnd t s
  | .arbProbePhaseEnd t => Sys2Proof.Machine.execArbProbePhaseEnd t s
  | .arbWindowClose t => Sys2Proof.Machine.execArbWindowClose t s
  | .arbGrantHoldTimeout t => Sys2Proof.Machine.execArbGrantHoldTimeout t s
  | .arbReopen t => Sys2Proof.Machine.execArbReopen t s
  | .arbHoldNoHead t => Sys2Proof.Machine.execArbHoldNoHead t s
  | .claimOpenRx f side => Sys2Proof.Machine.execClaimOpenRx f side s
  | .headClaimRx f => Sys2Proof.Machine.execHeadClaimRx f s
  | .headGrantedRx f t => Sys2Proof.Machine.execHeadGrantedRx f t s
  | .arbGrantChange level => Sys2Proof.Machine.execArbGrantChange level s
  | .arbBeaconSend => Sys2Proof.Machine.execArbBeaconSend s
  | .arbBeaconRx f => Sys2Proof.Machine.execArbBeaconRx f s
  | .arbBeaconTimeout => Sys2Proof.Machine.execArbBeaconTimeout s
  | .headHostLossTimeout t => Sys2Proof.Machine.execHeadHostLossTimeout t s
  | .headRingLossTimeout t => Sys2Proof.Machine.execHeadRingLossTimeout t s
  | .headReleaseExecute t => Sys2Proof.Machine.execHeadReleaseExecute t s
  | .ringStatusGet r => Sys2Proof.Machine.execRingStatusGet r s
  | .ringTopologyGet r => Sys2Proof.Machine.execRingTopologyGet r s
  | .ringAddrAssign r => Sys2Proof.Machine.execRingAddrAssign r s
  | .headRelease r => Sys2Proof.Machine.execHeadRelease r s
  | .ringCountersGet r => Sys2Proof.Machine.execRingCountersGet r s
  | .relayPieceSend => Sys2Proof.Machine.execRelayPieceSend s
  | .relayPieceRx f target t => Sys2Proof.Machine.execRelayPieceRx f target t s
  | .relayNeedRx f => Sys2Proof.Machine.execRelayNeedRx f s
  | .relayDoneRx f => Sys2Proof.Machine.execRelayDoneRx f s
  | .relayRoundEnd => Sys2Proof.Machine.execRelayRoundEnd s
  | .canFrameRx n word esi rtr data sof t => Sys2Proof.Machine.execCanFrameRx n word esi rtr data sof t s
  | .canFrameAcked n sof t => Sys2Proof.Machine.execCanFrameAcked n sof t s
  | .canBusError n tec recv err inData t => Sys2Proof.Machine.execCanBusError n tec recv err inData t s
  | .canBusoffDelayEnd n t => Sys2Proof.Machine.execCanBusoffDelayEnd n t s
  | .canBusoffRecovered n => Sys2Proof.Machine.execCanBusoffRecovered n s
  | .canSignalPeriod n mailbox t => Sys2Proof.Machine.execCanSignalPeriod n mailbox t s
  | .canSignalTimeout sig t => Sys2Proof.Machine.execCanSignalTimeout sig t s
  | .canLockTimeout n box t => Sys2Proof.Machine.execCanLockTimeout n box t s
  | .canRateTryEnd n t => Sys2Proof.Machine.execCanRateTryEnd n t s
  | .canTimeSyncSend n t => Sys2Proof.Machine.execCanTimeSyncSend n t s
  | .canTimeFollowSend n t => Sys2Proof.Machine.execCanTimeFollowSend n t s
  | .canTimeHoldover n t => Sys2Proof.Machine.execCanTimeHoldover n t s
  | .canSendTimeout ctx tag t => Sys2Proof.Machine.execCanSendTimeout ctx tag t s
  | .canMbWord0Read n box t => Sys2Proof.Machine.execCanMbWord0Read n box t s
  | .canMbWord19Read n box t => Sys2Proof.Machine.execCanMbWord19Read n box t s
  | .canStatusGet r => Sys2Proof.Machine.execCanStatusGet r s
  | .canMapLoad r => Sys2Proof.Machine.execCanMapLoad r s
  | .canMapGet r => Sys2Proof.Machine.execCanMapGet r s
  | .canSignalsGet r => Sys2Proof.Machine.execCanSignalsGet r s
  | .canSend r => Sys2Proof.Machine.execCanSend r s
  | .canRateDetect r => Sys2Proof.Machine.execCanRateDetect r s
  | .canRestart r => Sys2Proof.Machine.execCanRestart r s
  | .canCountersGet r => Sys2Proof.Machine.execCanCountersGet r s
  | .svcWriteTransfer data stop => Sys2Proof.Machine.execSvcWriteTransfer data stop s
  | .svcReadTransfer n stop => Sys2Proof.Machine.execSvcReadTransfer n stop s
  | .svcWinDataRead n => Sys2Proof.Machine.execSvcWinDataRead n s
  | .svcBusStuck => Sys2Proof.Machine.execSvcBusStuck s
  | .svcBusRecovered => Sys2Proof.Machine.execSvcBusRecovered s
  | .svcNotify t outcome => Sys2Proof.Machine.execSvcNotify t outcome s
  | .svcNotifyRetry t outcome => Sys2Proof.Machine.execSvcNotifyRetry t outcome s
  | .beamSnapshotStart t => Sys2Proof.Machine.execBeamSnapshotStart t s
  | .freezeCaptureEnd => Sys2Proof.Machine.execFreezeCaptureEnd s
  | .freezeSlotWritten => Sys2Proof.Machine.execFreezeSlotWritten s
  | .replayPassEnd last div rate outs => Sys2Proof.Machine.execReplayPassEnd last div rate outs s
  | .replayEnd result => Sys2Proof.Machine.execReplayEnd result s
  | .cloStatusGet r => Sys2Proof.Machine.execCloStatusGet r s
  | .cloFreeze r => Sys2Proof.Machine.execCloFreeze r s
  | .cloSlotsGet r => Sys2Proof.Machine.execCloSlotsGet r s
  | .cloSlotExport r => Sys2Proof.Machine.execCloSlotExport r s
  | .cloSlotRelease r => Sys2Proof.Machine.execCloSlotRelease r s
  | .cloSlotErase r => Sys2Proof.Machine.execCloSlotErase r s
  | .repStart r => Sys2Proof.Machine.execRepStart r s
  | .repStatusGet r => Sys2Proof.Machine.execRepStatusGet r s
  | .repAbort r => Sys2Proof.Machine.execRepAbort r s
  | .repCellsGet r => Sys2Proof.Machine.execRepCellsGet r s
  | .boltSecond => Sys2Proof.Machine.execBoltSecond s
  | .boltFlushDue full periodic => Sys2Proof.Machine.execBoltFlushDue full periodic s
  | .boltFlushWritten => Sys2Proof.Machine.execBoltFlushWritten s
  | .boltStampHoldEnd code => Sys2Proof.Machine.execBoltStampHoldEnd code s
  | .boltFlushDeferEnd => Sys2Proof.Machine.execBoltFlushDeferEnd s
  | .bltRead r => Sys2Proof.Machine.execBltRead r s
  | .bltExport r => Sys2Proof.Machine.execBltExport r s
  | .bltFlushNow r => Sys2Proof.Machine.execBltFlushNow r s
  | .bltCellReset r => Sys2Proof.Machine.execBltCellReset r s
  | .updStatusGet r => Sys2Proof.Machine.execUpdStatusGet r s
  | .updBegin r => Sys2Proof.Machine.execUpdBegin r s
  | .updPiece r => Sys2Proof.Machine.execUpdPiece r s
  | .updMissingGet r => Sys2Proof.Machine.execUpdMissingGet r s
  | .updVerify r => Sys2Proof.Machine.execUpdVerify r s
  | .updVerifyComplete copyOk => Sys2Proof.Machine.execUpdVerifyComplete copyOk s
  | .updSchedule r => Sys2Proof.Machine.execUpdSchedule r s
  | .updActivate r => Sys2Proof.Machine.execUpdActivate r s
  | .updCancel r => Sys2Proof.Machine.execUpdCancel r s
  | .updDiscard r => Sys2Proof.Machine.execUpdDiscard r s
  | .updRelay r => Sys2Proof.Machine.execUpdRelay r s
  | .updKeyRevoke r => Sys2Proof.Machine.execUpdKeyRevoke r s
  | .supplyLost j2 => Sys2Proof.Machine.execSupplyLost j2 s
  | .supplyRestored j2 dc => Sys2Proof.Machine.execSupplyRestored j2 dc s
  | .holdupExhausted => Sys2Proof.Machine.execHoldupExhausted s
  | .hkRound raw rails t => Sys2Proof.Machine.execHkRound raw rails t s
  | .hkStatusGet r => Sys2Proof.Machine.execHkStatusGet r s
  | .hkRailsGet r => Sys2Proof.Machine.execHkRailsGet r s
  | .calGet r => Sys2Proof.Machine.execCalGet r s
  | .restoreFactoryCal r => Sys2Proof.Machine.execRestoreFactoryCal r s
  | .hkCountersGet r => Sys2Proof.Machine.execHkCountersGet r s
  | .sealContactChange lane closed => Sys2Proof.Machine.execSealContactChange lane closed s
  | .fuseBurnComplete ok => Sys2Proof.Machine.execFuseBurnComplete ok s
  | .enumReplyTimeout chain port addr => Sys2Proof.Machine.execEnumReplyTimeout chain port addr s

end Sys2Proof.Machine
end

