-- ==== Sys2Proof/WellFormed.lean ====
section
/-! DEFINITION. WellFormed.lean: which commands stand for an event of the hardware: packet fields within the header's
fields (R485, R486), and numbers of chains, lanes, outputs, cells and the like within what the module has. -/
namespace Sys2Proof

/-- The packet fits the header and the datagram of R485 and R486. -/
def Req.wf (r : Req) : Bool :=
  decide (r.ctx < 512 ∧ r.tag < 65536 ∧ r.seq < 2 ^ 32 ∧
    32 + r.payload.length + (if r.trailer.isSome then 16 else 0) ≤ 1472 ∧
    (∀ b ∈ r.trailer, b.length = 16))

/-- The frame's fields fit the header of R538. -/
def RFrame.wf (f : RFrame) : Bool :=
  decide (f.port < 2 ∧ f.type < 256 ∧ f.flags < 256 ∧ f.dst < 256 ∧ f.src < 256 ∧ f.ttl ≤ 128 ∧ f.epoch < 65536 ∧
    f.frag < 65536 ∧ f.msgId < 2 ^ 32 ∧ f.serial < 2 ^ 64 ∧ f.payload.length ≤ 2048)

/-- Presets lie within their ranges (R469, R470). -/
def DraftAct.ok : DraftAct → Bool
  | .ton _ _ pt => decide (pt < 2 ^ 63)
  | .tof _ _ pt => decide (pt < 2 ^ 63)
  | .tp _ _ pt => decide (pt < 2 ^ 63)
  | .ctu _ _ _ pv => decide (-2147483648 ≤ pv ∧ pv ≤ 2147483647)
  | .ctd _ _ _ pv => decide (-2147483648 ≤ pv ∧ pv ≤ 2147483647)
  | .ctud _ _ _ _ _ pv => decide (-2147483648 ≤ pv ∧ pv ≤ 2147483647)
  | .store _ _ => true
  | .rTrig _ _ => true
  | .fTrig _ _ => true

/-- The command is well formed. -/
def Instr.wf : Instr → Bool
  | .powerOnReset addr _ => decide (addr < 8)
  | .watchdogReset => true
  | .bootWatchdogExpiry => true
  | .bootComplete laneA laneB laneC _ _ => decide (laneA ∈ [0, 3, 6] ∧ laneB ∈ [0, 3, 6] ∧ laneC ∈ [0, 3, 6])
  | .modeTransition => true
  | .modeGet r => r.wf
  | .modeRequest r => r.wf
  | .safeholdReset r => r.wf
  | .commandBoundaryApply ctx tag => decide (ctx < 512 ∧ tag < 65536)
  | .toothEdge _ => true
  | .indexEdge _ => true
  | .mainsCrossing _ _ _ => true
  | .toothExtrapolate src _ => decide (src = 1 ∨ src = 2)
  | .toothTimeout src _ => decide (src = 1 ∨ src = 2)
  | .mainsLowLoss _ => true
  | .acquireTimeout _ => true
  | .autoRevert _ => true
  | .slewComplete _ => true
  | .treadleHoldEnd _ => true
  | .treadleCycleStart _ => true
  | .angleStatusGet r => r.wf
  | .angleSourceForce r => r.wf
  | .angleForceTimeout _ => true
  | .angleCountersGet r => r.wf
  | .gridIndexAt r => r.wf
  | .timeGet r => r.wf
  | .pickTrigger _ => true
  | .pickInstant dci => decide (dci.length = 16 ∧ dci.all (· < 65536))
  | .loopTick => true
  | .draftCycleStart task => decide (task < 16)
  | .activationInstant => true
  | .activationReset => true
  | .warpLockGained chain port => decide (chain < 16 ∧ port < 2)
  | .warpLockLost chain port => decide (chain < 16 ∧ port < 2)
  | .enumLockTimeout chain => decide (chain < 16)
  | .enumFrameReturn chain _ => decide (chain < 16)
  | .enumReturnTimeout chain => decide (chain < 16)
  | .identReply chain port _ => decide (chain < 16 ∧ port < 2)
  | .echoReply chain port _ _ => decide (chain < 16 ∧ port < 2)
  | .configReply chain _ => decide (chain < 16)
  | .enumFinish chain => decide (chain < 16)
  | .enumOverallTimeout chain => decide (chain < 16)
  | .autoReenumerate chain => decide (chain < 16)
  | .headDataRx chain port _ _ => decide (chain < 16 ∧ port < 2)
  | .monInstantRx chain port _ _ => decide (chain < 16 ∧ port < 2)
  | .monWindowRx chain port _ _ => decide (chain < 16 ∧ port < 2)
  | .balanceAckRx chain _ => decide (chain < 16)
  | .returnWindowClose chain => decide (chain < 16)
  | .pickRelease _ _ => true
  | .breakDeclared chain => decide (chain < 16)
  | .deviceAnswerLost chain addr => decide (chain < 16 ∧ addr ≤ 32)
  | .deviceAnswerRestored chain _ => decide (chain < 16)
  | .healingStart chain => decide (chain < 16)
  | .healingComplete chain => decide (chain < 16)
  | .warpStatusGet r => r.wf
  | .warpRosterGet r => r.wf
  | .warpRosterAccept r => r.wf
  | .warpReenumerate r => r.wf
  | .balanceSet r => r.wf
  | .balanceAckTimeout _ => true
  | .balanceHotResume chain addr => decide (chain < 16 ∧ 1 ≤ addr ∧ addr ≤ 32)
  | .autoBalanceIssue string => decide (string < 16)
  | .balanceStatusGet r => r.wf
  | .warpCountersGet r => r.wf
  | .estimatorStep _ cycles => decide (cycles.length = 32)
  | .hypReseed cell j => decide (cell < 8192 ∧ j < 4)
  | .shortWatchSet cell => decide (cell < 8192)
  | .microShortSet cell => decide (cell < 8192)
  | .resHighChange cell => decide (cell < 8192)
  | .fadeChange cell => decide (cell < 8192)
  | .cellValidTimeout cell => decide (cell < 8192)
  | .tSubstTimeout chain monitor input => decide (chain < 16 ∧ 1 ≤ monitor ∧ monitor ≤ 32 ∧ input < 8)
  | .currentLostHoldEnd string => decide (string < 16)
  | .estStatusGet r => r.wf
  | .estCellsGet r => r.wf
  | .estStringsGet r => r.wf
  | .estCellRecordGet r => r.wf
  | .estFlagsClear r => r.wf
  | .estReinit r => r.wf
  | .estPackLoad r => r.wf
  | .estPackGet r => r.wf
  | .spanEnd string => decide (string < 16)
  | .dvCheckTime cell idx => decide (cell < 8192 ∧ idx < 6)
  | .stepFitComplete cell => decide (cell < 8192)
  | .ripAgePeriod => true
  | .capRunRestTimeout string => decide (string < 16)
  | .capApply string => decide (string < 16)
  | .sweepFreeze => true
  | .sweepValidMark => true
  | .sweepDeferEnd => true
  | .learnStatusGet r => r.wf
  | .learnCellsGet r => r.wf
  | .learnTableGet r => r.wf
  | .learnGradeGet r => r.wf
  | .learnRunStatusGet r => r.wf
  | .resetLearned r => r.wf
  | .learnSuspectClear r => r.wf
  | .learnSweepNow r => r.wf
  | .tileLateTimeout tile => decide (tile < 32)
  | .tileWatchdogExpiry tile => decide (tile < 32)
  | .bankEccError bank _ frames => decide (bank < 68 ∧ frames.all (· < 1024))
  | .takeoverAssign tile lost => decide (tile < 32 ∧ lost.all (· < 8192))
  | .tileStarted tile _ => decide (tile < 32)
  | .shedEnd => true
  | .bnkOwnReqWrite bank master => decide (bank < 68 ∧ master < 64)
  | .bnkOwnReqBWrite bank master => decide (bank < 68 ∧ master < 64)
  | .handoverComplete bank _ => decide (bank < 68)
  | .pwrDomReqWrite dom req => decide (dom < 52 ∧ req < 4)
  | .domainChangeDone dom => decide (dom < 52)
  | .replayDomainOff => true
  | .wftMapGet r => r.wf
  | .laneEvaluation lane bad _ => decide (lane < 3 ∧ bad.all (· < 1024))
  | .laneTick lane accuse _ => decide (lane < 3 ∧ accuse.all (fun p => decide (p.1 < 3 ∧ (p.2 = 1 ∨ p.2 = 2 ∨ p.2 = 5))))
  | .blindTimeout lane kind item _ => decide (lane < 3 ∧ kind < 6 ∧ item < 65536)
  | .blindHalfTime lane kind item _ => decide (lane < 3 ∧ kind < 6 ∧ item < 65536)
  | .laneWatchdogExpiry lane => decide (lane < 3)
  | .laneBlockCrcCheck lane _ => decide (lane < 3)
  | .laneSelfTestCycle lane _ => decide (lane < 3)
  | .laneDisputeExpiry lane => decide (lane < 3)
  | .degradedTimeout => true
  | .degradedWarn => true
  | .degradedSave => true
  | .pulseTestStart so => decide (so < 24)
  | .pulseTestSwitchOn _ _ => true
  | .pulseTestOnTimeout => true
  | .soStuckOnTimeout so _ => decide (so < 24)
  | .soStuckOffTimeout so _ => decide (so < 24)
  | .soOverloadTimeout so => decide (so < 24)
  | .soOpenLoadTimeout so => decide (so < 24)
  | .siInputChange si _ _ _ => decide (si < 8)
  | .siDiscrepancy si _ => decide (si < 8)
  | .sealBreak => true
  | .sealSwitchChange lane sw => decide (lane < 2 ∧ sw < 256)
  | .fuseEnAssert => true
  | .fuseEnRelease => true
  | .safetyStatusGet r => r.wf
  | .safetyBlockLoad r => r.wf
  | .safetyBlockGet r => r.wf
  | .commissionArm r => r.wf
  | .armCommit _ _ => true
  | .safetyDisarm r => r.wf
  | .safetyProfilesLoad r => r.wf
  | .fuseProgram r => r.wf
  | .fuseRead r => r.wf
  | .keyProvision r => r.wf
  | .keyRetire r => r.wf
  | .soRequest r => r.wf
  | .loopCompute _ => true
  | .fbLost loop => decide (loop < 256)
  | .fbHoldTimeout loop _ => decide (loop < 256)
  | .dwellEnd loop _ => decide (loop < 256)
  | .stopTimeout loop _ => decide (loop < 16)
  | .stepTimeExpiry string => decide (string < 16)
  | .pulsePhaseEnd string _ => decide (string < 16)
  | .dispatchSet r => r.wf
  | .dispatchGet r => r.wf
  | .tmpSpSet r => r.wf
  | .tmpLoopGet r => r.wf
  | .tmpLoopLoad r => r.wf
  | .tmpLoopTableGet r => r.wf
  | .formRecipeLoad r => r.wf
  | .formRecipeGet r => r.wf
  | .formStart r => r.wf
  | .formPause r => r.wf
  | .formResume r => r.wf
  | .formAbort r => r.wf
  | .formStatusGet r => r.wf
  | .draftTaskCommit task vals _ acts => decide (task < 16 ∧ vals.all (· < 2 ^ 32)) && acts.all DraftAct.ok
  | .draftExecLimit task => decide (task < 16)
  | .draftTrap task code _ => decide (task < 16 ∧ 1 ≤ code ∧ code ≤ 5)
  | .draftSend task event => decide (task < 16 ∧ event < 64)
  | .draftWait task event _ _ => decide (task < 16 ∧ event < 64)
  | .draftWaitTimeout task _ => decide (task < 16)
  | .draftCellRead task first n => decide (task < 16 ∧ n ≤ 512 ∧ first + n ≤ 8192)
  | .draftRetainSave => true
  | .draftTimeAdjust busy _ => decide (busy ≤ 1000)
  | .drfStatusGet r => r.wf
  | .drfLoad r => r.wf
  | .drfUnload r => r.wf
  | .drfStart r => r.wf
  | .drfStop r => r.wf
  | .drfHold r => r.wf
  | .drfResume r => r.wf
  | .drfStep r => r.wf
  | .drfTasksGet r => r.wf
  | .drfVarGet r => r.wf
  | .drfVarSet r => r.wf
  | .requestMalformed _ _ => true
  | .badOpcode op r => decide (op < 65536) && r.wf
  | .sysIdentGet r => r.wf
  | .ctxOpen r => r.wf
  | .ctxAuth r => r.wf
  | .ctxAuthTimeout ctx => decide (ctx < 512)
  | .ctxClose r => r.wf
  | .ctxIdleTimeout ctx => decide (ctx < 512)
  | .cmdAbort r => r.wf
  | .evtSubscribe r => r.wf
  | .eventPacketSend ctx => decide (ctx < 512)
  | .cmdLoadHigh load => decide (load ≤ 1000)
  | .regRd r => r.wf
  | .regWr r => r.wf
  | .regRd64 r => r.wf
  | .setRead r => r.wf
  | .setWrite r => r.wf
  | .txnBegin r => r.wf
  | .txnCommit r => r.wf
  | .txnApply => true
  | .txnRollback r => r.wf
  | .txnIdleTimeout => true
  | .txnStatusGet r => r.wf
  | .settingsSave => true
  | .bulkStatusGet r => r.wf
  | .bulkGive r => r.wf
  | .bulkReclaim r => r.wf
  | .bulkWrite r => r.wf
  | .bulkRead r => r.wf
  | .bulkOutputBatch ctx tag => decide (ctx < 512 ∧ tag < 65536)
  | .bulkPageWaitTimeout ctx tag => decide (ctx < 512 ∧ tag < 65536)
  | .ringBlockLockChange port _ _ => decide (port < 2)
  | .helloSend port _ => decide (port < 2)
  | .helloRx f _ _ => f.wf
  | .helloTimeout port _ => decide (port < 2)
  | .ringUnwrap port _ => decide (port < 2)
  | .pathHoldEnd dst => decide (dst < 64)
  | .announceSend loadA loadB _ => decide (loadA ≤ 1000 ∧ loadB ≤ 1000)
  | .announceRx f _ _ => f.wf
  | .moduleAnnounceTimeout _ => true
  | .ringFrameForward f _ => f.wf
  | .replyFrameRx f => f.wf
  | .eventFrameRx f => f.wf
  | .bulkFrameRx f => f.wf
  | .creditRx f => f.wf
  | .timeFrameSend _ => true
  | .timeFrameRx f _ _ => f.wf
  | .timeHoldover _ => true
  | .addrAssignRx f => f.wf
  | .hostDatagramRx _ port dport _ _ => decide (port < 65536 ∧ dport < 65536)
  | .hostArpRx _ _ _ _ => true
  | .hostIcmpEcho _ _ _ => true
  | .hostLinkChange _ _ => true
  | .cageOpticChange cage kind => decide (cage < 3 ∧ kind < 6)
  | .gratuitousArpSend => true
  | .headHoldReleaseSensed _ => true
  | .arbGuardEnd _ => true
  | .arbProbePhaseEnd _ => true
  | .arbWindowClose _ => true
  | .arbGrantHoldTimeout _ => true
  | .arbReopen _ => true
  | .arbHoldNoHead _ => true
  | .claimOpenRx f side => f.wf && decide (side < 3)
  | .headClaimRx f => f.wf
  | .headGrantedRx f _ => f.wf
  | .arbGrantChange level => decide (level < 3)
  | .arbBeaconSend => true
  | .arbBeaconRx f => f.wf
  | .arbBeaconTimeout => true
  | .headHostLossTimeout _ => true
  | .headRingLossTimeout _ => true
  | .headReleaseExecute _ => true
  | .ringStatusGet r => r.wf
  | .ringTopologyGet r => r.wf
  | .ringAddrAssign r => r.wf
  | .headRelease r => r.wf
  | .ringCountersGet r => r.wf
  | .relayPieceSend => true
  | .relayPieceRx f _ _ => f.wf
  | .relayNeedRx f => f.wf
  | .relayDoneRx f => f.wf
  | .relayRoundEnd => true
  | .canFrameRx n word _ _ data _ _ => decide (n < 2 ∧ word < 2 ^ 32 ∧ data.length ≤ 64)
  | .canFrameAcked n _ _ => decide (n < 2)
  | .canBusError n _ _ err _ _ => decide (n < 2 ∧ err ≤ 6)
  | .canBusoffDelayEnd n _ => decide (n < 2)
  | .canBusoffRecovered n => decide (n < 2)
  | .canSignalPeriod n mailbox _ => decide (n < 2 ∧ mailbox < 64)
  | .canSignalTimeout sig _ => decide (sig < 256)
  | .canLockTimeout n box _ => decide (n < 2 ∧ box ≤ 64)
  | .canRateTryEnd n _ => decide (n < 2)
  | .canTimeSyncSend n _ => decide (n < 2)
  | .canTimeFollowSend n _ => decide (n < 2)
  | .canTimeHoldover n _ => decide (n < 2)
  | .canSendTimeout ctx tag _ => decide (ctx < 512 ∧ tag < 65536)
  | .canMbWord0Read n box _ => decide (n < 2 ∧ box ≤ 64)
  | .canMbWord19Read n box _ => decide (n < 2 ∧ box ≤ 64)
  | .canStatusGet r => r.wf
  | .canMapLoad r => r.wf
  | .canMapGet r => r.wf
  | .canSignalsGet r => r.wf
  | .canSend r => r.wf
  | .canRateDetect r => r.wf
  | .canRestart r => r.wf
  | .canCountersGet r => r.wf
  | .svcWriteTransfer _ _ => true
  | .svcReadTransfer _ _ => true
  | .svcWinDataRead n => decide (1 ≤ n ∧ n ≤ 8)
  | .svcBusStuck => true
  | .svcBusRecovered => true
  | .svcNotify _ outcome => decide (outcome < 4)
  | .svcNotifyRetry _ outcome => decide (outcome < 4)
  | .beamSnapshotStart _ => true
  | .freezeCaptureEnd => true
  | .freezeSlotWritten => true
  | .replayPassEnd _ _ _ _ => true
  | .replayEnd result => decide (1 ≤ result ∧ result ≤ 9)
  | .cloStatusGet r => r.wf
  | .cloFreeze r => r.wf
  | .cloSlotsGet r => r.wf
  | .cloSlotExport r => r.wf
  | .cloSlotRelease r => r.wf
  | .cloSlotErase r => r.wf
  | .repStart r => r.wf
  | .repStatusGet r => r.wf
  | .repAbort r => r.wf
  | .repCellsGet r => r.wf
  | .boltSecond => true
  | .boltFlushDue _ _ => true
  | .boltFlushWritten => true
  | .boltStampHoldEnd code => decide (code < 1024)
  | .boltFlushDeferEnd => true
  | .bltRead r => r.wf
  | .bltExport r => r.wf
  | .bltFlushNow r => r.wf
  | .bltCellReset r => r.wf
  | .updStatusGet r => r.wf
  | .updBegin r => r.wf
  | .updPiece r => r.wf
  | .updMissingGet r => r.wf
  | .updVerify r => r.wf
  | .updVerifyComplete _ => true
  | .updSchedule r => r.wf
  | .updActivate r => r.wf
  | .updCancel r => r.wf
  | .updDiscard r => r.wf
  | .updRelay r => r.wf
  | .updKeyRevoke r => r.wf
  | .supplyLost _ => true
  | .supplyRestored _ _ => true
  | .holdupExhausted => true
  | .hkRound _ rails _ => decide (rails.length = 11)
  | .hkStatusGet r => r.wf
  | .hkRailsGet r => r.wf
  | .calGet r => r.wf
  | .restoreFactoryCal r => r.wf
  | .hkCountersGet r => r.wf
  | .sealContactChange lane _ => decide (lane < 2)
  | .fuseBurnComplete _ => true
  | .enumReplyTimeout chain port addr => decide (chain < 16 ∧ port < 2 ∧ addr ≤ 32)

end Sys2Proof
end

