-- ==== Sys2Proof/Safety.lean ====
section
/-! DEFINITION. Safety.lean: the words the claims are made of: that a command completes, what leaves the state alone, which
counters and events it counts, what the host is answered, and the invariants of the block. -/
namespace Sys2Proof.Machine

/-! ### Completion -/

/-- The command takes effect: `exec` answers a next state whose queue is as it was, and `P` holds of the module then. -/
def Does (i : Instr) (s : State) (P : Module → Prop) : Prop :=
  ∃ t : State, exec i s = .next t ∧ t.pending = s.pending ∧ P t.m

/-! ### Frames -/

/-- The parts of the module, one per field of `Module`. -/
inductive Block where
  | sys | cmd | set | bulk | evt | ang | pck | wrp | est | lrn | wft | com | slv | tmp | drf | can | rng | clo | rep
  | blt | svc | upd | hk | cnt | out | free
deriving DecidableEq, Repr

/-- A part of the module is as it was. -/
def Module.Same (m m' : Module) : Block → Prop
  | .sys => m'.sys = m.sys
  | .cmd => m'.cmd = m.cmd
  | .set => m'.set = m.set
  | .bulk => m'.bulk = m.bulk
  | .evt => m'.evt = m.evt
  | .ang => m'.ang = m.ang
  | .pck => m'.pck = m.pck
  | .wrp => m'.wrp = m.wrp
  | .est => m'.est = m.est
  | .lrn => m'.lrn = m.lrn
  | .wft => m'.wft = m.wft
  | .com => m'.com = m.com
  | .slv => m'.slv = m.slv
  | .tmp => m'.tmp = m.tmp
  | .drf => m'.drf = m.drf
  | .can => m'.can = m.can
  | .rng => m'.rng = m.rng
  | .clo => m'.clo = m.clo
  | .rep => m'.rep = m.rep
  | .blt => m'.blt = m.blt
  | .svc => m'.svc = m.svc
  | .upd => m'.upd = m.upd
  | .hk => m'.hk = m.hk
  | .cnt => m'.cnt = m.cnt
  | .out => m'.out = m.out
  | .free => m'.free = m.free

/-- Nothing but the named parts changes. -/
def OnlyIn (bs : List Block) (m m' : Module) : Prop := ∀ b, b ∉ bs → m.Same m' b

/-- The parts that raising an event touches: counters, EVT registers, waiting records of the contexts, notify causes of the
service port and the bolt's counters. -/
def evtBlocks : List Block := [.cnt, .evt, .cmd, .svc, .blt]

/-- The parts that a request touches when its command changes nothing: the clock, the command interpreter, the replies sent
and, in a context that is not open, a free reply number. -/
def replyBlocks : List Block := [.sys, .cmd, .out, .free]

/-! ### Counters and events -/

/-- EVT_CNTe's place in the register space (R532). -/
def evtCnt (e : Nat) : Nat := 0x031000 + 4 * e

/-- Exactly the events of `es` are raised, in that order: each counts in its EVT_CNTe (saturating), sets its bit of
EVT_RAISED, and the last one is EVT_LAST (R532). -/
def Raises (es : List Nat) (m m' : Module) : Prop :=
  (∀ e < 512, m'.counter (evtCnt e) = if e ∈ es then satU32 (m.counter (evtCnt e) + es.count e) else m.counter (evtCnt e))
    ∧ m'.evt.raised = es.foldl (fun v e => v ||| 2 ^ e) m.evt.raised
    ∧ m'.evt.last = es.getLastD m.evt.last

/-- No event is raised: the event counters and registers stand as they were. -/
abbrev Quiet (m m' : Module) : Prop := Raises [] m m'

/-- Of the counters in the register space, only those listed change, the event counters aside, which `Raises` speaks of, and
the bolt's count of held LAST updates, which any event may count (R654). -/
def CountsOnly (offs : List Nat) (m m' : Module) : Prop :=
  ∀ off, off ∉ offs → ¬(0x031000 ≤ off ∧ off < 0x031800) → off ≠ 0x0C002C → m'.counter off = m.counter off

/-- The commands the module holds, as they were: outstanding commands, deliveries through the bulk window, and the loads. -/
def SameCommands (m m' : Module) : Prop :=
  m'.cmd.outst = m.cmd.outst ∧ m'.cmd.bulkOut = m.cmd.bulkOut ∧ m'.cmd.nextId = m.cmd.nextId ∧
    m'.cmd.loadLast = m.cmd.loadLast ∧ m'.cmd.loadMax = m.cmd.loadMax

/-! ### Requests -/

/-- A request the interpreter takes up (R493, R494, R498, R499, R501): the module has an authentic image and an address of
its own, the request's MAC is as its context asks, its SEQUENCE is new, its TAG is not outstanding, no queue is full and no
activation has begun. -/
structure Admitted (op : Nat) (r : Req) (m : Module) : Prop where
  hears : m.deaf = false
  mac : m.wantTrailer op r = r.trailer
  seq : ∀ c, m.ctx? r.ctx = some c → c.highSeq < r.seq
  tag : ∀ o ∈ m.cmd.outst, ¬ (o.ctx = r.ctx ∧ o.tag = r.tag ∧ o.live = true)
  queue : m.queueRefusal op r = none
  running : m.upd.state ≠ .activating

/-- The context as a request that is taken up leaves it (R494, R496). -/
def Ctx.taken (clock seq : Nat) (c : Ctx) : Ctx := { c with macFails := 0, lastReq := clock, highSeq := seq }

/-- The module as the command's own rules find it: the clock at the request, the context's numbers, the next command
number. -/
def Module.taken (r : Req) (m : Module) : Module :=
  (match m.ctx? r.ctx with
    | some c => (m.tick r.t).putCtx r.ctx (some (c.taken (max m.sys.clock r.t) r.seq))
    | none => m.tick r.t).onCmd fun d => { d with nextId := d.nextId + 1 }

/-- Exactly one reply leaves the module: a final one to the request, with this status and payload (R487). -/
def Replies (op : Nat) (r : Req) (st : Status) (payload : Bytes) (m m' : Module) : Prop :=
  ∃ rep : Reply, m'.out = .reply r.ctx rep :: m.out ∧ rep.tag = r.tag ∧ rep.opcode = op ∧ rep.status = st ∧
    rep.more = false ∧ rep.payload = payload

/-- The request is answered with ACCEPTED and its command is held as outstanding (R500). -/
def Accepts (op : Nat) (r : Req) (m m' : Module) : Prop :=
  (∃ rep : Reply, m'.out = .reply r.ctx rep :: m.out ∧ rep.tag = r.tag ∧ rep.opcode = op ∧ rep.status = .accepted ∧
    rep.more = true ∧ rep.payload = []) ∧
  (∃ o ∈ m'.cmd.outst, o.id = m.cmd.nextId ∧ o.ctx = r.ctx ∧ o.tag = r.tag ∧
    o.opcode = op ∧ o.seq = r.seq ∧ o.payload = r.payload ∧ o.live = true) ∧
  ∀ x : Outst, x.id ≠ m.cmd.nextId → (x ∈ m'.cmd.outst ↔ x ∈ m.cmd.outst)

/-- Two replies leave the module: ACCEPTED, then the final one (R500). -/
def RepliesLate (op : Nat) (r : Req) (st : Status) (payload : Bytes) (m m' : Module) : Prop :=
  ∃ a rep : Reply, m'.out = .reply r.ctx rep :: .reply r.ctx a :: m.out ∧ a.tag = r.tag ∧ a.opcode = op ∧
    a.status = .accepted ∧ a.more = true ∧ a.payload = [] ∧
    rep.tag = r.tag ∧ rep.opcode = op ∧ rep.status = st ∧ rep.more = false ∧ rep.payload = payload

/-- The command itself changed nothing: only the clock moved on, and of the commands held and the contexts only the
request's own context, in its numbers and its kept replies (R494, R495, R496). -/
def ReadOnly (r : Req) (m m' : Module) : Prop :=
  OnlyIn replyBlocks m m' ∧ m'.sys = { m.sys with clock := max m.sys.clock r.t } ∧
    m'.cmd.outst = m.cmd.outst ∧ m'.cmd.bulkOut = m.cmd.bulkOut ∧
    (∀ c, c ≠ r.ctx → m'.ctx? c = m.ctx? c) ∧ m'.privOf r.ctx = m.privOf r.ctx

/-- The request is taken up, its context has the privilege, and the module is not in BOOT. -/
structure May (op : Nat) (r : Req) (m : Module) (p : Priv) : Prop where
  admitted : Admitted op r m
  priv : m.lacks r.ctx p = false
  boot : m.inBoot = false

/-- A reader: where `ok` holds and the payload fits a reply packet, it completes with DONE and that payload, read with the
clock at the request, and changes nothing. -/
def Reads (i : Instr) (op : Nat) (r : Req) (p : Priv) (ok : Module → Prop) (payload : Module → Bytes) : Prop :=
  ∀ s : State, May op r s.m p → ok s.m → (payload (s.m.taken r)).length ≤ s.m.replyRoom r.ctx →
    Does i s fun m' => Replies op r .done (payload (s.m.taken r)) s.m m' ∧ ReadOnly r s.m m'

/-- A counter reader: it completes with DONE and the counters in order, each a u32, and clears exactly those. -/
def ReadsCounters (i : Instr) (op : Nat) (r : Req) (offs : List Nat) : Prop :=
  ∀ s : State, May op r s.m .observe → r.payload.length = 0 → 4 * offs.length ≤ s.m.replyRoom r.ctx →
    Does i s fun m' => Replies op r .done (offs.flatMap fun o => leBytes 4 (s.m.counter o)) s.m m' ∧
      OnlyIn (.cnt :: replyBlocks) s.m m' ∧ ∀ o, m'.counter o = if o ∈ offs then 0 else s.m.counter o

/-- A request whose effect falls at a later boundary: where `ok` holds it is accepted and held, and nothing else changes. -/
def Waits (i : Instr) (op : Nat) (r : Req) (p : Priv) (ok : Module → Prop) : Prop :=
  ∀ s : State, May op r s.m p → ok s.m → Does i s fun m' => Accepts op r s.m m' ∧ OnlyIn replyBlocks s.m m'

/-- A command that waited ends: its final reply leaves the module, and it is outstanding no more (R500). -/
def Finishes (o : Outst) (st : Status) (m m' : Module) : Prop :=
  (∃ rep : Reply, m'.out = .reply o.ctx rep :: m.out ∧ rep.tag = o.tag ∧ rep.opcode = o.opcode ∧ rep.status = st ∧
    rep.more = false ∧ rep.payload = []) ∧
  ∀ x : Outst, x ∈ m'.cmd.outst ↔ x ∈ m.cmd.outst ∧ x.id ≠ o.id

/-- A command that waits and whose context is still open to hear of it. -/
def Waiting (o : Outst) (m : Module) : Prop := m.outst? o.id = some o ∧ o.live = true

/-- The parts that ending a command may touch: its pages return, and a captured span may take the slot its export read. -/
def finishBlocks : List Block := evtBlocks ++ [.out, .free, .bulk, .clo]

/-- The command's output is held whole and goes out through the bulk window; its final reply comes with the last batch (R526). -/
def Exports (op : Nat) (r : Req) (data : Bytes) (slot : Option Nat) (m m' : Module) : Prop :=
  (∃ b ∈ m'.cmd.bulkOut, b.id = m.cmd.nextId ∧ b.ctx = r.ctx ∧ b.status = .done ∧ b.data = data ∧ b.slot = slot ∧
    b.offset = 0) ∧
  (∃ o ∈ m'.cmd.outst, o.id = m.cmd.nextId ∧ o.ctx = r.ctx ∧ o.tag = r.tag ∧ o.opcode = op ∧ o.live = true) ∧
  (∀ b : BulkOut, b.id ≠ m.cmd.nextId → (b ∈ m'.cmd.bulkOut ↔ b ∈ m.cmd.bulkOut)) ∧ OnlyIn (evtBlocks ++ replyBlocks) m m'

/-! ### The draft engine -/

/-- Task `t` is halted (R464, R465): the engine stops with this cause, task, trap code and code offset, every cycle is
abandoned, and events 320 and 324 count. -/
def TaskHalted (t cause code off : Nat) (m m' : Module) : Prop :=
  m'.drf.state = .stop ∧ m'.drf.stopCause = cause ∧ m'.drf.stopTask = some t ∧ m'.drf.trap = code ∧
    m'.drf.trapOffset = off ∧ m'.sys.draftStopped = true ∧ (∀ k, (m'.task k).state = .idle) ∧
    m'.counter (evtCnt 320) = satU32 (m.counter (evtCnt 320) + 1) ∧
    m'.counter (evtCnt 324) = satU32 (m.counter (evtCnt 324) + 1)

/-! ### The tiles -/

/-- A live tile is declared faulted with this cause (R271 to R273): it has no groups, the other live tiles are as they were,
its cells are not VALID, in the estimator and for every reader, until they start cold on another tile, and event 193 counts. -/
def TileFails (t cause : Nat) (m m' : Module) : Prop :=
  (m'.tile t).state = .fault ∧ (m'.tile t).cause = cause ∧ (m'.tile t).groups = [] ∧
    (∀ u, u ≠ t → (m.tile u).state = .live → m'.tile u = m.tile u) ∧
    (∀ c ∈ m.tileCells t, (m'.cell c).init = false ∧ (m'.cell c).valid = false ∧
      ∀ b ∈ [m'.est.even, m'.est.odd], ∀ x, tabGet none b.cells c = some x → x.flags.testBit 0 = false) ∧
    m'.counter (evtCnt 193) = satU32 (m.counter (evtCnt 193) + 1) ∧
    OnlyIn (finishBlocks ++ [.wft, .est, .rep]) m m'

/-! ### The banks -/

/-- An access to the bank is made and disturbs nothing (R293): its group is neither OFF nor in RETENTION without a wake that
runs; or it is an exchange bank, in no group. -/
def Module.bankUp (n : Nat) (m : Module) : Prop :=
  64 ≤ n ∨ ((m.dom (32 + n / 4)).state ≠ 0 ∧ ((m.dom (32 + n / 4)).state = 2 → (m.dom (32 + n / 4)).dest = some 1))

/-! ### Contexts and settings -/

/-- The parts that closing a context may touch: its transaction rolls back, its pages return, a captured span may take the
slot that an abandoned export read. -/
def closeBlocks : List Block := evtBlocks ++ replyBlocks ++ [.set, .bulk, .clo]

/-- A write of a setting, alone (R513): checked at once; where the checks pass it is accepted and waits for its boundary,
and the window pages its data came from are the module's until its final reply (R524). -/
def asksCommit (op : Nat) (r : Req) (w : Tab (Option Nat)) (b : Tab (Option Bytes)) (pages : List Nat) (m m' : Module) :
    Prop :=
  Accepts op r m m' ∧ m'.set.scalars = m.set.scalars ∧ m'.set.bulk = m.set.bulk ∧ m'.set.gen = m.set.gen ∧
    (∃ t, m'.set.txn = some t ∧ t.owner = r.ctx ∧ t.single = true ∧ t.writes = w ∧ t.bulk = b ∧
      t.committing = some m.cmd.nextId) ∧
    (∀ p, m'.pageOwner p = if p ∈ pages then .command m.cmd.nextId else m.pageOwner p) ∧ m'.bulk.mem = m.bulk.mem ∧
    m'.bulk.pages = m.bulk.pages ∧ OnlyIn (.set :: .bulk :: replyBlocks) m m'

/-- The effect of a settings write or of a load (R513, R515): into the shadow of the context's own transaction, or a commit
of its own; what is in force does not change yet. -/
def writesSetting (i : Instr) (op : Nat) (r : Req) (s : State) (w : Tab (Option Nat)) (b : Tab (Option Bytes))
    (pages : List Nat) : Prop :=
  (∀ t, s.m.set.txn = some t → t.owner = r.ctx → t.committing = none → Does i s fun m' =>
    Replies op r .done [] s.m m' ∧ m'.set.scalars = s.m.set.scalars ∧ m'.set.bulk = s.m.set.bulk ∧
    (∃ t', m'.set.txn = some t' ∧ t'.owner = t.owner ∧ t'.committing = none ∧ t'.last = max s.m.sys.clock r.t ∧
      t'.writes = w.foldl (fun x p => tabPut none x p.1 p.2) t.writes ∧
      t'.bulk = b.foldl (fun x p => tabPut none x p.1 p.2) t.bulk) ∧ OnlyIn (.set :: replyBlocks) s.m m') ∧
  (∀ t, s.m.set.txn = some t → t.owner ≠ r.ctx → Does i s fun m' =>
    Replies op r .txnConflict [] s.m m' ∧ ReadOnly r s.m m') ∧
  (s.m.set.txn = none →
    (s.m.taken r).commitRefusal { owner := r.ctx, single := true, gen0 := s.m.set.gen, writes := w, bulk := b } = none →
    Does i s fun m' => asksCommit op r w b pages s.m m') ∧
  (∀ st id, s.m.set.txn = none →
    (s.m.taken r).commitRefusal { owner := r.ctx, single := true, gen0 := s.m.set.gen, writes := w, bulk := b }
      = some (st, id) →
    Does i s fun m' => Replies op r st [] s.m m' ∧ Raises [491] s.m m' ∧ OnlyIn (evtBlocks ++ replyBlocks) s.m m')

/-! ### The angle unit -/

/-- Nothing of the sources waits to be judged: a source drives the angles, and no force waits (R73, R94). -/
def settled (m : Module) : Prop := m.ang.state ≠ .acquiring ∧ m.ang.state ≠ .holdover ∧ m.ang.waitForce = none

/-! ### The warp chains -/

/-- A chain in a new state other than BROKEN (R129): the change is to be shown at the next pick boundary, and no device is
skewed (R133). -/
def Chain.moved (st : ChainState) (c : Chain) : Chain := { c with state := st, changes := c.changes + 1, skewWide := 0 }

/-- What ends TRAINING (R124): addresses are cleared on both ports and ENUM goes out from Wn-A; latest first. -/
def enumFrames (n : Nat) : List Out :=
  [.warp n 0 (enumBody 0 0x01), .warp n 1 (cfgWrite 0x3F 0 0), .warp n 0 (cfgWrite 0x3F 0 0)]

/-- Only chain `n` of the warp engine changes. -/
def onlyChain (n : Nat) (m m' : Module) : Prop := ∀ k, k ≠ n → m'.chain k = m.chain k

/-! ### The selvedge -/

/-- A lane is declared FAILED with a cause (R326, R327): it votes on nothing, voting goes from TWO_OF_THREE to ONE_OF_TWO with
the degraded timer at 0, from there to NONE, events 130 and 131 are raised, and the other lanes stand as they were. -/
def LaneFails (i cause : Nat) (m m' : Module) : Prop :=
  (m'.lane i).state = .failed ∧ (m'.lane i).cause = cause ∧ (m'.lane i).votes = 0 ∧ (m'.lane i).latch = false ∧
  (m.slv.voting = 1 → m'.slv.voting = 2 ∧ m'.slv.degraded = 0) ∧
  (m.slv.voting = 2 → m'.slv.voting = 0 ∧ m'.sys.lanesSeen = true) ∧
  m'.counter (evtCnt 130) = satU32 (m.counter (evtCnt 130) + 1) ∧
  (m.slv.voting = 1 ∨ m.slv.voting = 2 → m'.counter (evtCnt 131) = satU32 (m.counter (evtCnt 131) + 1)) ∧
  (∀ j < 3, j ≠ i → (m'.lane j).state = (m.lane j).state ∧ (m'.lane j).votes = (m.lane j).votes) ∧
  OnlyIn (evtBlocks ++ [.slv, .sys]) m m'

/-- The fault of a code is held for an output (R331). -/
def Out1.holds (code : Nat) (o : Out1) : Bool :=
  if code ≤ 4 then o.stuck.testBit code else if code = 5 then o.ovr else o.openLoad

/-- An output takes a fault (R328, R331): it is held and the output goes off with its requests cleared; event 133. -/
def OutFaults (x code : Nat) (m m' : Module) : Prop :=
  (m'.sout x).holds code = true ∧ m'.soReq x = false ∧ m'.slv.on.testBit x = false ∧
  m'.counter (evtCnt 133) = satU32 (m.counter (evtCnt 133) + 1) ∧
  (∀ y, y ≠ x → m'.sout y = m.sout y)

/-! ### The shuttle ring -/

/-- A frame that this module takes (R538 to R540, R564): intact, of a type and class, of the HEAD_EPOCH in force, from another
module, to this one or to all, on a port that carries it. -/
structure Hears (type : Nat) (f : RFrame) (m : Module) : Prop where
  header : f.hcrcOk = true
  data : f.crcOk = true
  kind : f.type = type
  class0 : f.flags % 2 = 0
  other : f.serial ≠ m.sys.serial
  epoch : f.epoch = m.rng.epoch
  dest : f.dst = m.rng.addr ∨ f.dst = 0xFF
  carries : m.portShut f = false

/-- A message in one frame (R538). -/
def wholeMsg (f : RFrame) : Prop := f.flags.testBit 3 = true ∧ f.flags.testBit 4 = true ∧ f.frag = 0

/-- The arbiter opens a claim round (R561): an epoch above every one seen, CLAIM_OPEN, and the first phase of the probe. -/
def RoundOpens (m m' : Module) : Prop :=
  m'.rng.arb = .probe ∧ m'.rng.drive = 1 ∧ m'.rng.claims = [] ∧
    m'.rng.arbEpoch = (1 + max m.rng.arbEpoch (max m.rng.epoch m.rng.epochSeen)) % 65536 ∧
    (m.portUp 0 = true → ∃ f, m'.out = .ring 0 f :: m.out ∧ f.type = 0x09 ∧ field f.payload 0 2 = m'.rng.arbEpoch) ∧
    OnlyIn [.rng, .out, .sys] m m'

/-- The module is head no more (R565): HEAD_HOLD released, the grant latch cleared, and event 399. -/
def HeadEnds (m m' : Module) : Prop :=
  m'.rng = { m.rng with
      head := .holdoff, holdOut := false, latch := false, releasing := false, arpLeft := 0, headAddr := none } ∧
    Raises [399] m m' ∧ OnlyIn (evtBlocks ++ [.rng, .sys]) m m'

/-! ### The service port -/

/-- The module tries to send its notification (R621 to R624): withdrawn where no selected cause is left; sent with the causes
and a new sequence number (`outcome` 0); else tried again, up to SVC_NOTIFY_RETRIES times, a lost arbitration (`outcome` 2) counted. -/
def Notifies (t outcome : Nat) (m m' : Module) : Prop :=
  (m.svc.cause &&& m.setting 0x0B81 = 0 → m'.svc = { m.svc with pending := false, attempts := 0 } ∧ m'.out = m.out ∧
    OnlyIn [.svc, .sys] m m') ∧
  (m.svc.cause &&& m.setting 0x0B81 ≠ 0 →
    (outcome = 0 →
      m'.svc = { m.svc with seq := (m.svc.seq + 1) % 256, pending := false, failed := false, attempts := 0, sentAt := some t } ∧
      m'.out = .svc [BitVec.ofNat 8 m.svcAddr, BitVec.ofNat 8 (m.svc.cause &&& m.setting 0x0B81),
        BitVec.ofNat 8 ((m.svc.seq + 1) % 256)] :: m.out ∧
      m'.counter 0x0F001C = satU32 (m.counter 0x0F001C + 1) ∧ CountsOnly [0x0F001C] m m' ∧
      OnlyIn [.svc, .cnt, .out, .sys] m m') ∧
    (outcome ≠ 0 → m.svc.attempts + 1 ≤ m.setting 0x0B83 → m'.svc = { m.svc with attempts := m.svc.attempts + 1 } ∧
      (∀ k, m'.counter k = if k = 0x0F0024 ∧ outcome ≠ 1 then satU32 (m.counter k + 1) else m.counter k) ∧
      OnlyIn [.svc, .cnt, .sys] m m') ∧
    (outcome ≠ 0 → m.setting 0x0B83 < m.svc.attempts + 1 →
      m'.svc = { m.svc with pending := false, failed := true, attempts := 0 } ∧
      m'.counter 0x0F0020 = satU32 (m.counter 0x0F0020 + 1) ∧ CountsOnly [0x0F0020, 0x0F0024] m m' ∧
      OnlyIn [.svc, .cnt, .sys] m m'))

/-! ### Reset, requests and runs -/

/-- Registers with a fixed value after power-on reset, from the chapters' register tables (R19): first offset, stride, how
many, and the value. BNK_OWNn for n up to 63, whose value depends on n, is stated apart. -/
def resetTable : List (Nat × Nat × Nat × Nat) :=
  [(0x000100, 0x4, 1, 0x700), (0x000104, 0x4, 1, 0x0), (0x000108, 0x4, 1, 0xD), (0x000110, 0x4, 1, 0x0),
   (0x040020, 0x4, 1, 0x0), (0x040040, 0x4, 1, 0x0), (0x040050, 0x4, 7, 0x0), (0x050004, 0x4, 1, 0x0),
   (0x050020, 0x4, 2, 0x0), (0x060008, 0x4, 2, 0x0), (0x060100, 0x40, 16, 0x3F3F00), (0x06010C, 0x40, 16, 0x0),
   (0x060110, 0x40, 16, 0x0), (0x060118, 0x40, 16, 0x0), (0x060120, 0x40, 16, 0x0), (0x060124, 0x40, 16, 0x0),
   (0x060128, 0x40, 16, 0x0), (0x06012C, 0x40, 16, 0x0), (0x060130, 0x40, 16, 0x0), (0x070000, 0x4, 5, 0x0),
   (0x070018, 0x4, 4, 0x0), (0x070100, 0x10, 32, 0x0), (0x07010C, 0x10, 32, 0x0), (0x020100, 0x4, 2, 0x20202020),
   (0x020108, 0x4, 1, 0x24240000), (0x02010C, 0x4, 1, 0x2323), (0x020120, 0x4, 2, 0x0), (0x020200, 0x4, 38, 0x0),
   (0x020300, 0x4, 6, 0x0), (0x010000, 0x4, 52, 0x0), (0x010100, 0x4, 2, 0x0), (0x010110, 0x4, 1, 0x0),
   (0x080000, 0x4, 5, 0x0), (0x080014, 0x4, 1, 0xFFFF), (0x080018, 0x4, 1, 0x0), (0x080020, 0x4, 3, 0x0),
   (0x080030, 0x4, 6, 0x0), (0x080080, 0x4, 24, 0x0), (0x0800F0, 0x4, 5, 0x0), (0x08021C, 0x4, 2, 0x0)] ++
  [(0x090000, 0x4, 1, 0x0), (0x090008, 0x4, 1, 0x0), (0x090014, 0x4, 6, 0x0), (0x090100, 0x4, 64, 0x0),
   (0x091000, 0x10, 256, 0x0), (0x091004, 0x10, 256, 0x0), (0x091008, 0x10, 256, 0x0), (0x09100C, 0x10, 256, 0x0),
   (0x092000, 0x20, 16, 0x0), (0x092004, 0x20, 16, 0x0), (0x092008, 0x20, 16, 0x0), (0x09200C, 0x20, 16, 0x0),
   (0x092010, 0x20, 16, 0x0), (0x092014, 0x20, 16, 0x0), (0x0A0000, 0x4, 1, 0x0), (0x0A000C, 0x4, 1, 0x0),
   (0x0A0018, 0x4, 4, 0x0), (0x0A0100, 0x10, 32, 0x0), (0x0A0104, 0x10, 32, 0x0), (0x0A0108, 0x10, 32, 0x0),
   (0x0A010C, 0x10, 32, 0x0), (0x000200, 0x4, 4, 0x0), (0x000220, 0x4, 9, 0x0), (0x030000, 0x4, 1, 0x0),
   (0x030100, 0x4, 16, 0x0), (0x031000, 0x4, 512, 0x0), (0x0D0004, 0x4, 8, 0x0), (0x0D0028, 0x4, 1, 0x0),
   (0x0D002C, 0x4, 1, 0xFFFFFFFF), (0x0D0040, 0x4, 7, 0x0), (0x0E0004, 0x4, 6, 0x0), (0x0E0020, 0x4, 8, 0x0),
   (0x0E0800, 0x4, 1, 0x0), (0x0E1000, 0x80, 64, 0x0), (0x0F0004, 0x4, 1, 0x0), (0x0F0010, 0x4, 6, 0x0),
   (0x0B0000, 0x4, 1, 0x0), (0x0B0024, 0x4, 1, 0x0), (0x0B0080, 0x4, 4, 0x0), (0x0B8000, 0x4, 2, 0x0)] ++
  [(0x0B800C, 0x4, 1, 0x0), (0x0B8014, 0x4, 1, 0xFFFFFFFF), (0x0B8018, 0x4, 1, 0x0), (0x0C0000, 0x4, 1, 0x0),
   (0x0C0020, 0x4, 4, 0x0), (0x100020, 0x4, 1, 0x0), (0x100030, 0x4, 1, 0x0), (0x100040, 0x4, 4, 0x0),
   (0x110000, 0x4, 1, 0x0), (0x11000C, 0x4, 1, 0x0), (0x110060, 0x4, 5, 0x0), (0x0E8004, 0x4, 6, 0x0),
   (0x0E8020, 0x4, 8, 0x0), (0x0E8800, 0x4, 1, 0x0), (0x0E9000, 0x80, 64, 0x0)]

/-- The request that a command of the table carries, with its opcode; none where the command is not a request. -/
def reqOf : Instr → Option (Nat × Req)
  | .badOpcode op r => some (op, r)
  | .modeGet r => some (0x0010, r)
  | .modeRequest r => some (0x0011, r)
  | .safeholdReset r => some (0x0012, r)
  | .angleStatusGet r => some (0x0900, r)
  | .angleSourceForce r => some (0x0901, r)
  | .angleCountersGet r => some (0x0902, r)
  | .gridIndexAt r => some (0x0903, r)
  | .timeGet r => some (0x0904, r)
  | .warpStatusGet r => some (0x0200, r)
  | .warpRosterGet r => some (0x0201, r)
  | .warpRosterAccept r => some (0x0202, r)
  | .warpReenumerate r => some (0x0203, r)
  | .balanceSet r => some (0x0204, r)
  | .balanceStatusGet r => some (0x0205, r)
  | .warpCountersGet r => some (0x0206, r)
  | .estStatusGet r => some (0x0300, r)
  | .estCellsGet r => some (0x0301, r)
  | .estStringsGet r => some (0x0302, r)
  | .estCellRecordGet r => some (0x0303, r)
  | .estFlagsClear r => some (0x0304, r)
  | .estReinit r => some (0x0305, r)
  | .estPackLoad r => some (0x0306, r)
  | .estPackGet r => some (0x0307, r)
  | .learnStatusGet r => some (0x0310, r)
  | .learnCellsGet r => some (0x0311, r)
  | .learnTableGet r => some (0x0312, r)
  | .learnGradeGet r => some (0x0313, r)
  | .learnRunStatusGet r => some (0x0314, r)
  | .resetLearned r => some (0x0315, r)
  | .learnSuspectClear r => some (0x0316, r)
  | .learnSweepNow r => some (0x0317, r)
  | .wftMapGet r => some (0x0320, r)
  | .safetyStatusGet r => some (0x0400, r)
  | .safetyBlockLoad r => some (0x0401, r)
  | .safetyBlockGet r => some (0x0402, r)
  | .commissionArm r => some (0x0403, r)
  | .safetyDisarm r => some (0x0404, r)
  | .safetyProfilesLoad r => some (0x0405, r)
  | .fuseProgram r => some (0x0406, r)
  | .fuseRead r => some (0x0407, r)
  | .keyProvision r => some (0x0408, r)
  | .keyRetire r => some (0x0409, r)
  | .soRequest r => some (0x040A, r)
  | .dispatchSet r => some (0x0500, r)
  | .dispatchGet r => some (0x0501, r)
  | .tmpSpSet r => some (0x0502, r)
  | .tmpLoopGet r => some (0x0503, r)
  | .tmpLoopLoad r => some (0x0504, r)
  | .tmpLoopTableGet r => some (0x0505, r)
  | .formRecipeLoad r => some (0x0506, r)
  | .formRecipeGet r => some (0x0507, r)
  | .formStart r => some (0x0508, r)
  | .formPause r => some (0x0509, r)
  | .formResume r => some (0x050A, r)
  | .formAbort r => some (0x050B, r)
  | .formStatusGet r => some (0x050C, r)
  | .drfStatusGet r => some (0x0600, r)
  | .drfLoad r => some (0x0601, r)
  | .drfUnload r => some (0x0602, r)
  | .drfStart r => some (0x0603, r)
  | .drfStop r => some (0x0604, r)
  | .drfHold r => some (0x0605, r)
  | .drfResume r => some (0x0606, r)
  | .drfStep r => some (0x0607, r)
  | .drfTasksGet r => some (0x0608, r)
  | .drfVarGet r => some (0x0609, r)
  | .drfVarSet r => some (0x060A, r)
  | .sysIdentGet r => some (0x0000, r)
  | .ctxOpen r => some (0x0001, r)
  | .ctxAuth r => some (0x0002, r)
  | .ctxClose r => some (0x0003, r)
  | .cmdAbort r => some (0x0004, r)
  | .evtSubscribe r => some (0x0005, r)
  | .regRd r => some (0x0120, r)
  | .regWr r => some (0x0121, r)
  | .regRd64 r => some (0x0122, r)
  | .setRead r => some (0x0100, r)
  | .setWrite r => some (0x0101, r)
  | .txnBegin r => some (0x0110, r)
  | .txnCommit r => some (0x0111, r)
  | .txnRollback r => some (0x0112, r)
  | .txnStatusGet r => some (0x0113, r)
  | .bulkStatusGet r => some (0x0A00, r)
  | .bulkGive r => some (0x0A01, r)
  | .bulkReclaim r => some (0x0A02, r)
  | .bulkWrite r => some (0x0A10, r)
  | .bulkRead r => some (0x0A11, r)
  | .ringStatusGet r => some (0x0D00, r)
  | .ringTopologyGet r => some (0x0D01, r)
  | .ringAddrAssign r => some (0x0D02, r)
  | .headRelease r => some (0x0D03, r)
  | .ringCountersGet r => some (0x0D04, r)
  | .canStatusGet r => some (0x0B00, r)
  | .canMapLoad r => some (0x0B01, r)
  | .canMapGet r => some (0x0B02, r)
  | .canSignalsGet r => some (0x0B03, r)
  | .canSend r => some (0x0B04, r)
  | .canRateDetect r => some (0x0B05, r)
  | .canRestart r => some (0x0B06, r)
  | .canCountersGet r => some (0x0B07, r)
  | .cloStatusGet r => some (0x0700, r)
  | .cloFreeze r => some (0x0701, r)
  | .cloSlotsGet r => some (0x0702, r)
  | .cloSlotExport r => some (0x0703, r)
  | .cloSlotRelease r => some (0x0704, r)
  | .cloSlotErase r => some (0x0705, r)
  | .repStart r => some (0x0710, r)
  | .repStatusGet r => some (0x0711, r)
  | .repAbort r => some (0x0712, r)
  | .repCellsGet r => some (0x0713, r)
  | .bltRead r => some (0x0720, r)
  | .bltExport r => some (0x0721, r)
  | .bltFlushNow r => some (0x0722, r)
  | .bltCellReset r => some (0x0723, r)
  | .updStatusGet r => some (0x0800, r)
  | .updBegin r => some (0x0801, r)
  | .updPiece r => some (0x0802, r)
  | .updMissingGet r => some (0x0803, r)
  | .updVerify r => some (0x0804, r)
  | .updSchedule r => some (0x0805, r)
  | .updActivate r => some (0x0806, r)
  | .updCancel r => some (0x0807, r)
  | .updDiscard r => some (0x0808, r)
  | .updRelay r => some (0x0809, r)
  | .updKeyRevoke r => some (0x080A, r)
  | .hkStatusGet r => some (0x0C00, r)
  | .hkRailsGet r => some (0x0C01, r)
  | .calGet r => some (0x0C02, r)
  | .restoreFactoryCal r => some (0x0C03, r)
  | .hkCountersGet r => some (0x0C04, r)
  | _ => none

/-- The module after a command, taken with an empty queue; as it was where the command stops. -/
def Module.after (m : Module) (i : Instr) : Module := match exec i { m := m, pending := [] } with
  | .next t => t.m
  | _ => m

/-- `n` steps one after the other; a step that stops leaves the state. -/
def run : Nat → State → State
  | 0, s => s
  | n + 1, s => match step s with
    | .next t => run n t
    | _ => s

/-! ### Modes -/

/-- What every reset leaves (R19, R30, R677): BOOT, no context, no command outstanding, no transaction, outputs off, an empty
window and no picks; keys, the clock and every fuse that no burn was programming stand as they were. -/
def Restarts (addr : Nat) (m m' : Module) : Prop :=
  m'.sys.mode = .boot ∧ m'.sys.pending = none ∧ m'.cmd.ctxs = [] ∧ m'.cmd.outst = [] ∧ m'.set.txn = none ∧
  m'.bulk.mem = [] ∧ m'.bulk.owner = [] ∧ m'.slv.on = 0 ∧ m'.pck.running = false ∧ m'.com.keys = m.com.keys ∧
  m'.sys.clock = m.sys.clock ∧ m'.svc.addr = addr ∧
  (∀ g, tabGet ({} : Fuse) m'.com.fuses g = match m.com.burn with
    | some b => if b.group = g ∧ g < 8 then { state := .spoiled, value := [] } else tabGet {} m.com.fuses g
    | none => tabGet {} m.com.fuses g)

/-- The mode a pick boundary leaves (R30, R39): SAFE-HOLD on a trip, two failed lanes or a die too hot; STANDBY where the seal
contact opened in DISPATCH or FORMATION; else that of the request that waits, where its row or its reset still allows it. -/
def Module.boundaryMode (m : Module) : Mode :=
  if m.safeCause.isSome then .safeHold
  else if m.sys.sealSeen = true ∧ (m.sys.mode = .dispatch ∨ m.sys.mode = .formation) then .standby
  else match m.sys.pending with
    | none => m.sys.mode
    | some p =>
      if p.reset then
        if m.sys.mode = .safeHold ∧ m.causeCleared = true ∧ m.resetTarget = p.target then p.target else m.sys.mode
      else match m.modeRow p.target with
        | some (_, true) => p.target
        | _ => m.sys.mode

/-- The mode in which a BOOT ends, with its cause, where `bad` lanes failed to load (R30, R46, R371): the armed block is present
unless, in switch mode, the switches do not show its profile. -/
def Module.bootVerdict (bad : Nat) (m : Module) : Mode × Nat :=
  if 2 ≤ bad then (.safeHold, 3)
  else if m.upd.settingsReset then (.commission, 6)
  else if m.com.held.any fun a => !m.switchMode || m.switchesShow a.profile then (.standby, 0)
  else (.commission, 7)

/-- The transitions of R30's table that a pick boundary takes. -/
def modeStep : Mode → Mode → Bool
  | .commission, .standby | .standby, .commission | .standby, .dispatch | .standby, .formation | .dispatch, .standby
  | .formation, .standby | .safeHold, .commission | .safeHold, .standby => true
  | .commission, .safeHold | .standby, .safeHold | .dispatch, .safeHold | .formation, .safeHold => true
  | _, _ => false

/-- The modes in which BOOT may end (R30). -/
def bootEnds : Mode → Bool
  | .commission | .standby | .safeHold => true
  | _ => false

/-! ### Invariants -/

/-- Every command that waits is well formed. -/
def State.QueueWf (s : State) : Prop := ∀ c ∈ s.pending, c.wf = true

/-- The bulk window's bytes are held in canonical form (R522): equal contents are equal data. -/
def State.WindowWf (s : State) : Prop := memWf s.m.bulk.mem = true

end Sys2Proof.Machine
end

