-- ==== Sys2Proof/Certificates/Slice0/Obligations.lean ====
section
/-! DEFINITION. Certificates/Slice0/Obligations.lean: the claims about the module, one definition each. The claims name the
commands they speak of; `Does` says that the command completes, and every claim states its frame with it. Instants and what
leaves the module are as log entries 1 to 5 have them, throughout. -/

section Claims
open Sys2Proof Sys2Proof.Machine

/-! ### The block as a whole -/

/-- A step takes the command at the front of the queue: it is `exec` of that command on the state with the queue's
rest. With an empty queue the block idles (the model's choice: notes/assumptions/1.md). -/
def Obligations.StepTakesFront : Prop :=  (∀ (c : Instr) (s : State), step { s with pending := c :: s.pending } = exec c s) ∧
  (∀ s : State, s.pending = [] → step s = .next s)

/-- Commands are taken first in, first out, none of them ends the run, and what one does depends on the module alone,
never on the queue behind it: after as many steps as commands the queue's rest stands, and the module is the commands'
joint effect. The model's choices in it: log entry 1. -/
def Obligations.QueueRunsInOrder : Prop :=  (∀ (cs rest : List Instr) (m : Module),
    run cs.length { m := m, pending := cs ++ rest } = { m := cs.foldl Module.after m, pending := rest }) ∧
  (∀ (i : Instr) (s : State), exec i s = .next { m := s.m.after i, pending := s.pending })

/-- What power-on reset leaves in the registers (R19): every register with a fixed value reads it. The model's choices
in it: log entry 10. -/
def Obligations.ResetRegisters : Prop :=  (∀ x ∈ resetTable, ∀ i < x.2.2.1, State.reset.m.regPeek (x.1 + x.2.1 * i) = x.2.2.2) ∧
  (∀ n < 64, State.reset.m.regPeek (0x020000 + 4 * n) = 0x3F3F0000 + 0x0101 * (n / 2)) ∧
  State.reset.m.sys.mode = .boot ∧ State.reset.pending = [] ∧ State.reset.m.cmd.ctxs = [] ∧
  State.reset.m.slv.on = 0 ∧ State.reset.QueueWf ∧ State.reset.WindowWf

/-- The invariants that every step keeps: each waiting command is well formed, and the bulk window's bytes stay in
canonical form (R522), so that equal contents are equal data. The model's choices in it: log entry 10. -/
def Obligations.StepsKeepForm : Prop := ∀ s t : State, s.QueueWf → s.WindowWf → step s = .next t → t.QueueWf ∧ t.WindowWf

/-- The module changes mode only as R30's table gives it: at a pick boundary by one of its rows, at the end of BOOT
into one of the three modes it may end in, and by a reset into BOOT. No other command of the table changes the mode.
The model's choices in it: log entries 36 and 37. -/
def Obligations.ModeChangesByTable : Prop := ∀ s t : State, step s = .next t → t.m.sys.mode ≠ s.m.sys.mode →
  ∃ c, s.pending.head? = some c ∧
    (c = .modeTransition ∧ modeStep s.m.sys.mode t.m.sys.mode = true ∨
     (∃ a b l ms at_, c = .bootComplete a b l ms at_) ∧ s.m.sys.mode = .boot ∧ bootEnds t.m.sys.mode = true ∨
     ((∃ addr hold, c = .powerOnReset addr hold) ∨ c = .watchdogReset ∨ c = .holdupExhausted ∨ c = .activationReset) ∧
       t.m.sys.mode = .boot)

/-- A request that fails the checks every packet meets first has no effect of its own, whichever request it is (R493,
R494, R498, R549, R678): it is dropped and counted, answered again from the kept replies, or turned away by a full
queue. The model's choices in it: log entries 11, 12, 15 and 17. -/
def Obligations.DroppedRequests : Prop := ∀ (i : Instr) (op : Nat) (r : Req) (s : State),
  reqOf i = some (op, r) → s.m.outst? s.m.cmd.nextId = none →
  -- no authentic image, or outside local mode no ring address of its own
  (s.m.deaf = true → Does i s fun m' => m' = s.m.tick r.t) ∧
  (s.m.deaf = false →
    -- a trailer that is not what the context asks
    (s.m.wantTrailer op r ≠ r.trailer → (∀ c, s.m.ctx? r.ctx = some c → c.macFails < 7) → Does i s fun m' =>
      m'.out = s.m.out ∧ m'.sys = { s.m.sys with clock := max s.m.sys.clock r.t } ∧ SameCommands s.m m' ∧
      m'.counter 0x000224 = satU32 (s.m.counter 0x000224 + 1) ∧ CountsOnly [0x000224] s.m m' ∧
      m'.counter (evtCnt 483) = satU32 (s.m.counter (evtCnt 483) + 1) ∧ OnlyIn (.sys :: evtBlocks) s.m m') ∧
    (s.m.wantTrailer op r = r.trailer →
      (∀ c, s.m.ctx? r.ctx = some c → r.seq ≤ c.highSeq →
        -- a repeat is answered again; an old number that is no repeat is dropped
        (∀ d, (c.done.find? fun d => d.seq = r.seq && d.tag = r.tag && d.opcode = op) = some d → Does i s fun m' =>
          m'.out = (d.replies.reverse.map fun p => .reply r.ctx p) ++ s.m.out ∧ SameCommands s.m m' ∧
          m'.sys = { s.m.sys with clock := max s.m.sys.clock r.t } ∧ OnlyIn [.sys, .cmd, .out] s.m m') ∧
        ((c.done.find? fun d => d.seq = r.seq && d.tag = r.tag && d.opcode = op) = none → Does i s fun m' =>
          m'.out = s.m.out ∧ SameCommands s.m m' ∧ m'.sys = { s.m.sys with clock := max s.m.sys.clock r.t } ∧
          m'.counter 0x000228 = satU32 (s.m.counter 0x000228 + 1) ∧ CountsOnly [0x000228] s.m m' ∧
          m'.counter (evtCnt 484) = satU32 (s.m.counter (evtCnt 484) + 1) ∧ OnlyIn (.sys :: evtBlocks) s.m m')) ∧
      ((∀ c, s.m.ctx? r.ctx = some c → c.highSeq < r.seq) →
        -- a queue that is full
        ((∀ o ∈ s.m.cmd.outst, ¬(o.ctx = r.ctx ∧ o.tag = r.tag ∧ o.live = true)) → s.m.queueRefusal op r = some .queueFull →
          i ≠ .badOpcode op r → Does i s fun m' => Replies op r .queueFull [] s.m m' ∧ m'.cmd.outst = s.m.cmd.outst ∧
          m'.sys = { s.m.sys with clock := max s.m.sys.clock r.t } ∧
          m'.counter 0x000230 = satU32 (s.m.counter 0x000230 + 1) ∧ CountsOnly [0x000230] s.m m' ∧
          OnlyIn (evtBlocks ++ replyBlocks) s.m m'))))

/-! ### Rules stated word for word -/

/-- DISPATCH and FORMATION exclude each other (R31): a request from one to the other completes with WRONG_MODE and
changes nothing. R43's order of checks gives the premises: the privilege, and no other transition that waits. -/
def Obligations.ModesExcludeEachOther : Prop := ∀ (r : Req) (s : State) (a b : Mode),
  (a = .dispatch ∧ b = .formation ∨ a = .formation ∧ b = .dispatch) → s.m.sys.mode = a →
  Admitted 0x0011 r s.m → r.payload.length = 4 → modeOf (byteAt r.payload 0) = some b → s.m.lacks r.ctx .operate = false →
  s.m.sys.pending = none → Does (.modeRequest r) s fun m' => Replies 0x0011 r .wrongMode [] s.m m' ∧ ReadOnly r s.m m'

/-- A request whose TAG is outstanding in its context (R499): whichever request it is, it is dropped without reply,
counted in SYS_CNT_TAG_DUP, and event 485 is raised. It has met the checks that come before: it is intact, its trailer
is as its context asks, and its SEQUENCE is new. -/
def Obligations.OutstandingTagsDropped : Prop := ∀ (i : Instr) (op : Nat) (r : Req) (s : State),
  reqOf i = some (op, r) → s.m.outst? s.m.cmd.nextId = none → s.m.deaf = false → s.m.wantTrailer op r = r.trailer →
  (∀ c, s.m.ctx? r.ctx = some c → c.highSeq < r.seq) →
  (∃ o ∈ s.m.cmd.outst, o.ctx = r.ctx ∧ o.tag = r.tag ∧ o.live = true) → Does i s fun m' =>
    m'.out = s.m.out ∧ m'.counter 0x00022C = satU32 (s.m.counter 0x00022C + 1) ∧ CountsOnly [0x00022C] s.m m' ∧
    Raises [485] s.m m' ∧ SameCommands s.m m' ∧ m'.sys = { s.m.sys with clock := max s.m.sys.clock r.t } ∧
    OnlyIn (.sys :: evtBlocks) s.m m'

/-- A bus line that stays low while the port takes part in a transfer (R619): the transfer is abandoned with its held
write and latch, the pointer goes to 0x00, SVC_CNT_TIMEOUT counts, and until both lines have been high together for 50
µs the port takes part in no transfer, its STATE reading RECOVERING. -/
def Obligations.ServiceBusRecovery : Prop := ∀ s : State,
  (s.m.svc.state = .target ∨ s.m.svc.state = .controller → Does .svcBusStuck s fun m' =>
    m'.svc = { s.m.svc with state := .recovering, held := [], latches := [], pointer := 0 } ∧
    m'.counter 0x0F0014 = satU32 (s.m.counter 0x0F0014 + 1) ∧ CountsOnly [0x0F0014] s.m m' ∧ OnlyIn [.svc, .cnt] s.m m') ∧
  (s.m.svc.state ≠ .target → s.m.svc.state ≠ .controller → Does .svcBusStuck s fun m' => m' = s.m) ∧
  (s.m.svc.state = .recovering → ∀ (d : List Byte) (n : Nat) (stop : Bool) (i : Instr),
    i = .svcWriteTransfer d stop ∨ i = .svcReadTransfer n stop ∨ i = .svcWinDataRead n → Does i s fun m' => m' = s.m) ∧
  (s.m.svc.state = .recovering → Does .svcBusRecovered s fun m' => m'.svc = { s.m.svc with state := .idle } ∧
    OnlyIn [.svc] s.m m') ∧
  (s.m.svc.state ≠ .recovering → Does .svcBusRecovered s fun m' => m' = s.m)

/-! ### Readers -/

/-- SYS_IDENT_GET, SET_READ, TXN_STATUS_GET, BULK_STATUS_GET and BULK_READ (R512, R519, R523, R525, R529). Mode, angle
and time readers (R41, R48, R92, R93, R95): the payload they answer with, and that they change nothing. Chain readers
(R155, R156, R157): status registers, roster, balancing and the counters that a read clears. The model's choices in
it: log entries 13, 14, 20, 53, 56, 57 and 143. -/
def Obligations.SystemAngleWarpReaders : Prop :=
  (∀ r : Req,
  -- SYS_IDENT_GET needs no privilege, in any mode
  (∀ s : State, Admitted 0x0000 r s.m → r.payload.length = 0 → 24 ≤ s.m.replyRoom r.ctx →
    Does (.sysIdentGet r) s fun m' =>
      Replies 0x0000 r .done (leBytes 8 s.m.sys.serial ++ leBytes 4 s.m.sys.release ++ leBytes 1 s.m.set.format
        ++ leBytes 1 s.m.rng.addr ++ leBytes 1 (bit s.m.isHead) ++ zeros 1 ++ leBytes 4 s.m.set.gen
        ++ leBytes 4 s.m.plantId) s.m m' ∧ ReadOnly r s.m m') ∧
  -- SET_READ of a scalar setting: in force, or its default; of a bulk setting: its bytes
  (∀ p : SetSpec, Reads (.setRead r) 0x0100 r .observe
    (fun _ => r.payload.length = 4 ∧ byteAt r.payload 2 = 0 ∧ setSpec? (field r.payload 0 2) = some p ∧ p.bulk = 0)
    (fun m => leBytes 2 p.id ++ zeros 2 ++ leBytes 4 (m.setting p.id))) ∧
  (∀ p : SetSpec, Reads (.setRead r) 0x0100 r .observe
    (fun _ => r.payload.length = 4 ∧ byteAt r.payload 2 = 2 ∧ setSpec? (field r.payload 0 2) = some p ∧ p.bulk = 0)
    (fun m => leBytes 2 p.id ++ zeros 2 ++ leBytes 4 (m.settingDflt p.id))) ∧
  (∀ p : SetSpec, Reads (.setRead r) 0x0100 r .observe
    (fun _ => r.payload.length = 4 ∧ byteAt r.payload 2 = 0 ∧ setSpec? (field r.payload 0 2) = some p ∧ p.bulk ≠ 0)
    (fun m => leBytes 2 p.id ++ zeros 2 ++ bulkBytes p (tabGet none m.set.bulk p.id))) ∧
  -- the shadow, for the owner of the open transaction
  (∀ (p : SetSpec) (t : Txn), Reads (.setRead r) 0x0100 r .observe
    (fun m => r.payload.length = 4 ∧ byteAt r.payload 2 = 1 ∧ setSpec? (field r.payload 0 2) = some p ∧ p.bulk = 0 ∧
      m.set.txn = some t ∧ t.owner = r.ctx ∧ t.single = false)
    (fun m => leBytes 2 p.id ++ zeros 2 ++ leBytes 4 ((m.withShadow t.writes t.bulk).setting p.id))) ∧
  -- TXN_STATUS_GET with no transaction open, and with one of another context
  Reads (.txnStatusGet r) 0x0113 r .observe (fun m => r.payload.length = 0 ∧ m.set.txn = none) (fun _ => zeros 16) ∧
  (∀ t : Txn, Reads (.txnStatusGet r) 0x0113 r .observe
    (fun m => r.payload.length = 0 ∧ m.set.txn = some t ∧ t.owner ≠ r.ctx)
    (fun m => leBytes 1 1 ++ zeros 1 ++ leBytes 2 t.owner ++ leBytes 2 (satU16 t.ids.length) ++ leBytes 2 (m.txnLeft t)
      ++ leBytes 4 t.gen0 ++ zeros 4)) ∧
  (∀ c : Ctx, Reads (.bulkStatusGet r) 0x0A00 r .observe (fun m => r.payload.length = 0 ∧ m.ctx? r.ctx = some c)
    (fun m => leBytes 2 m.bulk.pages ++ leBytes 2 (m.bulk.pages - m.bulk.owner.length) ++ leBytes 2 m.bulk.owner.length
      ++ leBytes 2 c.given.length ++ zeros 4)) ∧
  Reads (.bulkRead r) 0x0A11 r .observe
    (fun m => r.payload.length = 12 ∧ field r.payload 0 4 < m.bulk.pages ∧ 4 ≤ field r.payload 8 2 ∧
      field r.payload 8 2 ≤ 1024 ∧ field r.payload 4 4 + field r.payload 8 2 ≤ 65536 ∧
      m.pageOwner (field r.payload 0 4) = .host)
    (fun m => (List.range (field r.payload 8 2)).map fun i => m.winByte (field r.payload 0 4 * 65536 + field r.payload 4 4 + i))) ∧
  (∀ r : Req,
  Reads (.modeGet r) 0x0010 r .observe (fun _ => r.payload.length = 0) (fun m => m.modeBytes) ∧
  Reads (.angleStatusGet r) 0x0900 r .observe (fun _ => r.payload.length = 0) (fun m => m.angleStatus) ∧
  Reads (.timeGet r) 0x0904 r .observe (fun _ => r.payload.length = 0)
    (fun m => leBytes 8 m.plantNow ++ leBytes 8 m.pck.index ++ leBytes 8 m.ang.gridIndex) ∧
  -- the present cycle where the treadle angle is 0, else the next, starts `first`; the first to start at or after the
  -- instant named is the k-th from there, at the frequency estimate as it stands
  (∀ k first : Nat, Reads (.gridIndexAt r) 0x0903 r .observe
    (fun m => r.payload.length = 8 ∧ m.rng.plant.isSome ∧ 0 < m.runCycle ∧
      (m.taken r).plantNow ≤ field r.payload 0 8 ∧
      first = (m.taken r).plantNow + (if (m.taken r).angNow.treadle = 0 then 0
        else (fullCycle - (m.taken r).angNow.treadle) * m.runCycle / fullCycle / 4) ∧
      4 * (field r.payload 0 8 - first) ≤ k * m.runCycle ∧
      (∀ j < k, j * m.runCycle < 4 * (field r.payload 0 8 - first)))
    (fun m => leBytes 8 ((m.ang.gridIndex + (if m.angNow.treadle = 0 then k else k + 1)) % 2 ^ 64)
      ++ leBytes 8 (first + k * m.runCycle / 4))) ∧
  ReadsCounters (.angleCountersGet r) 0x0902 r
    [0x040050, 0x040054, 0x040058, 0x04005C, 0x040060, 0x040064, 0x040068]) ∧
  (∀ r : Req,
  Reads (.warpStatusGet r) 0x0200 r .observe (fun _ => r.payload.length = 4 ∧ byteAt r.payload 0 ≤ 15)
    (fun m => (List.range 8).flatMap fun i => leBytes 4 ((m.chainReg (byteAt r.payload 0) (4 * i)).getD 0)) ∧
  Reads (.warpRosterGet r) 0x0201 r .observe (fun _ => r.payload.length = 4 ∧ byteAt r.payload 0 ≤ 15)
    (fun m => (List.range 33).flatMap fun a =>
      let d := (m.chain (byteAt r.payload 0)).dev a
      leBytes 1 (d.type.getD 0) ++ leBytes 1 d.hwRev ++ leBytes 2 d.fw ++ leBytes 1 (bit d.answering) ++ zeros 3 ++ leBytes 8 d.serial) ∧
  Reads (.balanceStatusGet r) 0x0205 r .observe (fun _ => r.payload.length = 4 ∧ byteAt r.payload 0 ≤ 15)
    (fun m => (List.range 32).flatMap fun i =>
      let b := m.balOf (byteAt r.payload 0 * 64 + i + 1)
      leBytes 2 b.mask ++ leBytes 2 b.remaining ++ leBytes 1 (if b.mask = 0 then 0 else b.source)
        ++ leBytes 1 (bit b.hot + 2 * bit b.watchdog) ++ zeros 2) ∧
  ReadsCounters (.warpCountersGet r) 0x0206 r
    ((List.range 16).flatMap fun n => (List.range 4).map fun i => 0x060120 + 0x40 * n + 4 * i))

/-- Readers of the estimator, the learned data and the weft array (R203, R214, R215, R257, R299). Safety and fuse
readers (R364, R367, R388, R351): the status block, the parameter block named, the value of a fuse. Readers of the
loops, recipes, dispatch and the draft program (R436 to R439, R476). The model's choices in it: log entries 13, 69,
71, 74, 153 and 154. -/
def Obligations.EstimatorLoopReaders : Prop :=
  (∀ r : Req,
  Reads (.estStatusGet r) 0x0300 r .observe (fun _ => r.payload.length = 0) (fun m => m.estStatus) ∧
  -- output records stand in the tiles' banks 2t + 1: where the group of each is powered, the records of the latest step
  Reads (.estCellsGet r) 0x0301 r .observe
    (fun m => r.payload.length = 4 ∧ m.cellRange (field r.payload 0 2) (field r.payload 2 2) = true ∧
      ∀ p ∈ m.cellTiles, m.bankUp (2 * p.2 + 1))
    (fun m => (List.range (field r.payload 2 2)).flatMap fun i => m.cellOut (field r.payload 0 2 + i)) ∧
  -- a bank whose group is OFF: the read is dropped, counted and reported, and reads zeros (R292, R293)
  (∀ (s : State) (p : Nat × Nat), May 0x0301 r s.m .observe → r.payload.length = 4 → field r.payload 2 2 = 1 →
    s.m.cellRange (field r.payload 0 2) 1 = true → (s.m.cellTiles.find? (·.1 = field r.payload 0 2)) = some p → p.2 < 32 →
    (s.m.dom (32 + (2 * p.2 + 1) / 4)).state = 0 → 32 ≤ s.m.replyRoom r.ctx →
    Does (.estCellsGet r) s fun m' => ∃ rep : Reply, m'.out = .reply r.ctx rep :: .bankError (2 * p.2 + 1) :: s.m.out ∧
      rep.tag = r.tag ∧ rep.status = .done ∧ rep.payload = zeros 32 ∧ Raises [203] s.m m' ∧
      m'.counter 0x020304 = satU32 (s.m.counter 0x020304 + 1) ∧ CountsOnly [0x020304] s.m m' ∧
      OnlyIn (evtBlocks ++ replyBlocks) s.m m') ∧
  Reads (.estStringsGet r) 0x0302 r .observe (fun _ => r.payload.length = 4)
    (fun m => (maskList 16 (field r.payload 0 2)).flatMap fun n => (m.aggBytes.drop (48 * n)).take 48) ∧
  (∀ d : Bytes, Reads (.estPackGet r) 0x0307 r .observe
    (fun m => r.payload.length = 4 ∧ byteAt r.payload 0 < 4 ∧ m.slotPack (byteAt r.payload 0) = some d)
    (fun _ => d)) ∧
  Reads (.learnStatusGet r) 0x0310 r .observe (fun _ => r.payload.length = 0) (fun m => m.learnStatus) ∧
  Reads (.learnCellsGet r) 0x0311 r .observe
    (fun m => r.payload.length = 4 ∧ m.cellRange (field r.payload 0 2) (field r.payload 2 2) = true)
    (fun m => (List.range (field r.payload 2 2)).flatMap fun i => m.learnEntry (field r.payload 0 2 + i)) ∧
  Reads (.learnTableGet r) 0x0312 r .observe
    (fun m => r.payload.length = 4 ∧ m.cellRange (field r.payload 0 2) 1 = true ∧ ∀ p ∈ m.cellTiles, m.bankUp (2 * p.2 + 1))
    (fun m => (List.range 192).flatMap (fun i => leBytes 2 (tabGet 0xFFFF (m.learn (field r.payload 0 2)).imp i))
      ++ (List.range 48).flatMap (fun i => leBytes 1 (tabGet 0 (m.learn (field r.payload 0 2)).binN i))) ∧
  Reads (.learnGradeGet r) 0x0313 r .observe
    (fun m => r.payload.length = 4 ∧ m.cellRange (field r.payload 0 2) (field r.payload 2 2) = true)
    (fun m => (List.range (field r.payload 2 2)).flatMap fun i =>
      (tabGet none m.est.grade (field r.payload 0 2 + i)).getD (noGrade (field r.payload 0 2 + i))) ∧
  Reads (.learnRunStatusGet r) 0x0314 r .observe (fun _ => r.payload.length = 4)
    (fun m => (maskList 16 (field r.payload 0 2)).flatMap fun n => m.runEntry n) ∧
  Reads (.wftMapGet r) 0x0320 r .observe (fun _ => r.payload.length = 0) (fun m => m.wftMap) ∧
  -- EST_CELL_RECORD_GET alone has an effect: it clears the cell's DIVERGED flag (R203, R214)
  (∀ s : State, May 0x0303 r s.m .engineer → r.payload.length = 4 → s.m.cellRange (field r.payload 0 2) 1 = true →
    (∀ p ∈ s.m.cellTiles, s.m.bankUp (2 * p.2)) → ((s.m.taken r).cellRecord (field r.payload 0 2)).length ≤ s.m.replyRoom r.ctx →
    Does (.estCellRecordGet r) s fun m' =>
      Replies 0x0303 r .done ((s.m.taken r).cellRecord (field r.payload 0 2)) s.m m' ∧ OnlyIn (.est :: replyBlocks) s.m m' ∧
      m'.cell (field r.payload 0 2) =
        { s.m.cell (field r.payload 0 2) with flags := setFlag 11 false (s.m.cell (field r.payload 0 2)).flags } ∧
      (∀ c, c ≠ field r.payload 0 2 → m'.cell c = s.m.cell c))) ∧
  (∀ r : Req,
  Reads (.safetyStatusGet r) 0x0400 r .observe (fun _ => r.payload.length = 0) (fun m => m.safetyStatus) ∧
  (∀ b : Bytes, Reads (.safetyBlockGet r) 0x0402 r .observe
    (fun m => r.payload.length = 4 ∧ byteAt r.payload 1 ≤ 15 ∧
      ((byteAt r.payload 0 = 0 ∧ m.block = some b) ∨ (byteAt r.payload 0 = 1 ∧ m.com.staged = some b) ∨
        (byteAt r.payload 0 = 2 ∧ m.profile (byteAt r.payload 1) = b ∧ profileEmpty b = false ∧ b.length = 512)))
    (fun _ => b)) ∧
  Reads (.fuseRead r) 0x0407 r .observe (fun _ => r.payload.length = 4 ∧ byteAt r.payload 0 < 8)
    (fun m => (m.fuse? (byteAt r.payload 0)).getD (zeros (fuseLen (byteAt r.payload 0))))) ∧
  (∀ r : Req,
  Reads (.dispatchGet r) 0x0501 r .observe (fun _ => r.payload.length = 0)
    (fun m => leBytes 4 (ofInt 32 m.tmp.pSet) ++ leBytes 4 (powerField m.tmp.pAlloc) ++ leBytes 4 (powerField m.tmp.short) ++ zeros 4
      ++ leBytes 8 m.tmp.allocPick ++ (List.range 16).flatMap fun n => m.dispEntry n) ∧
  Reads (.tmpLoopGet r) 0x0503 r .observe (fun _ => r.payload.length = 4)
    (fun m =>
      let x := m.loop (byteAt r.payload 0)
      leBytes 4 (m.loopStateReg (byteAt r.payload 0)) ++ leBytes 8 x.tickPick ++
        ([x.req, x.rr, x.r, x.raw, x.y, x.p, x.i, x.d, x.computed, x.applied, x.lo, x.hi].flatMap fBytes) ++ zeros 4) ∧
  Reads (.tmpLoopTableGet r) 0x0505 r .observe (fun _ => r.payload.length = 0) (fun m => m.loopBytes) ∧
  Reads (.formRecipeGet r) 0x0507 r .observe (fun _ => r.payload.length = 4 ∧ byteAt r.payload 0 ≤ 15)
    (fun m => (m.recipe (byteAt r.payload 0)).getD (zeros 2080)) ∧
  Reads (.formStatusGet r) 0x050C r .observe
    (fun m => r.payload.length = 4 ∧ ∀ n ∈ maskList 16 (field r.payload 0 2), m.chainEnabled n = true)
    (fun m => (maskList 16 (field r.payload 0 2)).flatMap fun n => m.formEntry n) ∧
  Reads (.drfStatusGet r) 0x0600 r .observe (fun _ => r.payload.length = 0)
    (fun m => leBytes 4 m.drfStatus ++ leBytes 4 (if m.drf.image.isSome then imgId m.img else 0)
      ++ leBytes 4 (if m.drf.image.isSome then imgCrc m.img else 0) ++ leBytes 4 m.stopInfo ++ leBytes 4 m.drf.trapOffset
      ++ leBytes 4 m.drf.deadlock ++ leBytes 8 m.draftNow) ∧
  Reads (.drfTasksGet r) 0x0608 r .observe (fun _ => r.payload.length = 0)
    (fun m => (List.range 16).flatMap fun t =>
      if m.taskCount ≤ t then zeros 16
      else leBytes 4 (m.taskReg t) ++ leBytes 2 (tkPeriod (m.tkRow t)) ++ leBytes 2 (tkPhase (m.tkRow t))
        ++ leBytes 4 (tkWcet (m.tkRow t)) ++ leBytes 2 (m.task t).last ++ leBytes 2 (m.task t).maxStart) ∧
  Reads (.drfVarGet r) 0x0609 r .observe
    (fun _ => r.payload.length = 4 ∧ 1 ≤ field r.payload 2 2 ∧ field r.payload 0 2 + field r.payload 2 2 ≤ 256)
    (fun m => (List.range (field r.payload 2 2)).flatMap fun i => fBytes (tabGet 0 m.drf.vars (field r.payload 0 2 + i))))

/-- Readers of ring, CAN, cloth, replay, bolt, update and housekeeping (R569, R603, R636, R643, R649, R659, R690,
R719, R722), and the counters that a read clears. The model's choices in it: log entries 13, 102, 116, 124, 134 and
159. -/
def Obligations.PeripheralReaders : Prop := ∀ r : Req,
  Reads (.ringStatusGet r) 0x0D00 r .observe (fun _ => r.payload.length = 0)
    (fun m => [0x0D0004, 0x0D0008, 0x0D000C, 0x0D0010, 0x0D0014, 0x0D0018, 0x0D001C, 0x0D002C].flatMap fun o =>
      leBytes 4 ((m.rngReg o).getD 0)) ∧
  (∀ es : List Bytes, Reads (.ringTopologyGet r) 0x0D01 r .observe
    (fun m => r.payload.length = 0 ∧
      es = (m.taken r).topoSelf ++
        (m.taken r).ringOrder.filterMap fun k => (tabGet none m.rng.ann k).map fun a => (m.taken r).topoEntry k a)
    (fun m => leBytes 1 m.ringState ++ leBytes 1 es.length ++ leBytes 2 m.rng.epoch ++ zeros 12 ++ es.flatten)) ∧
  ReadsCounters (.ringCountersGet r) 0x0D04 r
    [0x0D0040, 0x0D0044, 0x0D0048, 0x0D004C, 0x0D0050, 0x0D0054, 0x0D0058] ∧
  Reads (.canStatusGet r) 0x0B00 r .observe (fun _ => r.payload.length = 4 ∧ byteAt r.payload 0 ≤ 1)
    (fun m => ([m.canCfg, m.canStatus, m.canErr, m.canTime, m.canOffset, m.canRate].flatMap fun f =>
      leBytes 4 (f (byteAt r.payload 0))) ++ zeros 8) ∧
  Reads (.canMapGet r) 0x0B02 r .observe (fun _ => r.payload.length = 0) (fun m => m.canMap) ∧
  Reads (.canSignalsGet r) 0x0B03 r .observe
    (fun _ => r.payload.length = 4 ∧ byteAt r.payload 0 ≤ 1 ∧ 1 ≤ field r.payload 2 2 ∧
      byteAt r.payload 1 + field r.payload 2 2 ≤ 256)
    (fun m => (List.range (field r.payload 2 2)).flatMap fun i =>
      m.sigEntry (byteAt r.payload 0) (byteAt r.payload 1 + i)) ∧
  ReadsCounters (.canCountersGet r) 0x0B07 r (canCounters 0 ++ canCounters 1) ∧
  Reads (.cloStatusGet r) 0x0700 r .observe (fun _ => r.payload.length = 0)
    (fun m => leBytes 4 m.cloStatus ++ leBytes 4 m.cloCfg ++ leBytes 4 (satU32 m.cloRate) ++ leBytes 8 m.clo.snapPick
      ++ leBytes 8 m.clo.tailPick ++ zeros 4) ∧
  Reads (.cloSlotsGet r) 0x0702 r .observe (fun _ => r.payload.length = 0)
    (fun m => (List.range 4).flatMap fun k =>
      (if (m.slot k).state = 0 then zeros 64 else (m.slot k).header) ++ leBytes 4 (m.slotState k) ++ zeros 12) ∧
  Reads (.repStatusGet r) 0x0711 r .observe (fun _ => r.payload.length = 0)
    (fun m => ([m.rep.state, m.rep.result, m.rep.pass, m.rep.passes, m.rep.used,
        bit m.rep.stringsChecked + 2 * bit m.rep.cellKnown].flatMap (leBytes 1)) ++ zeros 2
      ++ ([m.rep.start, m.rep.finish, m.rep.progress, m.rep.divPick].flatMap (leBytes 8))
      ++ leBytes 2 m.rep.divSet ++ leBytes 2 m.rep.divCell ++ leBytes 4 m.rep.rate) ∧
  (∀ d : Bytes, Reads (.bltRead r) 0x0720 r .observe
    (fun m => r.payload.length = 8 ∧
      (m.taken r).boltSection (byteAt r.payload 0) (field r.payload 2 2) (field r.payload 4 2) = some d) (fun _ => d)) ∧
  Reads (.updStatusGet r) 0x0800 r .observe (fun _ => r.payload.length = 0)
    (fun m => ([m.updStatus, m.sys.release, m.slotRelease false, m.slotRelease true, m.stagedRelease, m.updPieces, m.updKeys,
        m.updBoot].flatMap (leBytes 4)) ++ leBytes 8 m.stagedId ++ leBytes 8 m.upd.schedG) ∧
  (∀ l : List Nat, Reads (.updMissingGet r) 0x0803 r .observe
    (fun m => r.payload.length = 4 ∧
      l = (((m.upd.staging.map Image.missing).getD []).filter fun n => decide (field r.payload 0 2 ≤ n)).take 256)
    (fun _ => leBytes 2 l.length ++ zeros 2 ++ l.flatMap (leBytes 2))) ∧
  Reads (.hkStatusGet r) 0x0C00 r .observe (fun _ => r.payload.length = 0)
    (fun m => ([0x110000, 0x110004, 0x110008, 0x11000C, 0x110010, 0x110014].flatMap fun o =>
      leBytes 4 ((m.hkReg o).getD 0)) ++ zeros 8) ∧
  Reads (.hkRailsGet r) 0x0C01 r .observe (fun _ => r.payload.length = 0)
    (fun m => (List.range 11).flatMap fun k => leBytes 4 (m.hk.rails.getD k 0 % 65536)) ∧
  Reads (.calGet r) 0x0C02 r .observe (fun _ => r.payload.length = 0)
    (fun m => (if m.hk.factoryBad then zeros 76
        else ((List.range 16).flatMap fun n => leBytes 4 (tabGet 1000000 m.hk.dciGain n)) ++ leBytes 4 m.hk.mainsGain
          ++ leBytes 4 m.hk.mainsDelay ++ leBytes 2 (ofInt 16 m.hk.diodeOffset) ++ zeros 2)
      ++ ((List.range 16).flatMap fun n => leBytes 4 (m.setting (0x0C00 + n)))
      ++ ((List.range 16).flatMap fun n => leBytes 4 (m.setting (0x0C10 + n))) ++ leBytes 2 (m.setting 0x090B) ++ zeros 2) ∧
  ReadsCounters (.hkCountersGet r) 0x0C04 r [0x110060, 0x110064, 0x110068, 0x11006C, 0x110070] ∧
  -- REP_CELLS_GET: a cell that was not replayed answers free bytes, and the reply reserves that many free values
  (∀ s : State, May 0x0713 r s.m .observe → r.payload.length = 4 →
    s.m.cellRange (field r.payload 0 2) (field r.payload 2 2) = true → s.m.rep.ended = true →
    ∀ p : Bytes, (p = (List.range (field r.payload 2 2)).flatMap fun i =>
        (tabGet none s.m.rep.outputs (field r.payload 0 2 + i)).getD
          (leBytes 32 (Config.freeNat (s.m.free + (field r.payload 0 2 + i))))) →
      p.length ≤ s.m.replyRoom r.ctx →
      Does (.repCellsGet r) s fun m' => Replies 0x0713 r .done p s.m m' ∧ OnlyIn replyBlocks s.m m' ∧
        m'.cmd.outst = s.m.cmd.outst)

/-- REG_RD of one register and REG_RD64 (R18, R509, R510): the live value, the clearing of a counter, and the half
shadow of a 64-bit register. REG_WR (R17, R306, R309): the writable registers act as the port writes do; a register of
the SLV block or without a writable field is DENIED; where no register stands the write has no effect. The model's
choices in it: log entries 8, 20 and 21. -/
def Obligations.RegisterAccess : Prop :=
  (∀ (r : Req) (s : State) (off : Nat), off = field r.payload 0 4 →
  off % 4 = 0 → off < 0x120000 →
  -- one register that is not the high half of a 64-bit one: live, FLAGS 0
  (May 0x0120 r s.m .observe → r.payload.length = 8 → field r.payload 4 2 = 1 → ¬(4 ≤ off ∧ lowHalf (off - 4) = true) →
    8 ≤ s.m.replyRoom r.ctx →
    Does (.regRd r) s fun m' =>
      Replies 0x0120 r .done (leBytes 4 0 ++ leBytes 4 ((s.m.taken r).regPeek off)) s.m m' ∧
      (isCounter off = true → ∀ k, m'.counter k = if k = off then 0 else s.m.counter k) ∧
      -- a low half leaves the high half in the context's shadow
      (∀ c, s.m.ctx? r.ctx = some c → lowHalf off = true → ∃ c', m'.ctx? r.ctx = some c' ∧
        c'.shadow = some { offset := off + 4, value := (s.m.taken r).regPeek (off + 4), time := max s.m.sys.clock r.t })) ∧
  -- a high half read within 1 ms of its low half: the shadow's value, FLAGS SHADOW_USED, and the shadow is empty after
  (∀ c h, s.m.ctx? r.ctx = some c → c.shadow = some h → h.offset = off → 4 ≤ off → lowHalf (off - 4) = true →
    lowHalf off = false → isCounter off = false →
    May 0x0120 r s.m .observe → r.payload.length = 8 → field r.payload 4 2 = 1 → 8 ≤ s.m.replyRoom r.ctx →
    max s.m.sys.clock r.t ≤ h.time + 4000000 →
    Does (.regRd r) s fun m' => Replies 0x0120 r .done (leBytes 4 1 ++ leBytes 4 h.value) s.m m' ∧
      ∃ c', m'.ctx? r.ctx = some c' ∧ c'.shadow = none) ∧
  -- any other read of a high half: the live value, FLAGS SHADOW_STALE
  (∀ c, s.m.ctx? r.ctx = some c → 4 ≤ off → lowHalf (off - 4) = true → lowHalf off = false →
    (∀ h, c.shadow = some h → h.offset = off → h.time + 4000000 < max s.m.sys.clock r.t) →
    May 0x0120 r s.m .observe → r.payload.length = 8 → field r.payload 4 2 = 1 → 8 ≤ s.m.replyRoom r.ctx →
    Does (.regRd r) s fun m' =>
      Replies 0x0120 r .done (leBytes 4 2 ++ leBytes 4 ((s.m.taken r).regPeek off)) s.m m') ∧
  -- REG_RD64: both halves live in one access; the shadow is neither used nor latched
  (May 0x0122 r s.m .observe → r.payload.length = 4 → off % 0x10000 + 8 ≤ 0x10000 → isCounter off = false →
    isCounter (off + 4) = false → (s.m.taken r).regRest off = s.m.taken r → 8 ≤ s.m.replyRoom r.ctx →
    Does (.regRd64 r) s fun m' =>
      Replies 0x0122 r .done (leBytes 4 ((s.m.taken r).regPeek off) ++ leBytes 4 ((s.m.taken r).regPeek (off + 4))) s.m m' ∧
      ∀ c, s.m.ctx? r.ctx = some c → ∃ c', m'.ctx? r.ctx = some c' ∧ c'.shadow = c.shadow)) ∧
  (∀ (r : Req) (s : State) (off v : Nat), off = field r.payload 0 4 →
  v = field r.payload 4 4 → May 0x0121 r s.m .engineer → r.payload.length = 8 → off % 4 = 0 → off < 0x120000 →
  (∀ d < 52, off = 0x010000 + 4 * d → Does (.regWr r) s fun m' =>
    Replies 0x0121 r .done [] s.m m' ∧ m'.wft = ((s.m.taken r).domReq d (bits v 3 2)).wft ∧
    OnlyIn (.wft :: evtBlocks ++ replyBlocks) s.m m') ∧
  (∀ b < 68, off = 0x020000 + 4 * b → Does (.regWr r) s fun m' =>
    Replies 0x0121 r .done [] s.m m' ∧
    m'.wft = (((s.m.taken r).hostOwnReq b false (bits v 13 8)).hostOwnReq b true (bits v 29 24)).wft ∧
    OnlyIn (.wft :: evtBlocks ++ replyBlocks) s.m m') ∧
  (off / 0x10000 = 8 → Does (.regWr r) s fun m' => Replies 0x0121 r .denied [] s.m m' ∧ ReadOnly r s.m m') ∧
  (¬(0x010000 ≤ off ∧ off < 0x0100D0) → ¬(0x020000 ≤ off ∧ off < 0x020110) → off / 0x10000 ≠ 8 →
    Does (.regWr r) s fun m' =>
      Replies 0x0121 r (if ((s.m.taken r).regGet off).isSome then .denied else .done) [] s.m m' ∧ ReadOnly r s.m m'))

/-! ### The command interface -/

/-- Contexts: open with a role, open for SYS_IDENT_GET alone, authenticate, fail to, close, and the two timers (R490
to R492, R496). The model's choices in it: log entries 14 to 17. -/
def Obligations.ContextLifecycle : Prop :=  -- CTX_OPEN with a role whose key is present: a fresh nonce, privilege NONE until CTX_AUTH
  (∀ (r : Req) (s : State) (k : Bytes), Admitted 0x0001 r s.m → r.payload.length = 24 → byteAt r.payload 0 ≤ 3 →
    1472 ≤ field r.payload 2 2 → field r.payload 2 2 ≤ 65507 → s.m.roleKey (byteAt r.payload 0) = some k →
    Does (.ctxOpen r) s fun m' => ∃ nonce : Bytes, (∃ i, nonce = leBytes 16 (Config.nonce i).toNat) ∧
      Replies 0x0001 r .done (nonce ++ leBytes 2 (tabGet ({} : RoleKey) s.m.com.keys (byteAt r.payload 0)).version ++ zeros 2
        ++ leBytes 8 s.m.sys.serial ++ zeros 4) s.m m' ∧
      (∃ c, m'.ctx? r.ctx = some c ∧ c.priv = .none ∧ c.role = some (byteAt r.payload 0) ∧ c.authed = false ∧
        c.moduleNonce = nonce ∧ c.hostNonce = (r.payload.drop 4).take 16 ∧ c.replyMax = field r.payload 2 2 ∧ c.subs = 0 ∧
        c.given = []) ∧
      m'.counter (evtCnt 480) = satU32 (s.m.counter (evtCnt 480) + 1) ∧ OnlyIn closeBlocks s.m m') ∧
  -- with a key that is absent: DENIED, and a context open before is closed all the same
  (∀ (r : Req) (s : State), Admitted 0x0001 r s.m → r.payload.length = 24 → byteAt r.payload 0 ≤ 3 →
    1472 ≤ field r.payload 2 2 → field r.payload 2 2 ≤ 65507 → s.m.roleKey (byteAt r.payload 0) = none →
    Does (.ctxOpen r) s fun m' => Replies 0x0001 r .denied [] s.m m' ∧ m'.ctx? r.ctx = none ∧ OnlyIn closeBlocks s.m m') ∧
  -- CTX_OPEN without a role
  (∀ (r : Req) (s : State), Admitted 0x0001 r s.m → r.payload.length = 24 → byteAt r.payload 0 = 0xFF →
    1472 ≤ field r.payload 2 2 → field r.payload 2 2 ≤ 65507 →
    Does (.ctxOpen r) s fun m' =>
      Replies 0x0001 r .done (zeros 16 ++ leBytes 2 0 ++ zeros 2 ++ leBytes 8 s.m.sys.serial ++ zeros 4) s.m m' ∧
      (∃ c, m'.ctx? r.ctx = some c ∧ c.priv = .none ∧ c.role = none ∧ c.replyMax = field r.payload 2 2) ∧
      OnlyIn closeBlocks s.m m') ∧
  -- CTX_AUTH with the right proof: the role's privilege, and a session key; with a wrong one: DENIED, closed, event 482
  (∀ (r : Req) (s : State) (c : Ctx) (role : Nat) (k : Bytes), Admitted 0x0002 r s.m → r.payload.length = 16 →
    s.m.ctx? r.ctx = some c → c.role = some role → c.authed = false → s.m.roleKey role = some k → 1472 ≤ c.replyMax →
    (r.payload = (Config.hmac k (proofMsg labelA c s.m.rng.addr r.ctx (leBytes 1 role))).take 16 →
      Does (.ctxAuth r) s fun m' =>
        Replies 0x0002 r .done ((Config.hmac k (proofMsg labelM c s.m.rng.addr r.ctx (leBytes 1 role))).take 16) s.m m' ∧
        (∃ c', m'.ctx? r.ctx = some c' ∧ c'.priv = rolePriv role ∧ c'.authed = true ∧
          c'.sessionKey = Config.hmac k (proofMsg labelK c s.m.rng.addr r.ctx [])) ∧ OnlyIn replyBlocks s.m m') ∧
    (r.payload ≠ (Config.hmac k (proofMsg labelA c s.m.rng.addr r.ctx (leBytes 1 role))).take 16 →
      Does (.ctxAuth r) s fun m' =>
        Replies 0x0002 r .denied [] s.m m' ∧ m'.ctx? r.ctx = none ∧
        m'.counter (evtCnt 482) = satU32 (s.m.counter (evtCnt 482) + 1) ∧ OnlyIn closeBlocks s.m m')) ∧
  -- CTX_CLOSE and the timers close the context
  (∀ (r : Req) (s : State), Admitted 0x0003 r s.m → r.payload.length = 0 →
    Does (.ctxClose r) s fun m' => Replies 0x0003 r .done [] s.m m' ∧ m'.ctx? r.ctx = none ∧
      OnlyIn closeBlocks s.m m') ∧
  (∀ (n : Nat) (s : State) (c : Ctx), s.m.ctx? n = some c → c.role.isSome = true → c.authed = false →
    Does (.ctxAuthTimeout n) s fun m' => m'.ctx? n = none ∧
      m'.counter (evtCnt 481) = satU32 (s.m.counter (evtCnt 481) + 1) ∧ OnlyIn (evtBlocks ++ [.set, .bulk, .clo]) s.m m') ∧
  (∀ (n : Nat) (s : State) (c : Ctx), s.m.ctx? n = some c →
    Does (.ctxIdleTimeout n) s fun m' => m'.ctx? n = none ∧
      (∀ d, d ≠ n → (m'.ctx? d).isSome = (s.m.ctx? d).isSome) ∧
      (∀ o ∈ m'.cmd.outst, o.ctx = n → o.live = false) ∧
      m'.counter (evtCnt 481) = satU32 (s.m.counter (evtCnt 481) + 1) ∧ OnlyIn (evtBlocks ++ [.set, .bulk, .clo]) s.m m')

/-- CMD_ABORT's four results (R502), an unknown opcode (R503), and a malformed datagram (R486). Subscriptions, event
packets and the command load (R505, R506, R508, R531). The model's choices in it: log entries 18, 19 and 26. -/
def Obligations.AbortsEventsAndRefusals : Prop :=
  (∀ (r : Req) (s : State),
  (Admitted 0x0004 r s.m → r.payload.length = 4 → s.m.inBoot = false → 4 ≤ s.m.replyRoom r.ctx →
    -- 1: a live command that can be stopped goes, and with it what waits for it alone: a mode transition, an angle source,
    -- balance commands sent
    (∀ o, (s.m.cmd.outst.find? fun o => o.ctx = r.ctx && o.tag = field r.payload 0 2 && o.live) = some o →
      s.m.executing o = false → Does (.cmdAbort r) s fun m' =>
        ((∀ q ∈ s.m.wrp.balReqs, q.cmd ≠ o.id) → Replies 0x0004 r .done [1, 0, 0, 0] s.m m') ∧
        (∃ rep : Reply, m'.out.head? = some (.reply r.ctx rep) ∧ rep.tag = r.tag ∧ rep.status = .done ∧ rep.more = false ∧
          rep.payload = [1, 0, 0, 0]) ∧
        m'.cmd.outst = s.m.cmd.outst.filter (fun x => x.id ≠ o.id) ∧
        (∀ p, s.m.sys.pending = some p → p.cmd = some o.id → p.local_ = false → m'.sys.pending = none) ∧
        (∀ f, s.m.ang.waitForce = some f → f.cmd = o.id → m'.ang.waitForce = none) ∧
        (∀ q ∈ s.m.wrp.balReqs, q.cmd = o.id → q ∉ m'.wrp.balReqs) ∧
        OnlyIn (evtBlocks ++ replyBlocks ++ [.bulk, .clo, .ang, .wrp]) s.m m') ∧
    -- 4: one that executes
    (∀ o, (s.m.cmd.outst.find? fun o => o.ctx = r.ctx && o.tag = field r.payload 0 2 && o.live) = some o →
      s.m.executing o = true → Does (.cmdAbort r) s fun m' => Replies 0x0004 r .done [4, 0, 0, 0] s.m m' ∧ ReadOnly r s.m m') ∧
    -- 2: one completed; 3: one not known
    ((s.m.cmd.outst.find? fun o => o.ctx = r.ctx && o.tag = field r.payload 0 2 && o.live) = none →
      Does (.cmdAbort r) s fun m' =>
        Replies 0x0004 r .done
          [if (s.m.ctx? r.ctx).any (fun c => c.done.any fun d => d.tag = field r.payload 0 2) then 2 else 3, 0, 0, 0] s.m m' ∧
          ReadOnly r s.m m')) ∧
  (∀ op, Admitted op r s.m → Does (.badOpcode op r) s fun m' => Replies op r .badOpcode [] s.m m' ∧ ReadOnly r s.m m') ∧
  (∀ (d : List Byte) (fragmented : Bool), malformed d fragmented = true →
    Does (.requestMalformed d fragmented) s fun m' => OnlyIn [.cnt] s.m m' ∧
      ∀ k, m'.counter k = if k = 0x000220 then satU32 (s.m.counter k + 1) else s.m.counter k)) ∧
  (∀ s : State,
  (∀ (r : Req) (c : Ctx), May 0x0005 r s.m .observe → r.payload.length = 64 → s.m.ctx? r.ctx = some c →
    Does (.evtSubscribe r) s fun m' => Replies 0x0005 r .done [] s.m m' ∧
      (∃ c', m'.ctx? r.ctx = some c' ∧ c'.subs = leNat r.payload ∧ c'.waiting = c.waiting) ∧
      (∀ d, d ≠ r.ctx → m'.ctx? d = s.m.ctx? d) ∧ OnlyIn replyBlocks s.m m') ∧
  -- at most 40 records leave, in queue order; the rest stay
  (∀ (n : Nat) (c : Ctx), s.m.ctx? n = some c → c.waiting ≠ [] →
    Does (.eventPacketSend n) s fun m' => OnlyIn [.cmd, .out] s.m m' ∧
      (∃ trailer, m'.out = .events n (c.evtSeq + 1) (c.waiting.take 40) trailer :: s.m.out) ∧
      m'.ctx? n = some { c with waiting := c.waiting.drop 40, evtSeq := c.evtSeq + 1 } ∧
      (∀ d, d ≠ n → m'.ctx? d = s.m.ctx? d)) ∧
  (∀ n : Nat, (∀ c, s.m.ctx? n = some c → c.waiting = []) → Does (.eventPacketSend n) s fun m' => m' = s.m) ∧
  (∀ load : Nat, Does (.cmdLoadHigh load) s fun m' =>
    m'.cmd.loadLast = load ∧ m'.cmd.loadMax = max s.m.cmd.loadMax load ∧
    Raises (if 900 < load then [488] else []) s.m m' ∧ CountsOnly [] s.m m' ∧ OnlyIn evtBlocks s.m m'))

/-- BULK_WRITE, BULK_GIVE and BULK_RECLAIM, and the refusal on a page of the module (R523, R525): exactly the bytes
named are written. Bulk output (R526): a batch fills the given pages in order, exactly its bytes are written, the
pages return to HOST, and CONTINUE or the final reply carries the descriptor; with no pages for 120 s the command ends
in TIMEOUT. The model's choices in it: log entries 10 and 18. -/
def Obligations.BulkWindow : Prop :=
  (∀ (r : Req) (s : State),
  (May 0x0A10 r s.m .operate → 12 < r.payload.length → r.payload.length = 12 + field r.payload 8 2 →
    field r.payload 0 4 < s.m.bulk.pages → field r.payload 4 4 % 4 = 0 → field r.payload 8 2 % 4 = 0 →
    field r.payload 8 2 ≤ 1024 → field r.payload 4 4 + field r.payload 8 2 ≤ 65536 →
    (s.m.pageOwner (field r.payload 0 4) = .host → Does (.bulkWrite r) s fun m' => Replies 0x0A10 r .done [] s.m m' ∧
      (∀ i < field r.payload 8 2,
        m'.winByte (field r.payload 0 4 * 65536 + field r.payload 4 4 + i) = r.payload.getD (12 + i) 0) ∧
      (∀ a, a < field r.payload 0 4 * 65536 + field r.payload 4 4 ∨
        field r.payload 0 4 * 65536 + field r.payload 4 4 + field r.payload 8 2 ≤ a → m'.winByte a = s.m.winByte a) ∧
      m'.bulk.owner = s.m.bulk.owner ∧ OnlyIn (.bulk :: replyBlocks) s.m m') ∧
    -- a page that is not HOST is not touched
    (s.m.pageOwner (field r.payload 0 4) ≠ .host → Does (.bulkWrite r) s fun m' =>
      Replies 0x0A10 r .pageNotOwned [] s.m m' ∧ OnlyIn (evtBlocks ++ replyBlocks) s.m m' ∧
      m'.counter 0x000240 = satU32 (s.m.counter 0x000240 + 1))) ∧
  (∀ c, May 0x0A01 r s.m .observe → r.payload.length = 8 → s.m.ctx? r.ctx = some c →
    field r.payload 0 4 + field r.payload 4 2 ≤ s.m.bulk.pages →
    (∀ i < field r.payload 4 2, s.m.pageOwner (field r.payload 0 4 + i) = .host) →
    Does (.bulkGive r) s fun m' => Replies 0x0A01 r .done [] s.m m' ∧
      (∀ i < field r.payload 4 2, m'.pageOwner (field r.payload 0 4 + i) = .given r.ctx) ∧
      (∀ p, p < field r.payload 0 4 ∨ field r.payload 0 4 + field r.payload 4 2 ≤ p → m'.pageOwner p = s.m.pageOwner p) ∧
      (∃ c', m'.ctx? r.ctx = some c' ∧
        c'.given = c.given ++ (List.range (field r.payload 4 2)).map (field r.payload 0 4 + ·)) ∧
      m'.bulk.mem = s.m.bulk.mem ∧ OnlyIn (.bulk :: replyBlocks) s.m m') ∧
  (∀ c, May 0x0A02 r s.m .observe → r.payload.length = 0 → s.m.ctx? r.ctx = some c → 2 ≤ s.m.replyRoom r.ctx →
    Does (.bulkReclaim r) s fun m' => Replies 0x0A02 r .done (leBytes 2 c.given.length) s.m m' ∧
      (∀ p ∈ c.given, m'.pageOwner p = .host) ∧ (∀ p, p ∉ c.given → m'.pageOwner p = s.m.pageOwner p) ∧
      (∃ c', m'.ctx? r.ctx = some c' ∧ c'.given = []) ∧ m'.bulk.mem = s.m.bulk.mem ∧
      OnlyIn (.bulk :: replyBlocks) s.m m')) ∧
  (∀ (s : State) (n tag : Nat) (o : Outst) (b : BulkOut) (c : Ctx),
  (s.m.cmd.outst.find? fun o => o.ctx = n && o.tag = tag && o.live) = some o →
  s.m.cmd.bulkOut.find? (fun x => x.id = o.id) = some b → s.m.ctx? n = some c →
  (c.given ≠ [] → ∀ (ps : List Nat) (batch : Bytes),
    ps = (pageRun c.given).take (ceilDiv (b.data.drop b.offset).length 65536) →
    batch = (b.data.drop b.offset).take (ps.length * 65536) →
    Does (.bulkOutputBatch n tag) s fun m' =>
      (∀ i < batch.length, m'.winByte (ps.headD 0 * 65536 + i) = batch.getD i 0) ∧
      (∀ a, a < ps.headD 0 * 65536 ∨ ps.headD 0 * 65536 + batch.length ≤ a → m'.winByte a = s.m.winByte a) ∧
      (∀ p ∈ ps, m'.pageOwner p = .host) ∧
      (∃ rep, m'.out = .reply n rep :: s.m.out ∧ rep.tag = tag ∧
        rep.payload = bulkDescriptor b.data.length b.offset batch.length (ps.headD 0) ps.length
          (bit (decide ((b.data.drop b.offset).length ≤ batch.length))) (if batch = [] then 0 else crc32c batch) ∧
        (if (b.data.drop b.offset).length ≤ batch.length then rep.status = b.status ∧ rep.more = false
         else rep.status = .continued ∧ rep.more = true)) ∧
      ((b.data.drop b.offset).length ≤ batch.length → ∀ x ∈ m'.cmd.outst, x.id ≠ o.id) ∧
      OnlyIn (evtBlocks ++ [.bulk, .out, .clo]) s.m m') ∧
  (b.needed = true → Does (.bulkPageWaitTimeout n tag) s fun m' =>
    (∃ rep, m'.out = .reply n rep :: s.m.out ∧ rep.tag = tag ∧ rep.status = .timeout ∧ rep.more = false ∧
      rep.payload = bulkDescriptor b.data.length b.offset 0 0 0 2 0) ∧
    (∀ x ∈ m'.cmd.outst, x.id ≠ o.id) ∧ m'.counter (evtCnt 497) = satU32 (s.m.counter (evtCnt 497) + 1) ∧
    m'.bulk.mem = s.m.bulk.mem ∧ OnlyIn (evtBlocks ++ [.bulk, .out, .clo]) s.m m'))

/-- SET_WRITE and the four loads of bulk settings (R216, R440, R513, R604): where the value is in its range, or the
window's bytes meet their own rules. Transactions (R515 to R519, R521): begin, commit, roll back, time out, and the
flash copy. TXN_APPLY (R514, R517): at its boundary an accepted commit brings every written setting into force and
counts the generation, and the transaction is closed; before its boundary nothing happens. The model's choices in it:
log entries 22 to 27 and 31. -/
def Obligations.SettingsAndTransactions : Prop :=
  (∀ (r : Req) (s : State),
  (May 0x0101 r s.m .engineer → r.payload.length = 8 → setInRange (field r.payload 0 2) (field r.payload 4 4) = true →
    writesSetting (.setWrite r) 0x0101 r s [(field r.payload 0 2, some (field r.payload 4 4))] [] []) ∧
  (∀ d, May 0x0306 r s.m .engineer → r.payload.length = 8 → byteAt r.payload 0 ≤ 3 →
    s.m.readPages (field r.payload 4 4) 2048 = .ok d → packOk d = true → (s.m.sys.mode = .commission ∨ s.m.sys.mode = .standby) →
    writesSetting (.estPackLoad r) 0x0306 r s [] [(0x03F0 + byteAt r.payload 0, some d)]
      (pageRange (field r.payload 4 4) 2048)) ∧
  (∀ d, May 0x0504 r s.m .engineer → r.payload.length = 8 →
    s.m.readPages (field r.payload 0 4) 32800 = .ok d → loopTableOk d = true →
    writesSetting (.tmpLoopLoad r) 0x0504 r s [] [(0x0500, some d)] (pageRange (field r.payload 0 4) 32800)) ∧
  (∀ d, May 0x0506 r s.m .engineer → r.payload.length = 8 → byteAt r.payload 0 ≤ 15 →
    s.m.readPages (field r.payload 4 4) 2080 = .ok d → recipeOk true d = true →
    writesSetting (.formRecipeLoad r) 0x0506 r s [] [(0x0510 + byteAt r.payload 0, some d)]
      (pageRange (field r.payload 4 4) 2080)) ∧
  (∀ d, May 0x0B01 r s.m .engineer → r.payload.length = 8 →
    s.m.readPages (field r.payload 0 4) mapLen = .ok d → canMapOk d = true →
    writesSetting (.canMapLoad r) 0x0B01 r s [] [(0x0B60, some d)] (pageRange (field r.payload 0 4) mapLen)) ∧
  (∀ w : Tab (Option Nat), w = (0x090B, some 0) :: (List.range 32).map (fun i => (0x0C00 + i, some 1000000)) →
    May 0x0C03 r s.m .engineer → r.payload.length = 0 → s.m.sys.mode = .commission → s.m.set.txn = none →
    (s.m.taken r).commitRefusal { owner := r.ctx, single := true, gen0 := s.m.set.gen, writes := w } = none →
    Does (.restoreFactoryCal r) s fun m' => asksCommit 0x0C03 r w [] [] s.m m')) ∧
  (∀ (r : Req) (s : State),
  (May 0x0110 r s.m .engineer → r.payload.length = 0 → s.m.set.txn = none → 4 ≤ s.m.replyRoom r.ctx →
    Does (.txnBegin r) s fun m' => Replies 0x0110 r .done (leBytes 4 s.m.set.gen) s.m m' ∧
      m'.set = { s.m.set with txn := some { owner := r.ctx, gen0 := s.m.set.gen, last := max s.m.sys.clock r.t } } ∧
      Raises [489] s.m m' ∧ OnlyIn (evtBlocks ++ replyBlocks ++ [.set]) s.m m') ∧
  (∀ t, May 0x0110 r s.m .engineer → r.payload.length = 0 → s.m.set.txn = some t →
    Does (.txnBegin r) s fun m' => Replies 0x0110 r .txnConflict [] s.m m' ∧ OnlyIn (.set :: replyBlocks) s.m m') ∧
  (∀ t, May 0x0111 r s.m .engineer → r.payload.length = 0 → s.m.set.txn = some t → t.owner = r.ctx → t.committing = none →
    t.ids ≠ [] →
    (∀ m₁, m₁ = (s.m.taken r).touchTxn r.ctx → m₁.commitRefusal { t with last := max s.m.sys.clock r.t } = none →
      Does (.txnCommit r) s fun m' => Accepts 0x0111 r s.m m' ∧
        m'.set = { s.m.set with txn := some { t with committing := some s.m.cmd.nextId, last := max s.m.sys.clock r.t } } ∧
        OnlyIn (.set :: replyBlocks) s.m m') ∧
    (∀ m₁ st id, m₁ = (s.m.taken r).touchTxn r.ctx →
      m₁.commitRefusal { t with last := max s.m.sys.clock r.t } = some (st, id) → 4 ≤ s.m.replyRoom r.ctx →
      Does (.txnCommit r) s fun m' => Replies 0x0111 r st (leBytes 2 id ++ zeros 2) s.m m' ∧ Raises [491] s.m m' ∧
        m'.set.txn = some { t with last := max s.m.sys.clock r.t } ∧ OnlyIn (evtBlocks ++ replyBlocks ++ [.set]) s.m m')) ∧
  (∀ t, May 0x0112 r s.m .engineer → r.payload.length = 0 → s.m.set.txn = some t → t.owner = r.ctx → t.committing = none →
    Does (.txnRollback r) s fun m' => Replies 0x0112 r .done [] s.m m' ∧ m'.set = { s.m.set with txn := none } ∧
      Raises [492] s.m m' ∧ CountsOnly [0x000238] s.m m' ∧ OnlyIn (evtBlocks ++ replyBlocks ++ [.set]) s.m m') ∧
  (∀ t, s.m.set.txn = some t → t.committing = none →
    Does .txnIdleTimeout s fun m' => m'.set = { s.m.set with txn := none } ∧ Raises [492] s.m m' ∧
      CountsOnly [0x000238] s.m m' ∧ OnlyIn (evtBlocks ++ [.set]) s.m m') ∧
  -- SETTINGS_SAVE: the older copy takes what is in force; outside the write window it waits, event 493
  (s.m.saved = false → s.m.flashOk = true →
    Does .settingsSave s fun m' => OnlyIn [.set] s.m m' ∧ ∃ c : SetCopy, c.valid = true ∧ c.format = s.m.set.format ∧
      c.gen = s.m.set.gen ∧ c.scalars = s.m.set.scalars ∧ c.bulk = s.m.set.bulk ∧
      (m'.set = { s.m.set with copyA := c, unsaved := false } ∨ m'.set = { s.m.set with copyB := c, unsaved := false })) ∧
  (s.m.saved = false → s.m.flashOk = false → s.m.set.unsaved = false →
    Does .settingsSave s fun m' => m'.set = { s.m.set with unsaved := true } ∧ Raises [493] s.m m' ∧
      OnlyIn (evtBlocks ++ [.set]) s.m m')) ∧
  (∀ (s : State) (t : Txn) (id : Nat),
  s.m.set.txn = some t → t.committing = some id →
  (s.m.atBoundary = true → s.m.txnDue = true → s.m.modeFails t = [] →
    Does .txnApply s fun m' => m'.set.txn = none ∧ m'.set.gen = (s.m.set.gen + 1) % 2 ^ 32 ∧
      m'.set.scalars = t.writes.foldl (fun x p => tabPut none x p.1 p.2) s.m.set.scalars ∧
      m'.set.bulk = t.bulk.foldl (fun x p => tabPut none x p.1 p.2) s.m.set.bulk) ∧
  -- check 1 fails in the mode of the boundary: the commit comes to nothing (R516)
  (s.m.atBoundary = true → s.m.txnDue = true → s.m.modeFails t ≠ [] →
    Does .txnApply s fun m' => m'.set.scalars = s.m.set.scalars ∧ m'.set.bulk = s.m.set.bulk ∧ m'.set.gen = s.m.set.gen ∧
      m'.set.txn = (if t.single then none else some { t with committing := none, last := s.m.sys.clock }) ∧
      Raises [491] s.m m' ∧ OnlyIn (.set :: finishBlocks) s.m m') ∧
  (s.m.atBoundary = false ∨ s.m.txnDue = false → Does .txnApply s fun m' => m' = s.m))

/-! ### Modes, resets and BOOT -/

/-- What every reset leaves (R19, R30, R677, R691): BOOT, no context, no outstanding command, no transaction, outputs
off, an empty window; fuses, keys, the boot record's slots and the clock as they were. BOOT_COMPLETE (R30, R46, R677):
the mode BOOT ends in, its cause, and event 448. The model's choices in it: log entries 7, 39 to 46 and 126. -/
def Obligations.ResetsAndBoot : Prop :=
  (∀ s : State,
  (∀ (addr : Nat) (hold : Bool), Does (.powerOnReset addr hold) s fun m' => Restarts addr s.m m' ∧ m'.rng.holdLine = hold) ∧
  Does .watchdogReset s (Restarts s.m.svc.addr s.m) ∧
  (s.m.inBoot = true → Does .bootWatchdogExpiry s (Restarts s.m.svc.addr s.m)) ∧
  (s.m.hk.holdup = true → Does .holdupExhausted s (Restarts s.m.svc.addr s.m)) ∧
  (s.m.upd.state = .activating → Does .activationReset s (Restarts s.m.svc.addr s.m)) ∧
  -- outside BOOT its watchdog does nothing, nor does the store where no hold-up runs
  (s.m.inBoot = false → Does .bootWatchdogExpiry s fun m' => m' = s.m) ∧
  (s.m.hk.holdup = false → Does .holdupExhausted s fun m' => m' = s.m) ∧
  (s.m.upd.state ≠ .activating → Does .activationReset s fun m' => m' = s.m)) ∧
  -- out of BOOT, or without an authentic image, there is no end of it
  (∀ (s : State) (a b c ms t : Nat), s.m.inBoot = false ∨ s.m.upd.dead = true →
    Does (.bootComplete a b c ms t) s fun m' => m' = s.m) ∧
  (∀ (s : State) (a b c ms t : Nat), s.m.inBoot = true → s.m.upd.dead = false →
  -- whatever the lanes' causes, BOOT ends in the mode that R30 gives; a trial whose lanes do not load starts BOOT again
  (∀ bad, bad = ([a, b, c].filter (· ≠ 0)).length → ¬(2 ≤ bad ∧ s.m.upd.trial = true) → s.m.com.armed = none →
    Does (.bootComplete a b c ms t) s fun m' => (m'.sys.mode, m'.sys.cause) = s.m.bootVerdict bad ∧ m'.sys.prev = .boot ∧
      m'.sys.pending = none ∧ m'.sys.causeCtx = none ∧ m'.upd.bootMs = satU16 ms ∧ m'.upd.trial = false ∧
      (∀ i < 3, (m'.lane i).state = if [a, b, c].getD i 0 = 0 then .healthy else .failed)) ∧
  (2 ≤ ([a, b, c].filter (· ≠ 0)).length → s.m.upd.trial = true →
    Does (.bootComplete a b c ms t) s fun m' => m'.sys.mode = .boot ∧ m'.cmd.ctxs = [] ∧ m'.slv.on = 0) ∧
  -- no armed block: COMMISSION with cause 7
  (a = 0 → b = 0 → c = 0 → s.m.com.held = none → s.m.com.armed = none → s.m.upd.settingsReset = false →
    Does (.bootComplete a b c ms t) s fun m' =>
      m'.sys.mode = .commission ∧ m'.sys.prev = .boot ∧ m'.sys.cause = 7 ∧ m'.sys.pending = none ∧
      m'.slv.voting = 1 ∧ (m'.lane 0).state = .healthy ∧ (m'.lane 1).state = .healthy ∧ (m'.lane 2).state = .healthy ∧
      m'.upd.bootMs = satU16 ms) ∧
  -- two lanes that fail to load: SAFE-HOLD with cause 3, whatever block is armed
  (2 ≤ ([a, b, c].filter (· ≠ 0)).length → s.m.upd.trial = false → Does (.bootComplete a b c ms t) s fun m' =>
    m'.sys.mode = .safeHold ∧ m'.sys.prev = .boot ∧ m'.sys.cause = 3))

/-- MODE_REQUEST and SAFEHOLD_RESET (R41, R43): accepted only with the row's privilege and condition; the mode itself
does not change before its boundary. MODE_TRANSITION (R30, R37, R44, R46): at the pick boundary the events come first,
then the request that waits, judged again. The model's choices in it: log entries 33 to 37 and 141. -/
def Obligations.ModeRequestsAndTransitions : Prop :=
  (∀ (r : Req) (s : State),
  (∀ target p, Admitted 0x0011 r s.m → r.payload.length = 4 → modeOf (byteAt r.payload 0) = some target →
    (s.m.taken r).modeRow target = some (p, true) → s.m.lacks r.ctx p = false → s.m.sys.pending = none →
    Does (.modeRequest r) s fun m' => Accepts 0x0011 r s.m m' ∧ m'.sys.mode = s.m.sys.mode ∧
      m'.sys.pending = some { target := target, cmd := some s.m.cmd.nextId, ctx := r.ctx, reset := false } ∧
      OnlyIn replyBlocks s.m m') ∧
  -- a transition that is not in the table: WRONG_MODE; one whose condition fails: SAFETY_LOCKED; one more: BUSY
  (∀ target, Admitted 0x0011 r s.m → r.payload.length = 4 → modeOf (byteAt r.payload 0) = some target →
    (s.m.taken r).modeRow target = none → s.m.lacks r.ctx .safety = false → s.m.sys.pending = none →
    Does (.modeRequest r) s fun m' => Replies 0x0011 r .wrongMode [] s.m m' ∧ ReadOnly r s.m m') ∧
  (∀ target p, Admitted 0x0011 r s.m → r.payload.length = 4 → modeOf (byteAt r.payload 0) = some target →
    (s.m.taken r).modeRow target = some (p, false) → s.m.lacks r.ctx p = false → s.m.sys.pending = none →
    Does (.modeRequest r) s fun m' => Replies 0x0011 r .safetyLocked [] s.m m' ∧ ReadOnly r s.m m') ∧
  (∀ target, Admitted 0x0011 r s.m → r.payload.length = 4 → modeOf (byteAt r.payload 0) = some target →
    s.m.lacks r.ctx .safety = false → s.m.sys.pending.isSome = true →
    Does (.modeRequest r) s fun m' => Replies 0x0011 r .busy [] s.m m' ∧ ReadOnly r s.m m') ∧
  (Admitted 0x0012 r s.m → r.payload.length = 0 → s.m.lacks r.ctx .safety = false → s.m.sys.pending = none →
    s.m.sys.mode = .safeHold → s.m.causeCleared = true →
    Does (.safeholdReset r) s fun m' => Accepts 0x0012 r s.m m' ∧ m'.sys.mode = .safeHold ∧
      m'.sys.pending = some { target := s.m.resetTarget, cmd := some s.m.cmd.nextId, ctx := r.ctx, reset := true } ∧
      OnlyIn replyBlocks s.m m')) ∧
  (∀ s : State, s.m.inBoot = true → Does .modeTransition s fun m' => m' = s.m) ∧
  (∀ s : State, s.m.inBoot = false →
  -- the mode the boundary leaves; nothing waits then, and what was seen is forgotten
  Does .modeTransition s (fun m' => m'.sys.mode = s.m.boundaryMode ∧ m'.sys.pending = none ∧
    m'.sys.prev = (if s.m.boundaryMode = s.m.sys.mode then s.m.sys.prev else s.m.sys.mode) ∧
    m'.sys.tripSeen = false ∧ m'.sys.lanesSeen = false ∧ m'.sys.dieSeen = false ∧ m'.sys.sealSeen = false) ∧
  -- a request that meets an event completes with WRONG_MODE (R39, R381)
  (∀ p id o, s.m.sys.pending = some p → p.cmd = some id → s.m.outst? id = some o → o.live = true →
    (s.m.safeCause.isSome = true ∨
      (s.m.sys.sealSeen = true ∧ (s.m.sys.mode = .dispatch ∨ s.m.sys.mode = .formation))) →
    Does .modeTransition s fun m' => ∃ rep : Reply, Out.reply o.ctx rep ∈ m'.out ∧ rep.tag = o.tag ∧ rep.opcode = o.opcode ∧
      rep.status = .wrongMode ∧ rep.more = false) ∧
  -- a trip, two failed lanes or a die too hot: SAFE-HOLD with its cause
  (∀ c, s.m.safeCause = some c → s.m.sys.mode ≠ .safeHold →
    Does .modeTransition s fun m' => m'.sys.mode = .safeHold ∧ m'.sys.prev = s.m.sys.mode ∧ m'.sys.cause = c ∧
      m'.sys.entryPick = s.m.pck.index ∧ m'.sys.pending = none ∧ m'.slv.tripValid = s.m.sys.tripSeen ∧
      m'.sys.tripSeen = false ∧ m'.sys.lanesSeen = false ∧ m'.sys.dieSeen = false) ∧
  -- the seal contact opens in switch mode: STANDBY with cause 5
  (s.m.safeCause = none → s.m.sys.sealSeen = true → (s.m.sys.mode = .dispatch ∨ s.m.sys.mode = .formation) →
    Does .modeTransition s fun m' => m'.sys.mode = .standby ∧ m'.sys.prev = s.m.sys.mode ∧ m'.sys.cause = 5 ∧
      m'.sys.pending = none) ∧
  -- the request that waits is taken where its row still allows it
  (∀ p priv, s.m.safeCause = none → s.m.sys.sealSeen = false → s.m.sys.pending = some p → p.reset = false →
    s.m.seenClear.modeRow p.target = some (priv, true) →
    Does .modeTransition s fun m' => m'.sys.mode = p.target ∧ m'.sys.prev = s.m.sys.mode ∧ m'.sys.cause = 1 ∧
      m'.sys.causeCtx = some p.ctx ∧ m'.sys.entryPick = s.m.pck.index ∧ m'.sys.pending = none) ∧
  -- and is not where it no longer does
  (∀ p, s.m.safeCause = none → s.m.sys.sealSeen = false → s.m.sys.pending = some p → p.reset = false → p.local_ = false →
    s.m.seenClear.modeRow p.target = none →
    Does .modeTransition s fun m' => m'.sys.mode = s.m.sys.mode ∧ m'.sys.pending = none ∧ m'.sys.cause = s.m.sys.cause) ∧
  -- nothing waits and nothing was seen
  (s.m.safeCause = none → s.m.sys.sealSeen = false → s.m.sys.pending = none →
    Does .modeTransition s fun m' => m'.sys.mode = s.m.sys.mode ∧ m'.sys.entryPick = s.m.sys.entryPick))

/-- Requests whose effect waits (R205, R214, R253, R428, R435, R440, R475, R477): each is accepted and held. A command
whose effect falls at a boundary (R205, R365, R418, R436, R504, R729): in BOOT it completes with WRONG_MODE; out of
BOOT it is judged again, takes its effect and completes: EST_FLAGS_CLEAR, DISPATCH_SET, TMP_SP_SET and SAFETY_DISARM.
A TAG that waits for none changes nothing. The model's choices in it: log entries 13, 26, 83, 92 and 155. -/
def Obligations.BoundaryCommands : Prop :=
  (∀ r : Req,
  Waits (.estFlagsClear r) 0x0304 r .engineer (fun m => r.payload.length = 8 ∧
    m.cellRange (field r.payload 0 2) (field r.payload 2 2) = true ∧ field r.payload 4 2 &&& 0x0380 = field r.payload 4 2) ∧
  Waits (.resetLearned r) 0x0315 r .engineer (fun m => r.payload.length = 8 ∧
    m.cellRange (field r.payload 0 2) (field r.payload 2 2) = true ∧ 1 ≤ byteAt r.payload 4 ∧ byteAt r.payload 4 < 16 ∧
    m.sys.mode ∈ [Mode.commission, .standby, .safeHold]) ∧
  Waits (.learnSuspectClear r) 0x0316 r .operate (fun m => r.payload.length = 4 ∧
    m.cellRange (field r.payload 0 2) (field r.payload 2 2) = true) ∧
  -- LEARN_SWEEP_NOW asks for a sweep; EST_REINIT sets ESTIMATOR_NOT_READY at once
  (∀ s : State, May 0x0317 r s.m .operate → r.payload.length = 0 → Does (.learnSweepNow r) s fun m' =>
    Accepts 0x0317 r s.m m' ∧ m'.lrn = { s.m.lrn with again := true, waitersNext := s.m.lrn.waitersNext ++
      [(s.m.cmd.nextId, max s.m.sys.clock r.t)] } ∧ OnlyIn (.lrn :: replyBlocks) s.m m') ∧
  (∀ s : State, May 0x0305 r s.m .engineer → r.payload.length = 4 →
    s.m.cellRange (field r.payload 0 2) (field r.payload 2 2) = true → s.m.sys.mode ∈ [Mode.commission, .standby, .safeHold] →
    Does (.estReinit r) s fun m' => Accepts 0x0305 r s.m m' ∧ m'.est.notReady = true ∧
      (∀ c ∈ s.m.allCells, (m'.cell c).seen = false ∧ (m'.cell c).flags = (s.m.cell c).flags) ∧
      (∀ c, c ∉ s.m.allCells → m'.cell c = s.m.cell c) ∧
      OnlyIn (.est :: replyBlocks) s.m m')) ∧
  (∀ (s : State) (n tag : Nat),
  (∀ o, (s.m.cmd.outst.find? fun o => decide (o.ctx = n ∧ o.tag = tag ∧ o.opcode ∈ boundaryOps)) = some o →
    s.m.drf.stepTask = none → Waiting o s.m → (s.m.inBoot = true ∨ s.m.atBoundary = true) →
    s.m.rankFree (boundaryRank o.opcode) = true →
    (s.m.inBoot = true → Does (.commandBoundaryApply n tag) s fun m' => Finishes o .wrongMode s.m m' ∧
      OnlyIn finishBlocks s.m m') ∧
    (s.m.inBoot = false → o.opcode = 0x0304 → Does (.commandBoundaryApply n tag) s fun m' => Finishes o .done s.m m' ∧
      (∀ c, m'.cell c = (s.m.applyFlagsClear o.payload).cell c) ∧ OnlyIn (.est :: finishBlocks) s.m m') ∧
    (s.m.sys.mode = .dispatch → o.opcode = 0x0500 → Does (.commandBoundaryApply n tag) s fun m' => Finishes o .done s.m m' ∧
      m'.tmp = { s.m.tmp with pSet := sInt 32 (leNat o.payload) } ∧ OnlyIn (.tmp :: finishBlocks) s.m m') ∧
    (s.m.inBoot = false → o.opcode = 0x0502 → Does (.commandBoundaryApply n tag) s fun m' => Finishes o .done s.m m' ∧
      m'.loop (byteAt o.payload 0) = { s.m.loop (byteAt o.payload 0) with host := fField o.payload 4 } ∧
      OnlyIn (.tmp :: finishBlocks) s.m m') ∧
    -- SAFETY_DISARM out of COMMISSION no longer holds; in COMMISSION the block goes, event 144
    (s.m.inBoot = false → s.m.sys.mode ≠ .commission → o.opcode = 0x0404 →
      Does (.commandBoundaryApply n tag) s fun m' => Finishes o .wrongMode s.m m' ∧ m'.com.armed = s.m.com.armed) ∧
    (s.m.sys.mode = .commission → o.opcode = 0x0404 → Does (.commandBoundaryApply n tag) s fun m' =>
      Finishes o .done s.m m' ∧ m'.com.armed = none ∧ m'.com.held = none ∧ m'.com.staged = s.m.com.staged ∧
      OnlyIn (.com :: finishBlocks) s.m m')) ∧
  -- out of its boundary, or while what R205 puts before it is still due, a command goes on waiting
  (∀ o, (s.m.cmd.outst.find? fun o => decide (o.ctx = n ∧ o.tag = tag ∧ o.opcode ∈ boundaryOps)) = some o →
    s.m.inBoot = false → s.m.atBoundary = false ∨ s.m.rankFree (boundaryRank o.opcode) = false →
    Does (.commandBoundaryApply n tag) s fun m' => m' = s.m) ∧
  ((s.m.cmd.outst.find? fun o => decide (o.ctx = n ∧ o.tag = tag ∧ o.opcode ∈ boundaryOps)) = none →
    Does (.commandBoundaryApply n tag) s fun m' => m' = s.m))

/-! ### The angle unit and the picks -/

/-- Edges of the tooth sensor and of mains sense (R62, R63, R65, R67, R68): an edge too early is counted and ignored;
one in the window is accepted; an index edge far from a tooth waits for the next; on a DC supply crossings do nothing.
The model's choices in it: log entries 2, 49, 50, 144 and 145. -/
def Obligations.AngleEdges : Prop := ∀ (s : State) (t : Nat), settled s.m →
  -- earlier than 3/4 T after the last tooth: rejected, the tracker as it was
  (∀ c t0, s.m.ang.tooth.cycle = some c → s.m.ang.tooth.last = some t0 → s.m.ang.tooth.idxWait = [] →
    4 * (t - t0) * s.m.setting 0x0904 < 3 * s.m.ang.tooth.pred →
    Does (.toothEdge t) s fun m' => m'.ang.tooth = s.m.ang.tooth ∧ m'.ang.mains = s.m.ang.mains ∧
      m'.ang.active = s.m.ang.active ∧ m'.ang.state = s.m.ang.state ∧
      m'.counter 0x040050 = (if s.m.ang.active = 1 then satU32 (s.m.counter 0x040050 + 1) else s.m.counter 0x040050) ∧
      OnlyIn (evtBlocks ++ [.sys, .ang]) s.m m') ∧
  -- 3/4 T to 5/4 T: the tooth counts, here of a source that does not drive the angles
  (∀ c t0, s.m.ang.tooth.cycle = some c → s.m.ang.tooth.last = some t0 → s.m.ang.tooth.idxWait = [] →
    s.m.ang.active ≠ 1 → s.m.setting 0x0905 = 1 → s.m.ang.tooth.count + 1 < s.m.setting 0x0904 + 2 →
    3 * s.m.ang.tooth.pred ≤ 4 * (t - t0) * s.m.setting 0x0904 →
    4 * (t - t0) * s.m.setting 0x0904 < 5 * s.m.ang.tooth.pred →
    Does (.toothEdge t) s fun m' => m'.ang.tooth.last = some t ∧ m'.ang.tooth.prev = some t0 ∧
      m'.ang.tooth.count = s.m.ang.tooth.count + 1 ∧ m'.ang.tooth.goodTeeth = s.m.ang.tooth.goodTeeth + 1 ∧
      m'.ang.active = s.m.ang.active ∧ Quiet s.m m' ∧ OnlyIn [.sys, .ang] s.m m') ∧
  -- the first tooth of all starts no estimate by itself
  (s.m.setting 0x0905 = 1 → s.m.ang.tooth.cycle = none → s.m.ang.tooth.idxWait = [] →
    Does (.toothEdge t) s fun m' => m'.ang.tooth.last = some t ∧ m'.ang.tooth.cycle = none ∧
      m'.ang.tooth.count = s.m.ang.tooth.count + 1 ∧ Quiet s.m m' ∧ OnlyIn [.sys, .ang] s.m m') ∧
  -- an index edge nearer to the tooth to come than to the last one waits for it
  (∀ t0, s.m.setting 0x0905 = 1 → s.m.ang.tooth.last = some t0 → s.m.toothInterval 1 ≤ 2 * (t - t0) →
    Does (.indexEdge t) s fun m' => m'.ang.tooth = { s.m.ang.tooth with idxWait := s.m.ang.tooth.idxWait ++ [t] } ∧
      Quiet s.m m' ∧ OnlyIn [.sys, .ang] s.m m') ∧
  -- one nearest to the last tooth, but farther than 1/4 T from it, is a mismatch, here the first or second of a source that
  -- does not drive the angles
  (∀ t0 c, s.m.setting 0x0905 = 1 → s.m.ang.tooth.last = some t0 → s.m.toothInterval 1 < 4 * (t - t0) →
    2 * (t - t0) < s.m.toothInterval 1 → s.m.ang.tooth.ref = true → s.m.ang.tooth.cycle = some c → s.m.ang.active ≠ 1 →
    s.m.ang.tooth.missRun < 2 → Does (.indexEdge t) s fun m' => Quiet s.m m' ∧ OnlyIn [.sys, .ang] s.m m' ∧
      m'.ang.tooth = { s.m.ang.tooth with missRun := s.m.ang.tooth.missRun + 1, dirty := true, goodCycles := 0, goodTeeth := 0 }) ∧
  -- without an index no index edge does anything
  (s.m.setting 0x0905 ≠ 1 → Does (.indexEdge t) s fun m' => m'.ang.tooth = s.m.ang.tooth ∧ m'.ang.mains = s.m.ang.mains ∧
    Quiet s.m m' ∧ OnlyIn [.sys, .ang] s.m m') ∧
  -- the reference index: tooth count 0, the first measurement begins
  (∀ t0, s.m.setting 0x0905 = 1 → s.m.ang.tooth.last = some t0 → 4 * (t - t0) ≤ s.m.toothInterval 1 →
    0 < s.m.toothInterval 1 → s.m.ang.tooth.ref = false →
    Does (.indexEdge t) s fun m' => m'.ang.tooth.ref = true ∧ m'.ang.tooth.count = 0 ∧ m'.ang.tooth.meas = some t0 ∧
      m'.ang.tooth.missRun = 0 ∧ Quiet s.m m' ∧ OnlyIn [.sys, .ang] s.m m') ∧
  -- mains sense: nothing on DC; the first rising crossing starts the first measurement
  (∀ up rms, s.m.hk.j1dc = true → Does (.mainsCrossing t up rms) s fun m' => m'.ang.mains = s.m.ang.mains ∧
    m'.ang.tooth = s.m.ang.tooth ∧ Quiet s.m m' ∧ OnlyIn [.sys, .ang] s.m m') ∧
  (∀ rms, s.m.hk.j1dc = false → s.m.ang.mains.cycle = none → s.m.ang.mains.meas = none →
    Does (.mainsCrossing t true rms) s fun m' => m'.ang.mains.meas = some (t - s.m.mainsDelay) ∧
      m'.ang.mains.last = some (t - s.m.mainsDelay) ∧
      m'.ang.mains.rmsOk = decide (s.m.setting 0x090A ≤ rms) ∧ Quiet s.m m' ∧ OnlyIn [.sys, .ang] s.m m') ∧
  -- a crossing before 3/4 of the half cycle is no tooth, and the run of crossings that qualifies the source begins again (R69)
  (∀ up rms c t0, s.m.hk.j1dc = false → s.m.ang.mains.cycle = some c → s.m.ang.mains.last = some t0 → s.m.ang.active ≠ 2 →
    t - s.m.mainsDelay ≠ t0 → 8 * (t - s.m.mainsDelay - t0) < 3 * s.m.ang.mains.pred →
    Does (.mainsCrossing t up rms) s fun m' => m'.ang.mains.goodTeeth = 0 ∧ m'.ang.mains.last = some t0 ∧
      m'.ang.mains.cycle = some c ∧ m'.ang.mains.valid = s.m.ang.mains.valid ∧ m'.ang.tooth = s.m.ang.tooth ∧
      Quiet s.m m' ∧ OnlyIn [.sys, .ang] s.m m')

/-- Loss, extrapolation and change of the source (R59, R63, R64, R68, R70, R73, R74, R76, R94). The model's choices in
it: log entries 49, 51, 53 and 142. -/
def Obligations.AngleSources : Prop := ∀ (s : State) (t : Nat),
  -- no edge by 2.25 T: the cycle is extrapolated, event 34
  (∀ c t0, s.m.ang.tooth.cycle = some c → s.m.ang.tooth.last = some t0 → s.m.ang.active = 1 → s.m.ang.state = .locked →
    9 * s.m.ang.tooth.pred ≤ 4 * (t - t0) * s.m.setting 0x0904 →
    Does (.toothExtrapolate 1 t) s fun m' => m'.ang.state = .extrapolating ∧ m'.ang.tooth.dirty = true ∧
      m'.ang.active = 1 ∧ Raises [34] s.m m' ∧ OnlyIn (evtBlocks ++ [.sys, .ang]) s.m m') ∧
  -- no edge by 4 T: the source is lost, event 33, and is watched afresh; here one that does not drive the angles
  (∀ c t0, s.m.ang.tooth.cycle = some c → s.m.ang.tooth.last = some t0 → s.m.ang.active ≠ 1 →
    16 * s.m.ang.tooth.pred ≤ 4 * (t - t0) * s.m.setting 0x0904 →
    Does (.toothTimeout 1 t) s fun m' => m'.ang.tooth.valid = false ∧ m'.ang.tooth.cycle = none ∧ m'.ang.lossCause = 1 ∧
      m'.ang.force = (if s.m.ang.force = some 1 then none else s.m.ang.force) ∧
      m'.ang.active = s.m.ang.active ∧ Raises [33] s.m m' ∧
      m'.counter 0x040064 = satU32 (s.m.counter 0x040064 + 1) ∧ OnlyIn (evtBlocks ++ [.sys, .ang]) s.m m') ∧
  -- a cycle of mains below MAINS_MIN_RMS
  (s.m.ang.mains.valid = true ∨ s.m.ang.mains.cycle.isSome = true → s.m.ang.active ≠ 2 → Does (.mainsLowLoss t) s fun m' => m'.ang.mains.valid = false ∧
    m'.ang.mains.rmsOk = false ∧ m'.ang.lossCause = 4 ∧ m'.ang.active = s.m.ang.active ∧ Raises [33] s.m m' ∧
    m'.counter 0x040064 = satU32 (s.m.counter 0x040064 + 1) ∧ OnlyIn (evtBlocks ++ [.sys, .ang]) s.m m') ∧
  -- 2 s of ACQUIRING without a source: HOLDOVER, cause 5
  (s.m.ang.state = .acquiring → s.m.validSource = none → Does (.acquireTimeout t) s fun m' =>
    m'.ang.state = .holdover ∧ m'.ang.active = 0 ∧ m'.ang.lossCause = 5 ∧
    m'.counter (evtCnt 36) = satU32 (s.m.counter (evtCnt 36) + 1) ∧ OnlyIn (evtBlocks ++ [.sys, .ang]) s.m m') ∧
  -- back to the primary source after REVERT_CYCLES whole cycles
  (s.m.ang.state = .locked → s.m.ang.active = s.m.setting 0x0901 → s.m.ang.active ≠ s.m.setting 0x0900 →
    s.m.setting 0x0902 = 1 → s.m.ang.force = none → s.m.sourceValid (s.m.setting 0x0900) = true →
    s.m.setting 0x0903 < s.m.ang.revert →
    Does (.autoRevert t) s fun m' => m'.ang.active = s.m.setting 0x0900 ∧
      (m'.ang.state = .locked ∨ m'.ang.state = .slewing) ∧ m'.ang.revert = 0 ∧
      OnlyIn (evtBlocks ++ [.sys, .ang, .pck]) s.m m') ∧
  -- the slew is done when no difference is left
  (s.m.ang.state = .slewing → s.m.ang.slew = 0 → Does (.slewComplete t) s fun m' => m'.ang.state = .locked ∧
    m'.ang.treadle = m'.ang.tracked ∧ Raises [35] s.m m' ∧ OnlyIn (evtBlocks ++ [.sys, .ang]) s.m m') ∧
  (s.m.ang.held = true → angleDiff (s.m.angTo t).ang.treadle (s.m.angTo t).ang.tracked ≤ 0 →
    Does (.treadleHoldEnd t) s fun m' => m'.ang.held = false ∧ m'.ang.treadle = m'.ang.tracked ∧ Quiet s.m m' ∧
      OnlyIn [.sys, .ang] s.m m') ∧
  -- a cycle starts: the grid index counts, once-per-cycle events may be raised again
  (Does (.treadleCycleStart t) s fun m' => m'.ang.gridIndex = (s.m.ang.gridIndex + 1) % 2 ^ 64 ∧ m'.evt.once = [] ∧
    m'.ang.cycleStart = max s.m.sys.clock t ∧
    -- LATE where a forward jump began it (R77)
    m'.ang.startLate = s.m.ang.passedZero ∧ m'.ang.passedZero = false ∧ Quiet s.m m' ∧ OnlyIn [.sys, .ang, .evt] s.m m') ∧
  -- a force that waited too long
  (∀ src id o, s.m.ang.waitForce = some { source := src, cmd := id } → s.m.outst? id = some o → o.live = true →
    Does (.angleForceTimeout t) s fun m' => m'.ang = { s.m.ang with waitForce := none } ∧
      (∃ rep, m'.out = .reply o.ctx rep :: s.m.out ∧ rep.tag = o.tag ∧ rep.status = .timeout) ∧
      OnlyIn (evtBlocks ++ [.sys, .ang, .out, .free, .bulk, .clo]) s.m m')

/-- ANGLE_SOURCE_FORCE (R94): released by 0, at once for a source that is valid, else it waits. A pick's life (R80,
R84, R87, R88, R136): the trigger fixes its instant and its slot, no less than 200 µs after the pick before; the
instant stamps it; the release hands it to its consumers once. The model's choices in it: log entries 13, 52, 56, 142,
163 and 164. -/
def Obligations.ForceAndPicks : Prop :=
  (∀ (r : Req) (s : State),
  Admitted 0x0901 r s.m → r.payload.length = 4 → s.m.lacks r.ctx .engineer = false →
  s.m.sys.mode ∈ [Mode.commission, .standby, .safeHold] → 
  -- one that waits already: BUSY
  (s.m.ang.waitForce.isSome = true → byteAt r.payload 0 ≤ 3 →
    Does (.angleSourceForce r) s fun m' => Replies 0x0901 r .busy [] s.m m' ∧ ReadOnly r s.m m') ∧
  (s.m.ang.waitForce = none →
  (byteAt r.payload 0 = 0 → Does (.angleSourceForce r) s fun m' => Replies 0x0901 r .done [] s.m m' ∧
    m'.ang = { s.m.ang with force := none } ∧ OnlyIn (.ang :: replyBlocks) s.m m') ∧
  (1 ≤ byteAt r.payload 0 → byteAt r.payload 0 ≤ 3 → s.m.sourceValid (byteAt r.payload 0) = true →
    s.m.ang.state ≠ .acquiring → Does (.angleSourceForce r) s fun m' => Replies 0x0901 r .done [] s.m m' ∧ m'.ang.active = byteAt r.payload 0 ∧
      m'.ang.force = some (byteAt r.payload 0) ∧
      OnlyIn (evtBlocks ++ replyBlocks ++ [.ang, .pck]) s.m m') ∧
  (1 ≤ byteAt r.payload 0 → byteAt r.payload 0 ≤ 3 → s.m.sourceValid (byteAt r.payload 0) = false ∨ s.m.ang.state = .acquiring →
    Does (.angleSourceForce r) s fun m' => Accepts 0x0901 r s.m m' ∧
      m'.ang = { s.m.ang with waitForce := some { source := byteAt r.payload 0, cmd := s.m.cmd.nextId } } ∧
      OnlyIn (.ang :: replyBlocks) s.m m'))) ∧
  (∀ s : State, s.m.inBoot = false →
  (∀ t, s.m.pck.placed = none → s.m.pck.late = [] → s.m.pck.running = true → s.m.slotCommit = none →
    Does (.pickTrigger t) s fun m' => ∃ p : Placed, m'.pck.placed = some p ∧ p.slot = s.m.pck.nextSlot ∧
      p.jumped = false ∧ p.held = s.m.pck.heldNext ∧ s.m.pck.instant + usec 200 ≤ p.instant ∧
      m'.pck.nextSlot = (s.m.pck.nextSlot + 1) % s.m.pickK ∧ m'.pck.index = s.m.pck.index ∧
      m'.pck.instant = s.m.pck.instant ∧ OnlyIn (evtBlocks ++ [.sys, .ang, .pck, .wrp, .out]) s.m m') ∧
  (∀ t p, s.m.pck.placed = some p → Does (.pickTrigger t) s fun m' => m' = s.m) ∧
  (∀ dci q, s.m.pck.placed = some q → Does (.pickInstant dci) s fun m' =>
    m'.pck.running = true ∧ m'.pck.index = (if s.m.pck.running then s.m.pck.index + 1 else 0) ∧ m'.pck.slot = q.slot ∧
    m'.pck.position = slotPos s.m.pickK (s.m.setting 0x0911) q.slot ∧ m'.pck.instant = q.instant ∧
    m'.pck.generation = s.m.set.gen ∧ m'.pck.dci = dci ∧ m'.pck.placed = none ∧ m'.pck.released = false ∧
    m'.pck.flags % 2 = bit q.late ∧ m'.pck.flags / 2 % 2 = bit q.held) ∧
  (∀ t full, s.m.pck.running = true → s.m.pck.released = false → Does (.pickRelease t full) s fun m' =>
    m'.pck = { s.m.pck with released := true } ∧
    -- the exchange bank of the pick's parity takes its stamp, its currents and its frames
    (if s.m.pck.index % 2 = 0 then m'.wft.x0.stamp = s.m.stampBytes ∧ m'.wft.x0.dci = s.m.pck.dci ∧ m'.wft.x1 = s.m.wft.x1
      else m'.wft.x1.stamp = s.m.stampBytes ∧ m'.wft.x1.dci = s.m.pck.dci ∧ m'.wft.x0 = s.m.wft.x0) ∧
    m'.clo.appendLast = satU16 ((t - s.m.pck.instant) / 40) ∧ m'.sys.clock = max s.m.sys.clock t) ∧
  (∀ t full, s.m.pck.released = true → Does (.pickRelease t full) s fun m' => m' = s.m))

/-! ### The warp chains -/

/-- Enumeration of a chain (R112, R114, R121 to R131): what each frame and each timeout leaves known of it. The
model's choices in it: log entries 55, 57, 61, 63 and 146. -/
def Obligations.ChainEnumeration : Prop := ∀ (s : State) (n : Nat), n < 16 →
  -- lock on either port ends TRAINING: addresses are cleared, which stops all balancing (R146), and ENUM goes out
  (∀ port, (s.m.chain n).state = .training → Does (.warpLockGained n port) s fun m' =>
    m'.chain n = (if port = 0 then { s.m.chain n with lockA := true } else { s.m.chain n with lockB := true }).moved .enumerating ∧
    m'.out = enumFrames n ++ s.m.out ∧ (∀ k, m'.balOf k = if k / 64 = n then {} else s.m.balOf k) ∧
    onlyChain n s.m m' ∧ OnlyIn (evtBlocks ++ [.wrp, .out, .clo]) s.m m') ∧
  (∀ port, (s.m.chain n).state ≠ .training → Does (.warpLockGained n port) s fun m' =>
    m'.chain n = (if port = 0 then { s.m.chain n with lockA := true } else { s.m.chain n with lockB := true }) ∧
    onlyChain n s.m m' ∧ OnlyIn [.wrp] s.m m') ∧
  -- loss on both ports takes a working chain to DOWN, and abandons healing
  ((s.m.chain n).lockB = false → (s.m.chain n).active = true → Does (.warpLockLost n 0) s fun m' =>
    m'.chain n = Chain.moved .down { s.m.chain n with lockA := false, healing := false } ∧
    onlyChain n s.m m' ∧ OnlyIn [.wrp] s.m m') ∧
  (∀ port, (if port = 0 then (s.m.chain n).lockB else (s.m.chain n).lockA) = true → Does (.warpLockLost n port) s fun m' =>
    m'.chain n = (if port = 0 then { s.m.chain n with lockA := false, healing := false }
      else { s.m.chain n with lockB := false, healing := false }) ∧ onlyChain n s.m m' ∧ OnlyIn [.wrp] s.m m') ∧
  -- no lock in 20 ms: DOWN; with a lock on either port the timer does nothing
  ((s.m.chain n).state = .training → (s.m.chain n).lockA = false → (s.m.chain n).lockB = false → s.m.wrp.reenum = [] →
    Does (.enumLockTimeout n) s fun m' => m'.chain n = (s.m.chain n).moved .down ∧ onlyChain n s.m m' ∧
      OnlyIn [.wrp] s.m m') ∧
  ((s.m.chain n).lockA = true ∨ (s.m.chain n).lockB = true → Does (.enumLockTimeout n) s fun m' => m' = s.m) ∧
  -- the ENUM frame returns: the loop is closed, every address given out is asked to identify itself
  (∀ f, (s.m.chain n).state = .enumerating → frameOk 0x10 12 f = true → Does (.enumFrameReturn n f) s fun m' =>
    m'.chain n = { s.m.chain n with closed := some true, count := byteAt f.body 4 } ∧
    m'.out = ((List.range (byteAt f.body 4)).map fun a => Out.warp n 0 (reqBody 0x11 a)).reverse ++ s.m.out ∧
    onlyChain n s.m m' ∧ OnlyIn [.wrp, .out] s.m m') ∧
  -- a frame with a code error, a wrong CRC, length or type is discarded and counted
  (∀ f, (s.m.chain n).state = .enumerating → frameOk 0x10 12 f = false → Does (.enumFrameReturn n f) s fun m' =>
    m'.counter (0x060120 + 0x40 * n) = satU32 (s.m.counter (0x060120 + 0x40 * n) + 1) ∧ m'.wrp = s.m.wrp ∧
    OnlyIn evtBlocks s.m m') ∧
  -- it does not: the loop is open, ENUM goes out from Wn-B too, and both ends are asked
  ((s.m.chain n).state = .enumerating → Does (.enumReturnTimeout n) s fun m' =>
    m'.chain n = { s.m.chain n with closed := some false } ∧
    m'.out = ((((List.range 63).map fun a => Out.warp n 0 (reqBody 0x11 a)) ++ [Out.warp n 1 (enumBody (s.m.monitors n) 0xFF)]
      ++ (List.range (s.m.monitors n + 1)).map fun a => Out.warp n 1 (reqBody 0x11 a))).reverse ++ s.m.out ∧
    onlyChain n s.m m' ∧ OnlyIn [.wrp, .out] s.m m') ∧
  -- a device is recorded, and echoed eight times from each port it can be reached on
  (∀ port f, (s.m.chain n).state = .enumerating → frameOk 0x12 20 f = true → Does (.identReply n port f) s fun m' =>
    ((m'.chain n).dev (byteAt f.body 1)).type = some (byteAt f.body 2) ∧
    ((m'.chain n).dev (byteAt f.body 1)).serial = field f.body 8 8 ∧
    ((m'.chain n).dev (byteAt f.body 1)).hwRev = byteAt f.body 3 ∧ ((m'.chain n).dev (byteAt f.body 1)).fw = field f.body 4 2 ∧
    (∀ a, a ≠ byteAt f.body 1 → (m'.chain n).dev a = (s.m.chain n).dev a) ∧
    m'.out = (if (s.m.chain n).closed = some true
      then List.replicate 8 (Out.warp n 1 (reqBody 0x13 (byteAt f.body 1)))
        ++ List.replicate 8 (Out.warp n 0 (reqBody 0x13 (byteAt f.body 1)))
      else List.replicate 8 (Out.warp n port (reqBody 0x13 (byteAt f.body 1)))) ++ s.m.out ∧
    onlyChain n s.m m' ∧ OnlyIn [.wrp, .out] s.m m') ∧
  -- an address asked from a port that does not answer
  (∀ port a, (s.m.chain n).state = .enumerating → Does (.enumReplyTimeout n port a) s fun m' =>
    m'.chain n = (if ((s.m.chain n).dev a).type = none
      then { s.m.chain n with silent := (port, a) :: (s.m.chain n).silent } else s.m.chain n) ∧
    onlyChain n s.m m' ∧ OnlyIn [.wrp] s.m m') ∧
  -- the eighth echo from a port gives the latency from it
  (∀ f trip, frameOk 0x14 8 f = true → ((s.m.chain n).dev (byteAt f.body 1)).echoA.length = 7 →
    Does (.echoReply n 0 f trip) s fun m' =>
      (m'.chain n).dev (byteAt f.body 1) = { (s.m.chain n).dev (byteAt f.body 1) with
        echoA := trip :: ((s.m.chain n).dev (byteAt f.body 1)).echoA
        latA := some (echoLatency (trip :: ((s.m.chain n).dev (byteAt f.body 1)).echoA)) } ∧
      onlyChain n s.m m' ∧ OnlyIn [.wrp] s.m m') ∧
  (∀ f trip, frameOk 0x14 8 f = true → ((s.m.chain n).dev (byteAt f.body 1)).echoB.length = 7 →
    Does (.echoReply n 1 f trip) s fun m' =>
      (m'.chain n).dev (byteAt f.body 1) = { (s.m.chain n).dev (byteAt f.body 1) with
        echoB := trip :: ((s.m.chain n).dev (byteAt f.body 1)).echoB
        latB := some (echoLatency (trip :: ((s.m.chain n).dev (byteAt f.body 1)).echoB)) } ∧
      onlyChain n s.m m' ∧ OnlyIn [.wrp] s.m m') ∧
  (∀ f, frameOk 0x22 12 f = true → Does (.configReply n f) s fun m' =>
    tabGet 0 ((m'.chain n).dev (byteAt f.body 1)).params (byteAt f.body 2) = field f.body 4 4 ∧
    onlyChain n s.m m' ∧ OnlyIn [.wrp] s.m m') ∧
  -- the end: the first row of R125's table that applies; a device whose latency is known is sent its trigger delay (R131)
  ((s.m.chain n).state = .enumerating → s.m.wrp.reenum = [] → Does (.enumFinish n) s fun m' =>
    (m'.chain n).state = ((s.m.chain n).verdict (s.m.monitors n)).1 ∧
    (m'.chain n).cause = ((s.m.chain n).verdict (s.m.monitors n)).2 ∧ (m'.chain n).lead = (s.m.chain n).computeLead ∧
    (((s.m.chain n).verdict (s.m.monitors n)).1 ≠ .fault →
      (m'.chain n).split = ((s.m.chain n).assign (s.m.monitors n)).1 ∧
      (m'.chain n).maxHops = ((s.m.chain n).assign (s.m.monitors n)).2) ∧
    (∀ x ∈ (s.m.chain n).devs, ∀ l, ((s.m.chain n).dev x.1).latA = some l →
      Out.warp n ((m'.chain n).portOf x.1) (cfgWrite x.1 1 (((s.m.chain n).computeLead - l) / 25)) ∈ m'.out) ∧
    onlyChain n s.m m' ∧ OnlyIn (evtBlocks ++ [.wrp, .out]) s.m m') ∧
  ((s.m.chain n).state = .training ∨ (s.m.chain n).state = .enumerating → s.m.wrp.reenum = [] →
    Does (.enumOverallTimeout n) s fun m' => m'.chain n = Chain.moved .fault { s.m.chain n with cause := 5 } ∧
      onlyChain n s.m m' ∧ OnlyIn [.wrp] s.m m') ∧
  -- a chain that does not work is trained again; a lock that is held ends its TRAINING at once
  (s.m.sys.mode ∈ [Mode.commission, .standby, .safeHold] → (s.m.chain n).state ∈ [ChainState.partial_, .fault, .down] →
    s.m.chainEnabled n = true → Does (.autoReenumerate n) s fun m' =>
      (m'.chain n).state = (if (s.m.chain n).lockA || (s.m.chain n).lockB then .enumerating else .training) ∧
      m'.out = (if (s.m.chain n).lockA || (s.m.chain n).lockB then enumFrames n else []) ++ s.m.out ∧
      (m'.chain n).devs = [] ∧ (m'.chain n).closed = none ∧ (m'.chain n).roster = (s.m.chain n).roster ∧
      onlyChain n s.m m' ∧ OnlyIn (evtBlocks ++ [.wrp, .out, .clo]) s.m m') ∧
  ((s.m.sys.mode ∉ [Mode.commission, .standby, .safeHold] ∨ (s.m.chain n).state ∉ [ChainState.partial_, .fault, .down] ∨
    s.m.chainEnabled n = false) → Does (.autoReenumerate n) s fun m' => m' = s.m)

/-- Pick data (R114, R117 to R119, R135, R137, R138): a frame is held as received; a valid one marks its device
present, one that fails its checks is counted; expected returns that are not in when the window closes are missing,
and no frame is taken after. Breaks, lost devices and healing (R129, R140 to R144). The model's choices in it: log
entries 57, 58, 147 and 150. -/
def Obligations.PickDataAndBreaks : Prop :=
  (∀ (s : State) (n t : Nat), n < 16 → (s.m.chain n).active = true →
  (∀ port f, s.m.lateFrame n 2 f.body = false → frameOk 2 32 f = true → byteAt f.body 1 = 0 →
    Does (.headDataRx n port f t) s fun m' =>
      tabGet [] m'.wrp.frames (n * 64) = tabGet [] s.m.wrp.frames (n * 64) ++ [f] ∧ (m'.chain n).present.testBit 0 = true ∧
      ((m'.chain n).dev 0).missRun = 0 ∧ ((m'.chain n).dev 0).goodRun = ((s.m.chain n).dev 0).goodRun + 1 ∧
      ((m'.chain n).dev 0).answering = true ∧ ((m'.chain n).dev 0).status = byteAt f.body 6 ∧
      ((m'.chain n).dev 0).port = port ∧ (m'.chain n).returnLast = satU16 ((t - s.m.pck.instant) / 40) ∧
      m'.wrp.held = s.m.wrp.held ∧ onlyChain n s.m m' ∧ OnlyIn (evtBlocks ++ [.sys, .wrp]) s.m m') ∧
  (∀ port f, s.m.lateFrame n 3 f.body = false → frameOk 3 98 f = true → byteAt f.body 1 < 64 →
    Does (.monInstantRx n port f t) s fun m' =>
      tabGet [] m'.wrp.frames (n * 64 + byteAt f.body 1) = tabGet [] s.m.wrp.frames (n * 64 + byteAt f.body 1) ++ [f] ∧
      (m'.chain n).present.testBit (byteAt f.body 1) = true ∧ ((m'.chain n).dev (byteAt f.body 1)).answering = true ∧
      m'.wrp.held = s.m.wrp.held ∧ onlyChain n s.m m') ∧
  (∀ port f, s.m.lateFrame n 4 f.body = false → frameOk 4 112 f = true → byteAt f.body 1 < 64 →
    Does (.monWindowRx n port f t) s fun m' =>
      tabGet [] m'.wrp.held (n * 64 + byteAt f.body 1) = tabGet [] s.m.wrp.held (n * 64 + byteAt f.body 1) ++ [f] ∧
      (m'.chain n).present.testBit (byteAt f.body 1) = true ∧ m'.wrp.frames = s.m.wrp.frames ∧ onlyChain n s.m m') ∧
  -- a frame that fails its checks is kept as received for the lanes, and counted
  (∀ port f, s.m.lateFrame n 3 f.body = false → frameOk 3 98 f = false → byteAt f.body 1 < 64 →
    Does (.monInstantRx n port f t) s fun m' =>
      tabGet [] m'.wrp.frames (n * 64 + byteAt f.body 1) = tabGet [] s.m.wrp.frames (n * 64 + byteAt f.body 1) ++ [f] ∧
      (∀ k, m'.chain k = s.m.chain k) ∧
      m'.counter (0x060120 + 0x40 * n) = satU32 (s.m.counter (0x060120 + 0x40 * n) + 1) ∧
      OnlyIn (evtBlocks ++ [.sys, .wrp]) s.m m') ∧
  -- the returns that are not in, here those of a chain with its string head alone expected and missing
  ((s.m.chain n).shut = false → s.m.expectedAddrs n = [0] → s.m.arrived n 0 = false →
    Does (.returnWindowClose n) s fun m' => (m'.chain n).present.testBit 0 = false ∧ (m'.chain n).shut = true ∧
      ((m'.chain n).dev 0).missRun = ((s.m.chain n).dev 0).missRun + 1 ∧ ((m'.chain n).dev 0).goodRun = 0 ∧
      m'.counter (0x060124 + 0x40 * n) = satU32 (s.m.counter (0x060124 + 0x40 * n) + 1) ∧
      onlyChain n s.m m' ∧ OnlyIn (evtBlocks ++ [.wrp]) s.m m') ∧
  ((s.m.chain n).shut = false → (∀ a ∈ s.m.expectedAddrs n, s.m.arrived n a = true) →
    Does (.returnWindowClose n) s fun m' => m'.chain n = { s.m.chain n with shut := true } ∧ onlyChain n s.m m' ∧
      OnlyIn [.wrp] s.m m')) ∧
  -- a chain that takes no picks, or whose window has closed, takes no frame, and its window closes once a pick
  (∀ (s : State) (n port t : Nat) (f : WFrame), n < 16 →
  ((s.m.chain n).active = false ∨ s.m.lateFrame n 2 f.body = true →
    Does (.headDataRx n port f t) s fun m' => m' = s.m.tick t) ∧
  ((s.m.chain n).active = false ∨ s.m.lateFrame n 3 f.body = true →
    Does (.monInstantRx n port f t) s fun m' => m' = s.m.tick t) ∧
  ((s.m.chain n).active = false ∨ s.m.lateFrame n 4 f.body = true →
    Does (.monWindowRx n port f t) s fun m' => m' = s.m.tick t) ∧
  ((s.m.chain n).active = false ∨ (s.m.chain n).shut = true → Does (.returnWindowClose n) s fun m' => m' = s.m)) ∧
  (∀ (s : State) (n : Nat), n < 16 →
  -- a break is declared for the next pick boundary; one during healing abandons the healing
  ((s.m.chain n).state = .loop → Does (.breakDeclared n) s fun m' => m'.chain n = { s.m.chain n with breakDue := true } ∧
    onlyChain n s.m m' ∧ OnlyIn [.wrp] s.m m') ∧
  ((s.m.chain n).state = .broken → Does (.breakDeclared n) s fun m' =>
    m'.chain n = { s.m.chain n with healing := false, restore := false, leadNext := none } ∧
    onlyChain n s.m m' ∧ OnlyIn [.wrp] s.m m') ∧
  ((s.m.chain n).state ≠ .loop → (s.m.chain n).state ≠ .broken → Does (.breakDeclared n) s fun m' =>
    (∀ k, m'.chain k = s.m.chain k) ∧ OnlyIn [.wrp] s.m m') ∧
  -- there it is BROKEN, counted, shown and reported
  (∀ dci q, s.m.inBoot = false → s.m.pck.placed = some q → (s.m.chain n).state = .loop → (s.m.chain n).breakDue = true →
    Does (.pickInstant dci) s fun m' => (m'.chain n).state = .broken ∧ (m'.chain n).closed = some false ∧
      (m'.chain n).breakDue = false ∧ (m'.chain n).shown.1 = .broken ∧ (m'.chain n).changes = 0 ∧
      m'.counter (0x060128 + 0x40 * n) = satU32 (s.m.counter (0x060128 + 0x40 * n) + 1) ∧
      m'.evt.raised.testBit (64 + 4 * n + 1) = true ∧ m'.evt.raised.testBit (64 + 4 * n) = true) ∧
  -- three expected returns missed in a row
  (∀ a, 3 ≤ ((s.m.chain n).dev a).missRun → (s.m.chain n).active = true → Does (.deviceAnswerLost n a) s fun m' =>
    (m'.chain n).state = .partial_ ∧ ((m'.chain n).dev a).answering = false ∧ Raises [64 + 4 * n + 2] s.m m' ∧
    onlyChain n s.m m' ∧ OnlyIn (evtBlocks ++ [.wrp]) s.m m') ∧
  ((s.m.chain n).state = .partial_ → (∀ a ≤ s.m.monitors n, 3 ≤ ((s.m.chain n).dev a).goodRun) →
    (Does (.deviceAnswerRestored n true) s fun m' => (m'.chain n).state = .loop ∧ (m'.chain n).breakAfter = 0x3F ∧
      (m'.chain n).split = (s.m.monitors n + 2) / 2 ∧ (m'.chain n).skewWide = 0 ∧ onlyChain n s.m m' ∧ OnlyIn [.wrp] s.m m') ∧
    (Does (.deviceAnswerRestored n false) s fun m' => (m'.chain n).state = .broken ∧ onlyChain n s.m m' ∧
      OnlyIn (evtBlocks ++ [.wrp]) s.m m')) ∧
  ((s.m.chain n).state = .broken → (s.m.chain n).lockA = true → (s.m.chain n).lockB = true → (s.m.chain n).healing = false →
    Does (.healingStart n) s fun m' => m'.chain n = { s.m.chain n with healing := true } ∧ onlyChain n s.m m' ∧
      OnlyIn [.wrp, .out] s.m m') ∧
  -- a lead that rises at healing is in force from its boundary on (R90), and RESTORE_SPLIT goes out with it
  ((s.m.chain n).state = .broken → (s.m.chain n).healing = true → Does (.healingComplete n) s fun m' =>
    (m'.chain n).state = .loop ∧ (m'.chain n).healing = false ∧ (m'.chain n).restore = true ∧
    (m'.chain n).closed = some true ∧ (m'.chain n).split = (s.m.monitors n + 2) / 2 ∧ (m'.chain n).breakAfter = 0x3F ∧
    (m'.chain n).lead = (s.m.chain n).lead ∧ (m'.chain n).skewWide = 0 ∧
    (m'.chain n).leadNext =
      (if (s.m.chain n).computeLead ≤ (s.m.chain n).lead then none else some (s.m.chain n).computeLead) ∧
    Raises [64 + 4 * n + 1] s.m m' ∧ onlyChain n s.m m' ∧ OnlyIn (evtBlocks ++ [.wrp, .out]) s.m m'))

/-- WARP_ROSTER_ACCEPT, WARP_REENUMERATE and BALANCE_SET (R127, R157 to R162). Balancing beside the request (R145,
R149 to R151, R158): acknowledgements, their time-out, the resumption after DIE_HOT, and automatic balancing. The
model's choices in it: log entries 59 to 62, 148, 149 and 151. -/
def Obligations.WarpRequestsAndBalancing : Prop :=
  (∀ (r : Req) (s : State),
  (May 0x0202 r s.m .engineer → r.payload.length = 4 → byteAt r.payload 0 ≤ 15 →
    (s.m.chain (byteAt r.payload 0)).usable = true → Does (.warpRosterAccept r) s fun m' =>
      RepliesLate 0x0202 r .done [] s.m m' ∧
      m'.chain (byteAt r.payload 0) = { s.m.chain (byteAt r.payload 0) with
        roster := some (s.m.chain (byteAt r.payload 0)).serials, rosterChanged := false } ∧
      onlyChain (byteAt r.payload 0) s.m m' ∧ OnlyIn (.wrp :: replyBlocks) s.m m') ∧
  -- the named chains train again, one with a lock held is enumerated at once; one that trains already goes on
  (∀ go : List Nat, May 0x0203 r s.m .engineer → r.payload.length = 4 → field r.payload 0 2 ≠ 0 →
    (∀ n ∈ maskList 16 (field r.payload 0 2), s.m.chainEnabled n = true) →
    (s.m.sys.mode = .commission ∨ s.m.sys.mode = .safeHold ∨ (s.m.sys.mode = .standby ∧
      ∀ n ∈ maskList 16 (field r.payload 0 2), (s.m.chain n).state ∈ [ChainState.partial_, .fault, .down])) →
    (go = (maskList 16 (field r.payload 0 2)).filter fun n =>
      decide ((s.m.chain n).state ∈ [ChainState.loop, .broken, .partial_, .fault, .down])) →
    Does (.warpReenumerate r) s fun m' =>
      Accepts 0x0203 r { s.m with out := ((go.reverse.filter fun n => (s.m.chain n).lockA || (s.m.chain n).lockB).flatMap
        enumFrames) ++ s.m.out } m' ∧
      (∀ n ∈ go, (m'.chain n).devs = [] ∧
        (m'.chain n).state = if (s.m.chain n).lockA || (s.m.chain n).lockB then .enumerating else .training) ∧
      (∀ n, n ∉ go → m'.chain n = s.m.chain n) ∧
      m'.wrp.reenum = s.m.wrp.reenum ++ [(s.m.cmd.nextId, field r.payload 0 2)] ∧
      OnlyIn (evtBlocks ++ replyBlocks ++ [.wrp, .clo]) s.m m') ∧
  -- BALANCE leaves for every target, for the fourth pick after the latest, and the request waits for their acknowledgements;
  -- DURATION 0 stops a monitor at once
  (∀ (e : Nat) (ts : List (Nat × Nat × Nat)), May 0x0204 r s.m .operate → r.payload.length = 4 + 8 * e →
    byteAt r.payload 0 = e → 1 ≤ e → e ≤ 64 →
    (ts = (List.range e).map fun i => (byteAt r.payload (4 + 8 * i) * 64 + byteAt r.payload (5 + 8 * i),
      field r.payload (6 + 8 * i) 2, field r.payload (8 + 8 * i) 2)) →
    (∀ i < e, byteAt r.payload (4 + 8 * i) ≤ 15 ∧ 1 ≤ byteAt r.payload (5 + 8 * i) ∧
      byteAt r.payload (5 + 8 * i) ≤ s.m.monitors (byteAt r.payload (4 + 8 * i)) ∧
      s.m.chainEnabled (byteAt r.payload (4 + 8 * i)) = true) → (ts.map (·.1)).Nodup →
    (∀ t ∈ ts, popCount 16 t.2.1 ≤ s.m.setting 0x0206 ∧ t.1 % 64 ≤ s.m.monitors (t.1 / 64) ∧
      (s.m.chain (t.1 / 64)).usable = true ∧ ((s.m.chain (t.1 / 64)).dev (t.1 % 64)).status.testBit 4 = false) →
    (∀ n < 16, s.m.monitors n ≤ 32) → s.m.sys.mode ≠ .safeHold → s.m.setting 0x0205 ≠ 0 →
    Does (.balanceSet r) s fun m' => Accepts 0x0204 r
      { s.m with out := (ts.map fun t => Out.warp (t.1 / 64) ((s.m.chain (t.1 / 64)).portOf (t.1 % 64))
          (balBody (t.1 % 64) t.2.1 t.2.2 ((s.m.pck.index + 4) % 2 ^ 32))).reverse ++ s.m.out } m' ∧
      (∀ t ∈ ts, (m'.balOf t.1).hot = false ∧
        (t.2.2 ≠ 0 → (m'.balOf t.1).next = (s.m.balOf t.1).next ++
          [{ mask := t.2.1, dur := t.2.2, start := s.m.pck.index + 4, source := 1 }] ∧
          (m'.balOf t.1).mask = (s.m.balOf t.1).mask) ∧
        (t.2.2 = 0 → (m'.balOf t.1).next = [] ∧ (m'.balOf t.1).mask = 0)) ∧
      (∀ k, k ∉ ts.map (·.1) → m'.balOf k = s.m.balOf k) ∧
      m'.wrp.balReqs = s.m.wrp.balReqs ++ [{ cmd := s.m.cmd.nextId, start := s.m.pck.index + 4, targets := ts }] ∧
      OnlyIn (evtBlocks ++ replyBlocks ++ [.wrp, .clo]) s.m m')) ∧
  (∀ s : State,
  (∀ n f, n < 16 → frameOk 0x31 12 f = true → Does (.balanceAckRx n f) s fun m' =>
    (∀ q ∈ m'.wrp.balReqs, q.start % 2 ^ 32 = field f.body 4 4 →
      (q.targets.any fun t => t.1 = n * 64 + byteAt f.body 1 && t.2.1 = field f.body 2 2) = true →
      n * 64 + byteAt f.body 1 ∈ q.acked) ∧
    m'.wrp.balReqs.map (·.cmd) = s.m.wrp.balReqs.map (·.cmd) ∧ OnlyIn [.wrp] s.m m') ∧
  -- a target that has not acknowledged: DURATION 0 to every target of the request, and TIMEOUT
  (∀ pick q o, s.m.wrp.balReqs = [q] → q.start = pick → (q.targets.all fun t => t.1 ∈ q.acked) = false →
    s.m.outst? q.cmd = some o → o.live = true → Does (.balanceAckTimeout pick) s fun m' =>
      m'.wrp.balReqs = [] ∧ (∃ rep rest, m'.out = .reply o.ctx rep :: rest ∧ rep.tag = o.tag ∧ rep.status = .timeout) ∧
      (∀ t ∈ q.targets, (m'.balOf t.1).mask = 0 ∧ (m'.balOf t.1).next = [])) ∧
  -- 60 s after DIE_HOT: what was left is issued again where its source is still at work, cut to BAL_MAX_PER_MON
  (∀ n a b, a < 64 → s.m.balOf (n * 64 + a) = b → ((s.m.chain n).dev a).status.testBit 4 = false →
    (b.hot = true → s.m.balSource b.heldSource = true → b.heldRemaining ≠ 0 → Does (.balanceHotResume n a) s fun m' =>
      m'.balOf (n * 64 + a) = { b with
        next := b.next ++ [{ mask := clipMask (s.m.setting 0x0206) b.heldMask, dur := b.heldRemaining,
                             start := s.m.pck.index + 4, source := b.heldSource }]
        warm := false, hot := false, heldMask := 0, heldRemaining := 0, heldSource := 0, watchdog := false } ∧
      (∀ k, k ≠ n * 64 + a → m'.balOf k = s.m.balOf k) ∧ OnlyIn [.wrp, .out] s.m m') ∧
    (b.hot = false ∨ s.m.balSource b.heldSource = false → Does (.balanceHotResume n a) s fun m' =>
      m'.balOf (n * 64 + a) = { b with
        warm := false, hot := false, heldMask := 0, heldRemaining := 0, heldSource := 0 } ∧
      (∀ k, k ≠ n * 64 + a → m'.balOf k = s.m.balOf k) ∧ OnlyIn [.wrp] s.m m')) ∧
  (∀ n a, ((s.m.chain n).dev a).status.testBit 4 = true → Does (.balanceHotResume n a) s fun m' => m' = s.m) ∧
  -- automatic balancing: off unless BAL_MODE is 2; else commands go to monitors with cells above the lowest by the limit
  (∀ n, (s.m.setting 0x0205 ≠ 2 ∨ s.m.sys.mode ∈ [Mode.boot, .safeHold, .formation] ∨ (s.m.chain n).active = false) →
    Does (.autoBalanceIssue n) s fun m' => m' = s.m) ∧
  (∀ n lo rest, s.m.setting 0x0205 = 2 → s.m.sys.mode ∈ [Mode.commission, .standby, .dispatch] → (s.m.chain n).active = true →
    s.m.monitors n = 1 → (s.m.stringCells n).filterMap (fun c => s.m.cellSoc c) = lo :: rest →
    s.m.autoMask n 1 (rest.foldl min lo) ≠ 0 → (s.m.balOf (n * 64 + 1)).warm = false → s.m.setting 0x0208 ≠ 0 →
    ((s.m.chain n).dev 1).status.testBit 4 = false → Does (.autoBalanceIssue n) s fun m' =>
      (m'.balOf (n * 64 + 1)).next = (s.m.balOf (n * 64 + 1)).next ++
        [{ mask := s.m.autoMask n 1 (rest.foldl min lo), dur := s.m.setting 0x0208, start := s.m.pck.index + 4, source := 2 }] ∧
      (∀ k, k ≠ n * 64 + 1 → m'.balOf k = s.m.balOf k) ∧ OnlyIn [.wrp, .out] s.m m'))

/-! ### The weft estimator and what it learns -/

/-- ESTIMATOR_STEP (R173, R182, R198): once for a released pick with cell data; it stamps its pick and its time, and a
second step of the same pick, or one before the release, changes nothing. Cell conditions whose time has run (R185,
R186, R187, R190, R192): a flag is set only with its condition, latched where the manual latches it, and raises its
event. Strings and inputs (R185, R187, R226, R236, R239): the hold of a lost current, substituted temperatures, the
end of a span, the rest that ends a capacity run, and the ripple age. The model's choices in it: log entries 64 to 68
and 154. -/
def Obligations.EstimatorConditions : Prop :=
  (∀ (s : State) (time : Nat) (cycles : List Nat),
  (s.m.inBoot = false → s.m.pck.running = true → s.m.pck.released = true → s.m.est.stepPick ≠ some s.m.pck.index →
    s.m.cellPick = true → Does (.estimatorStep time cycles) s fun m' =>
      m'.est.stepPick = some s.m.pck.index ∧ m'.est.stepAt = some s.m.pck.instant ∧ m'.est.restart = [] ∧
      -- it leaves its results in the output buffer of its pick's parity, and the other buffer as it was (R211, R282)
      m'.outBuf.pick = some s.m.pck.index ∧
      (if s.m.pck.index % 2 = 0 then m'.est.odd = s.m.est.odd else m'.est.even = s.m.est.even) ∧
      m'.wft.stepLast = satU16 time ∧ m'.wft.stepMax = max s.m.wft.stepMax (satU16 time) ∧ m'.pck = s.m.pck ∧
      m'.bulk = s.m.bulk ∧ m'.set = s.m.set ∧ m'.com = s.m.com ∧ m'.ang = s.m.ang ∧ m'.tmp = s.m.tmp ∧ m'.drf = s.m.drf) ∧
  ((s.m.inBoot = true ∨ s.m.pck.released = false ∨ s.m.est.stepPick = some s.m.pck.index ∨ s.m.cellPick = false) →
    Does (.estimatorStep time cycles) s fun m' => m' = s.m)) ∧
  (∀ (s : State) (c : Nat), c < 8192 →
  (∀ x, s.m.cell c = x → x.init = true → fLe (fq 60 1) (x.timers.getD 0 0) = true → x.flags.testBit 6 = false →
    Does (.shortWatchSet c) s fun m' => (m'.cell c).flags = x.flags + 64 ∧
      (∀ d, d ≠ c → m'.cell d = s.m.cell d) ∧ m'.counter (evtCnt 241) = satU32 (s.m.counter (evtCnt 241) + 1) ∧
      OnlyIn (.est :: evtBlocks) s.m m') ∧
  (∀ x, s.m.cell c = x → x.init = true → fLe (s.m.setF 0x0318 1) (x.timers.getD 1 0) = true →
    fLe (s.m.setF 0x0319 1000) ((x.hyps.getD 3 {}).s 8) = true → x.flags.testBit 7 = false →
    Does (.microShortSet c) s fun m' => (m'.cell c).flags = x.flags + 128 ∧ (∀ d, d ≠ c → m'.cell d = s.m.cell d) ∧
      Raises [242] s.m m' ∧ (m'.svc.cause.testBit 4 = true) ∧ OnlyIn (.est :: evtBlocks) s.m m') ∧
  -- a latched MICRO_SHORT stays
  ((s.m.cell c).flags.testBit 7 = true → Does (.microShortSet c) s fun m' => m' = s.m) ∧
  (∀ x, s.m.cell c = x → x.init = true → fLe (fq 300 1) (x.timers.getD 2 0) = true → x.flags.testBit 8 = false →
    fLe (fq 135 100) ((x.hyps.getD 1 {}).s 6) = true → Does (.resHighChange c) s fun m' =>
      (m'.cell c).flags = x.flags + 256 ∧ (m'.cell c).timers = x.timers.set 2 0 ∧ (∀ d, d ≠ c → m'.cell d = s.m.cell d) ∧
      Raises [247] s.m m' ∧ OnlyIn (.est :: evtBlocks) s.m m') ∧
  (∀ x, s.m.cell c = x → x.init = true → fLe (fq 300 1) (x.timers.getD 3 0) = true → x.flags.testBit 9 = true →
    Does (.fadeChange c) s fun m' => (m'.cell c).flags = x.flags - 512 ∧ (m'.cell c).timers = x.timers.set 3 0 ∧
      (∀ d, d ≠ c → m'.cell d = s.m.cell d) ∧ Quiet s.m m' ∧ OnlyIn [.est] s.m m') ∧
  -- ten seconds without a voltage: the cell is not VALID until it starts again
  (∀ x, s.m.cell c = x → x.init = true → secs 10 ≤ x.noV → Does (.cellValidTimeout c) s fun m' =>
    (m'.cell c).init = false ∧ (m'.cell c).flags.testBit 0 = false ∧ (∀ d, d ≠ c → m'.cell d = s.m.cell d) ∧
    OnlyIn [.est] s.m m') ∧
  -- a hypothesis below 0.001 for EST_RESEED_TIME takes the states of the dominant one
  (∀ x j, s.m.cell c = x → x.init = true → j < x.hyps.length → j < x.reseed.length →
    secs (s.m.setting 0x0316) ≤ x.reseed.getD j 0 → Does (.hypReseed c j) s fun m' =>
      (m'.cell c).hyps = x.hyps.set j ((x.hyps.getD j {}).reseed j (x.hyps.getD (dominant x.prob) {})) ∧
      (m'.cell c).reseed.getD j 1 = 0 ∧ (∀ d, d ≠ c → m'.cell d = s.m.cell d) ∧ OnlyIn [.est] s.m m')) ∧
  (∀ (s : State) (n : Nat),
  ((s.m.str n).lost = true → 4 ≤ (s.m.str n).lostRun → Does (.currentLostHoldEnd n) s fun m' =>
    m'.str n = { s.m.str n with lostEnded := true } ∧ (∀ k, k ≠ n → m'.str k = s.m.str k) ∧ OnlyIn [.est] s.m m') ∧
  (∀ mon i, secs 60 ≤ (s.m.ntc (ntcKey n mon i)).noT → Does (.tSubstTimeout n mon i) s fun m' =>
    (m'.cell (firstCell (n, mon) + 2 * i)).flags.testBit 3 = true ∧
    (m'.cell (firstCell (n, mon) + (2 * i + 1))).flags.testBit 3 = true ∧
    (∀ d, d ≠ firstCell (n, mon) + 2 * i → d ≠ firstCell (n, mon) + (2 * i + 1) → m'.cell d = s.m.cell d) ∧
    OnlyIn [.est] s.m m') ∧
  (∀ sp, (s.m.str n).span = some sp → sp.ended = none → secs 128 ≤ s.m.pck.instant - sp.t0 → Does (.spanEnd n) s fun m' =>
    m'.str n = { s.m.str n with span := some { sp with ended := some s.m.pck.instant } } ∧ (∀ k, k ≠ n → m'.str k = s.m.str k) ∧
    OnlyIn [.est] s.m m') ∧
  ((s.m.str n).cap ≠ 0 → secs 60 < (s.m.str n).rest → Does (.capRunRestTimeout n) s fun m' =>
    m'.str n = { s.m.str n with cap := 0, capEnd := 2, capStop := s.m.pck.index } ∧ Raises [249] s.m m' ∧
    (∀ k, k ≠ n → m'.str k = s.m.str k) ∧ OnlyIn (.est :: evtBlocks) s.m m') ∧
  (s.m.rippleOn = false ∨ s.m.pck.index % (s.m.pickK * s.m.setting 0x0336) ≠ 0 → Does .ripAgePeriod s fun m' => m' = s.m) ∧
  (∀ c, s.m.rippleOn = true → s.m.pck.index % (s.m.pickK * s.m.setting 0x0336) = 0 → s.m.livedCells = [c] →
    Does .ripAgePeriod s fun m' => (m'.cell c).ripAge = min ((s.m.cell c).ripAge + 1) 127 ∧
      (∀ d, d ≠ c → m'.cell d = s.m.cell d) ∧ OnlyIn [.est] s.m m'))

/-- What is learned (R228, R230 to R234, R242): the check times of a span, its fit, and capacities that wait for rest.
Sweeps (R247, R250, R251): a freeze takes the increments, the valid mark writes every record; loads above 90 % defer
it. The model's choices in it: log entries 71 to 73 and 152. -/
def Obligations.LearningAndSweeps : Prop :=
  (∀ (s : State) (c : Nat), c < 8192 →
  (∀ k sp v t, (s.m.str (c / 512)).span = some sp → (s.m.cell c).vLast = some v → s.m.est.stepAt = some t →
    (s.m.cell c).contrib = true → (s.m.str (c / 512)).spanTakes t = true → (s.m.cell c).dvT.length = k → checkTime k ≤ t - sp.t0 →
    Does (.dvCheckTime c k) s fun m' => (m'.cell c).dv = (s.m.cell c).dv.set k (fSub v (s.m.cell c).vPre) ∧
      (m'.cell c).dvT = (s.m.cell c).dvT ++ [fSecs (t - sp.t0)] ∧ (∀ d, d ≠ c → m'.cell d = s.m.cell d) ∧
      OnlyIn [.est] s.m m') ∧
  -- 16 steps after its span ended, the RC pairs of a cell whose Rser was accepted: `r` the relaxation at the check times, less
  -- the drift of the open-circuit voltage, per ampere and less Rser
  (∀ sp pk rser w full pts, (s.m.str (c / 512)).span = some sp → s.m.strPack (c / 512) = some pk →
    (s.m.cell c).fit = some (rser, w) → sp.ended.isSome = true → 16 ≤ sp.steps →
    (full = decide ((s.m.cell c).dvT.length = 6)) →
    (pts = ((List.range (if full then 5 else 3)).map (· + 1)).map fun k =>
      ((s.m.cell c).dvT.getD k 0,
       fSub (fDiv (fNeg (fSub ((s.m.cell c).dv.getD k 0)
        (fNeg (fDiv (fMul (fMul (s.m.cell c).slope0 sp.iPost) ((s.m.cell c).dvT.getD k 0)) (fMul f3600 (s.m.cell c).q0)))))
        (fSub sp.iPost sp.iPre)) rser)) →
    (∀ f, s.m.learnBit 0 = true → s.m.fitRC full pts (impOf pk (s.m.learn c) (s.m.cell c).stepBin) = some f →
      Does (.stepFitComplete c) s fun m' => m'.cell c = (s.m.cell c).spanDone ∧
        m'.est.fitsOk = satU32 (s.m.est.fitsOk + 1) ∧ (m'.learn c).binN = (s.m.learn c).binN ∧
        (m'.learn c).q = (s.m.learn c).q ∧ (full = false → (m'.learn c).tauS = (s.m.learn c).tauS ∧
          (m'.learn c).imp = impMove (impMove (s.m.learn c).imp (4 * (s.m.cell c).stepBin + 1) 1000000 f.rf w)
            (4 * (s.m.cell c).stepBin + 3) 1000 f.tf w) ∧
        (∀ d, d ≠ c → m'.learn d = s.m.learn d ∧ m'.cell d = s.m.cell d) ∧ OnlyIn [.est, .lrn] s.m m') ∧
    (s.m.learnBit 0 = true → s.m.fitRC full pts (impOf pk (s.m.learn c) (s.m.cell c).stepBin) = none →
      Does (.stepFitComplete c) s fun m' => m'.cell c = (s.m.cell c).spanDone ∧
        m'.est.fitsBad = satU32 (s.m.est.fitsBad + 1) ∧ OnlyIn [.est] s.m m') ∧
    -- where learning no longer runs, the fit is discarded (R219)
    (s.m.learnBit 0 = false → Does (.stepFitComplete c) s fun m' => m'.cell c = (s.m.cell c).spanDone ∧
      m'.est.fitsOk = s.m.est.fitsOk ∧ m'.est.fitsBad = s.m.est.fitsBad ∧ OnlyIn [.est] s.m m')) ∧
  ((s.m.cell c).fit = none ∨ (∀ sp, (s.m.str (c / 512)).span = some sp → sp.ended = none ∨ sp.steps < 16) →
    Does (.stepFitComplete c) s fun m' => m' = s.m) ∧
  -- at a pick boundary at rest, a capacity that waits is taken: event 250, and a sweep is frozen as soon as one may be
  (∀ pk q, s.m.strPack (c / 512) = some pk → (s.m.str (c / 512)).pendQ = [(c, q)] → s.m.atRest (c / 512) = true →
    s.m.learnBit 2 = true → s.m.atBoundary = true → s.m.rankFree 3 = true →
    Does (.capApply (c / 512)) s fun m' => (m'.learn c).q = q ∧ (m'.learn c).stampS = (s.m.str (c / 512)).stampS ∧
      (m'.str (c / 512)).pendQ = [] ∧
      (s.m.lrn.sweep.isSome = true ∨ s.m.lrn.state = 3 ∨ 900 < s.m.cmd.loadLast → m'.lrn.again = true) ∧
      (s.m.lrn.sweep = none → s.m.lrn.state ≠ 3 → s.m.cmd.loadLast ≤ 900 → m'.lrn.sweep.isSome = true ∧
        m'.lrn.epoch = s.m.lrn.epoch + 1) ∧
      m'.counter (evtCnt 250) = satU32 (s.m.counter (evtCnt 250) + 1)) ∧
  (∀ n, s.m.atRest n = false ∨ s.m.learnBit 2 = false ∨ s.m.atBoundary = false ∨ s.m.rankFree 3 = false ∨
    (s.m.str n).pendQ = [] → Does (.capApply n) s fun m' => m' = s.m)) ∧
  (∀ s : State,
  (s.m.inBoot = false → s.m.lrn.sweep = none → s.m.lrn.state ≠ 3 → s.m.atBoundary = true → s.m.sweepWanted = true →
    (900 < s.m.cmd.loadLast → Does .sweepFreeze s fun m' => m'.lrn = { s.m.lrn with state := 3, deferAt := s.m.sys.clock } ∧
      Raises [254] s.m m' ∧ OnlyIn (.lrn :: evtBlocks) s.m m') ∧
    -- the freeze; outside the write window its header waits, and the sweep is paused
    (s.m.cmd.loadLast ≤ 900 → Does .sweepFreeze s fun m' => m'.lrn.epoch = s.m.lrn.epoch + 1 ∧
      m'.lrn.state = (if s.m.flashOk then 1 else 2) ∧ m'.lrn.again = false ∧ m'.lrn.recs = s.m.lrn.recs ∧
      m'.lrn.waiters = s.m.lrn.waiters ++ s.m.lrn.waitersNext ∧ m'.lrn.waitersNext = [] ∧
      (∃ sw, m'.lrn.sweep = some sw ∧ sw.epoch = s.m.lrn.epoch + 1 ∧ sw.entries.map (·.cell) = s.m.allCells ∧
        sw.header = bit s.m.flashOk) ∧ Raises (if s.m.flashOk then [] else [254]) s.m m' ∧ OnlyIn (.lrn :: evtBlocks) s.m m')) ∧
  (s.m.inBoot = true ∨ s.m.lrn.sweep.isSome = true ∨ s.m.lrn.state = 3 ∨ s.m.atBoundary = false ∨ s.m.sweepWanted = false →
    Does .sweepFreeze s fun m' => m' = s.m) ∧
  -- a deferral ends when the load has fallen, or after ten minutes
  (s.m.inBoot = false → s.m.lrn.state = 3 → s.m.flashOk = true → s.m.atBoundary = true →
    (s.m.cmd.loadLast ≤ 900 ∨ s.m.lrn.deferAt + secs 600 ≤ s.m.sys.clock) → Does .sweepDeferEnd s fun m' =>
      m'.lrn.epoch = s.m.lrn.epoch + 1 ∧ m'.lrn.state = 1 ∧ m'.lrn.sweep.isSome = true ∧ OnlyIn [.lrn] s.m m') ∧
  (s.m.lrn.state ≠ 3 ∨ s.m.atBoundary = false ∨
    (900 < s.m.cmd.loadLast ∧ s.m.sys.clock < s.m.lrn.deferAt + secs 600) → Does .sweepDeferEnd s fun m' => m' = s.m) ∧
  -- the valid mark: each frozen cell's record gains its increments beside its older one, and the epoch becomes the valid one
  (∀ sw e, s.m.lrn.sweep = some sw → s.m.flashOk = true → s.m.lrn.waiters = [] → s.m.lrn.waitersNext = [] →
    sw.recovered = false → sw.entries = [e] →
    (((tabGet ({} : LSlots) s.m.lrn.recs e.cell).newest).getD {}).epoch < sw.epoch → Does .sweepValidMark s fun m' =>
      m'.lrn.sweep = none ∧ m'.lrn.state = 0 ∧ m'.lrn.mark = sw.epoch ∧ m'.lrn.markSecs = s.m.blt.data.stamp.secs ∧
      (tabGet ({} : LSlots) m'.lrn.recs e.cell).newest =
        some (sweepRec sw.epoch ((tabGet ({} : LSlots) s.m.lrn.recs e.cell).newest.getD {}) e) ∧
      (∀ r, (tabGet ({} : LSlots) s.m.lrn.recs e.cell).newest = some r →
        (tabGet ({} : LSlots) m'.lrn.recs e.cell).a = some r ∨ (tabGet ({} : LSlots) m'.lrn.recs e.cell).b = some r) ∧
      (∀ d, d ≠ e.cell → tabGet ({} : LSlots) m'.lrn.recs d = tabGet ({} : LSlots) s.m.lrn.recs d) ∧ Raises [251] s.m m' ∧
      OnlyIn (.lrn :: evtBlocks) s.m m') ∧
  -- LEARN_SWEEP_NOW completes with its epoch, or with TIMEOUT after 15 min
  (∀ sw id t0 o, s.m.lrn.sweep = some sw → s.m.flashOk = true → s.m.lrn.waiters = [(id, t0)] → s.m.lrn.waitersNext = [] →
    s.m.outst? id = some o → o.live = true → Does .sweepValidMark s fun m' => m'.lrn.waiters = [] ∧
      ∃ rep : Reply, Out.reply o.ctx rep ∈ m'.out ∧ rep.tag = o.tag ∧
        (if t0 + secs 900 < s.m.sys.clock then rep.status = .timeout ∧ rep.payload = []
         else rep.status = .done ∧ rep.payload = leBytes 4 sw.epoch)) ∧
  (s.m.flashOk = false ∨ s.m.lrn.sweep = none → Does .sweepValidMark s fun m' => m' = s.m))

/-! ### The weft array -/

/-- Tile faults (R271, R272, R273, R283): a live tile that is late, and a tile whose watchdog expires, are FAULT with
their causes and lose their groups; no other live tile is touched. A bank's corrected errors are counted; an
uncorrectable one in a live home bank faults the tile, one in an exchange bank costs the estimator the frames. A
takeover comes into force (R266, R275), a tile starts or fails its self-test (R271, R296), shedding ends (R279). The
model's choices in it: log entries 74, 157 and 158. -/
def Obligations.TileFaultsAndTakeover : Prop :=
  (∀ s : State,
  (∀ t : Nat, (s.m.tile t).state = .live →
    (Does (.tileLateTimeout t) s (TileFails t 2 s.m)) ∧ (Does (.tileWatchdogExpiry t) s (TileFails t 4 s.m)) ∧
    ∀ (b : Nat) (fs : List Nat), b < 64 → b / 2 = t → Does (.bankEccError b true fs) s (TileFails t 3 s.m)) ∧
  -- a spare that fails is replaced by the lowest pool tile, powered up if need be
  (∀ t : Nat, (s.m.tile t).state = .spare → (∀ k ∈ s.m.wft.take, k.repl ≠ t) → Does (.tileWatchdogExpiry t) s fun m' =>
    (m'.tile t).state = .fault ∧ (m'.tile t).cause = 4 ∧
    (∀ p, tileNos.find? (fun u => s.m.isPool u) = some p → (m'.tile p).state = .spare ∨
      (m'.tile p).state = .starting ∧ (m'.tile p).toSpare = true) ∧
    OnlyIn (finishBlocks ++ [.wft, .rep]) s.m m') ∧
  (∀ t : Nat, (s.m.tile t).state ∉ [.live, .spare, .replay] →
    (Does (.tileWatchdogExpiry t) s fun m' => m' = s.m) ∧ Does (.tileLateTimeout t) s fun m' => m' = s.m) ∧
  (∀ (b : Nat) (fs : List Nat), Does (.bankEccError b false fs) s fun m' =>
    m'.counter 0x020308 = satU32 (s.m.counter 0x020308 + 1) ∧
    (b < 64 → m'.counter (0x07010C + 0x10 * (b / 2)) = satU32 (s.m.counter (0x07010C + 0x10 * (b / 2)) + 1)) ∧
    m'.counter (evtCnt 204) = satU32 (s.m.counter (evtCnt 204) + 1) ∧
    CountsOnly (0x020308 :: if b < 64 then [0x07010C + 0x10 * (b / 2)] else []) s.m m' ∧ OnlyIn evtBlocks s.m m') ∧
  (∀ (b : Nat) (fs : List Nat), b = 64 ∨ b = 65 → Does (.bankEccError b true fs) s fun m' =>
    m'.est = { s.m.est with badFrames := s.m.est.badFrames ++ fs } ∧ Raises [205] s.m m' ∧
    m'.counter 0x02030C = satU32 (s.m.counter 0x02030C + 1) ∧ CountsOnly [0x02030C] s.m m' ∧
    OnlyIn (.est :: evtBlocks) s.m m') ∧
  -- elsewhere the reading master has an error
  (∀ (b : Nat) (fs : List Nat), 65 < b ∨ b < 64 ∧ (s.m.tile (b / 2)).state ∉ [.live, .replay] →
    Does (.bankEccError b true fs) s fun m' => m'.out = .bankError b :: s.m.out ∧ Raises [205] s.m m' ∧
      m'.counter 0x02030C = satU32 (s.m.counter 0x02030C + 1) ∧ CountsOnly [0x02030C] s.m m' ∧
      OnlyIn (.out :: evtBlocks) s.m m')) ∧
  (∀ s : State,
  (∀ (t : Nat) (lost : List Nat) (k : Takeover), (s.m.wft.take.find? fun x => x.faulted = t) = some k → k.ready = true →
    Does (.takeoverAssign t lost) s fun m' =>
      (m'.tile k.repl).state = .live ∧ (m'.tile k.repl).groups = k.groups ∧
      m'.wft.take = s.m.wft.take.filter (fun x => x.faulted ≠ t) ∧
      (∀ g ∈ k.groups, ∀ j < 16, (m'.cell (s.m.groupCell g + j)).valid = false) ∧
      m'.counter 0x070024 = satU32 (s.m.counter 0x070024 + 1) ∧
      m'.counter (evtCnt 192) = satU32 (s.m.counter (evtCnt 192) + 1) ∧
      m'.counter (evtCnt 195) = satU32 (s.m.counter (evtCnt 195) + 1) ∧
      OnlyIn (finishBlocks ++ [.wft, .est, .lrn, .rep]) s.m m') ∧
  (∀ (t : Nat) (lost : List Nat), (∀ x, (s.m.wft.take.find? fun x => x.faulted = t) = some x → x.ready = false) →
    Does (.takeoverAssign t lost) s fun m' => m' = s.m) ∧
  (∀ t : Nat, (s.m.tile t).state = .starting →
    (Does (.tileStarted t true) s fun m' =>
      (if (s.m.tile t).toSpare then (m'.tile t).state = .spare else (m'.tile t).state ∈ [.idle, .off]) ∧
      (m'.tile t).toSpare = false ∧
      m'.wft.take = s.m.wft.take.map (fun k => if k.repl = t then { k with ready := true } else k) ∧
      OnlyIn [.wft, .cnt] s.m m') ∧
    Does (.tileStarted t false) s fun m' => (m'.tile t).state = .fault ∧ (m'.tile t).cause = 1) ∧
  (s.m.wft.shed = true → Does .shedEnd s fun m' => m'.wft.shed = false ∧
    (∀ t < 32, (s.m.tile t).state = .shed → (m'.tile t).state ∈ [.off, .starting]) ∧
    Raises [198] s.m m' ∧ OnlyIn (.wft :: evtBlocks) s.m m') ∧
  (s.m.wft.shed = false → Does .shedEnd s fun m' => m' = s.m))

/-- Handover of the banks (R289 to R291, R306): what the host may ask for, each refusal with its cause, and
completion; port B of a bobbin bank takes no request. Power domains (R294 to R297, R309): a request that is granted,
each refusal that R309 lists by mode and domain, the end of a change, and the replay domain's time. The model's
choices in it: log entries 21, 75 and 158. -/
def Obligations.BanksAndPower : Prop :=
  (∀ s : State,
  (∀ b x : Nat, b < 64 → (s.m.tile (b / 2)).state ∉ [.live, .spare, .starting] → (s.m.bank b).dest = none →
    (s.m.dom (32 + b / 4)).state ≠ 0 → x ≠ (s.m.bank b).owner → (33 ≤ x ∧ x ≤ 37 ∨ x = b / 2) →
    Does (.bnkOwnReqWrite b x) s fun m' =>
      m'.bank b = { s.m.bank b with dest := some x, refused := false, req := some x } ∧ (∀ c, c ≠ b → m'.bank c = s.m.bank c) ∧
      Quiet s.m m' ∧ OnlyIn [.wft, .cnt] s.m m') ∧
  (∀ b x cause : Nat, b < 68 → x ≠ (s.m.bank b).owner →
    (37 < x ∧ cause = 1 ∨
     x ≤ 37 ∧ (64 ≤ b ∨ (s.m.tile (b / 2)).state ∈ [.live, .spare, .starting]) ∧ cause = 2 ∨
     x ≤ 37 ∧ b < 64 ∧ (s.m.tile (b / 2)).state ∉ [.live, .spare, .starting] ∧ (s.m.bank b).dest.isSome ∧ cause = 3 ∨
     x ≤ 37 ∧ b < 64 ∧ (s.m.tile (b / 2)).state ∉ [.live, .spare, .starting] ∧ (s.m.bank b).dest = none ∧
       (s.m.dom (32 + b / 4)).state = 0 ∧ cause = 4 ∨
     x ≤ 37 ∧ b < 64 ∧ (s.m.tile (b / 2)).state ∉ [.live, .spare, .starting] ∧ (s.m.bank b).dest = none ∧
       (s.m.dom (32 + b / 4)).state ≠ 0 ∧ ¬(33 ≤ x ∧ x ≤ 37 ∨ x = b / 2) ∧ cause = 5) →
    Does (.bnkOwnReqWrite b x) s fun m' =>
      m'.bank b = { s.m.bank b with refused := true, req := none } ∧ (∀ c, c ≠ b → m'.bank c = s.m.bank c) ∧
      m'.wft.lastBank = b ∧ m'.wft.lastPortB = false ∧ m'.wft.lastMaster = x % 64 ∧ m'.wft.lastCause = cause ∧
      m'.wft.tiles = s.m.wft.tiles ∧ m'.wft.doms = s.m.wft.doms ∧ Raises [201] s.m m' ∧
      m'.counter 0x020314 = satU32 (s.m.counter 0x020314 + 1) ∧ CountsOnly [0x020314] s.m m' ∧
      OnlyIn (.wft :: evtBlocks) s.m m') ∧
  (∀ b x : Nat, b < 64 → Does (.bnkOwnReqBWrite b x) s fun m' => m' = s.m) ∧
  (∀ b x : Nat, (s.m.bank b).dest = some x →
    (b < 64 → x ≠ b / 2 → (s.m.tile (b / 2)).state ≠ .live ∧ ((s.m.tile (b / 2)).state = .replay → x ≠ 33)) →
    Does (.handoverComplete b false) s fun m' =>
    m'.bank b = { s.m.bank b with owner := x, dest := none, req := none } ∧ (∀ c, c ≠ b → m'.bank c = s.m.bank c) ∧
    m'.counter 0x020310 = satU32 (s.m.counter 0x020310 + 1) ∧
    m'.counter (evtCnt 200) = satU32 (s.m.counter (evtCnt 200) + 1) ∧ OnlyIn (.wft :: evtBlocks) s.m m') ∧
  -- what master 33 has loaded for a replay goes on to the tile, and a live tile's bank goes back to it
  (∀ b x : Nat, b < 64 → (s.m.bank b).dest = some x → x ≠ b / 2 →
    (x = 33 ∧ (s.m.tile (b / 2)).state = .replay ∨ (s.m.tile (b / 2)).state = .live) → (s.m.dom (32 + b / 4)).state ≠ 0 →
    Does (.handoverComplete b false) s fun m' =>
      m'.bank b = { s.m.bank b with owner := x, dest := some (b / 2), refused := false, req := some (b / 2) } ∧
      OnlyIn (.wft :: evtBlocks) s.m m') ∧
  (∀ b x : Nat, (s.m.bank b).toB = some x → Does (.handoverComplete b true) s fun m' =>
    m'.bank b = { s.m.bank b with ownerB := x, toB := none, reqB := none } ∧ OnlyIn (.wft :: evtBlocks) s.m m')) ∧
  (∀ s : State,
  (∀ d q : Nat, d < 52 → q ≠ 3 → s.m.domRefusal d q = 0 → Does (.pwrDomReqWrite d q) s fun m' =>
    -- the request stands where the domain is then due to be as it asks; overridden, it returns to AUTO
    (m'.dom d).req = (if (s.m.updDom d fun x => { x with req := q }).domDue s.m.sys.draftLoaded d = reqState q then q else 0) ∧
    (m'.dom d).state = (s.m.dom d).state ∧ (∀ e, (m'.dom e).state = (s.m.dom e).state) ∧
    (∀ b, m'.bank b = s.m.bank b) ∧ Quiet s.m m' ∧ OnlyIn [.wft, .cnt] s.m m') ∧
  (∀ d q cause : Nat, d < 52 →
    (s.m.sys.mode = .boot ∧ cause = 6 ∨
     s.m.sys.mode ≠ .boot ∧ q ≠ 0 ∧ (d = 49 ∨ d = 50) ∧ cause = 2 ∨
     s.m.sys.mode ≠ .boot ∧ q = 2 ∧ (d < 32 ∨ d = 48 ∨ d = 51) ∧ cause = 3 ∨
     s.m.sys.mode ≠ .boot ∧ (q = 1 ∨ q = 3) ∧ d < 32 ∧ (s.m.tile d).state = .fault ∧ cause = 4 ∨
     s.m.sys.mode ≠ .boot ∧ (q = 1 ∨ q = 3) ∧ d < 32 ∧ (s.m.tile d).state = .shed ∧ cause = 5 ∨
     s.m.sys.mode ≠ .boot ∧ (q = 1 ∨ q = 3) ∧ d < 32 ∧ (s.m.tile d).state ∈ [.live, .spare, .starting, .replay] ∧
       cause = 1) →
    Does (.pwrDomReqWrite d q) s fun m' => (m'.dom d).req = 0 ∧ (m'.dom d).refuse = cause ∧ Raises [207] s.m m' ∧
      OnlyIn (.wft :: evtBlocks) s.m m') ∧
  (∀ d x : Nat, (s.m.dom d).dest = some x → Does (.domainChangeDone d) s fun m' =>
    (m'.dom d).state = x ∧ (∀ e, e ≠ d → (m'.dom e).state = (s.m.dom e).state) ∧
    m'.counter (evtCnt 206) = satU32 (s.m.counter (evtCnt 206) + 1) ∧ OnlyIn (.wft :: evtBlocks) s.m m') ∧
  (s.m.rep.state ≠ 1 → s.m.rep.state ≠ 2 → (s.m.dom 48).req = 0 → Does .replayDomainOff s fun m' =>
    m'.wft.replayKeep = false ∧ (m'.dom 48).dest.getD (m'.dom 48).state = 0 ∧ OnlyIn [.wft, .cnt] s.m m'))

/-! ### The selvedge -/

/-- A lane evaluates a pick within its 200 µs (R316, R318, R321, R323): the presence of its values, the consecutive
counts, its votes from them; no other lane changes, and with two votes for trip no output conducts. Failing lanes
(R326, R327): a missed deadline is counted and the second in a row fails the lane; a wrong block CRC, a failed self-
test and a dispute that lasts fail it at once; two lanes that accuse the third fail it, one alone is a dispute. The
model's choices in it: log entries 77 to 82. -/
def Obligations.LaneVotesAndFailures : Prop :=
  (∀ (s : State) (i : Nat) (bad : List Nat) (t : Nat), i < 3 →
  (s.m.inBoot = false → (s.m.lane i).state = .healthy → s.m.pck.released = true →
    (s.m.lane i).evalPick ≠ some s.m.pck.index → t ≤ s.m.pck.instant + usec 200 →
    Does (.laneEvaluation i bad t) s fun m' =>
      (m'.lane i).evalPick = some s.m.pck.index ∧ (m'.lane i).late = false ∧ (m'.lane i).lateRun = 0 ∧
      (m'.lane i).pres = presStep s.m.pck.instant (s.m.lanePresence bad)
        ((s.m.lane i).pres.filter fun p => s.m.valueConfigured p.1) ∧
      (m'.lane i).counts = countStep (s.m.laneConds i bad (m'.lane i))
        ((s.m.lane i).counts.filter fun p => s.m.itemConfigured p.1) ∧
      (m'.lane i).votes = m'.votesOf (m'.lane i) ∧
      (∀ j < 3, j ≠ i → m'.lane j = s.m.lane j) ∧
      (2 ≤ m'.votingLanes.length → m'.slv.on = 0) ∧
      -- two votes of three, or one of two, are a trip: the lane latches, and R30 takes the module to SAFE-HOLD
      ((m'.slv.voting = 1 ∧ 2 ≤ m'.votingLanes.length ∨ m'.slv.voting = 2 ∧ 1 ≤ m'.votingLanes.length) →
        (m'.lane i).latch = true ∧ m'.slv.tripOn = true ∧
        (s.m.slv.tripOn = false → m'.sys.tripSeen = true ∧ m'.slv.tripPick = s.m.pck.index ∧ (∀ x < 24, m'.soReq x = false) ∧
          m'.counter (evtCnt 128) = satU32 (s.m.counter (evtCnt 128) + 1))) ∧
      OnlyIn (evtBlocks ++ [.slv, .sys, .clo, .bulk, .out, .free]) s.m m') ∧
  -- a lane that is not HEALTHY, a pick not released, or one evaluated before: nothing
  (s.m.inBoot = true ∨ (s.m.lane i).state ≠ .healthy ∨ s.m.pck.released = false ∨
    (s.m.lane i).evalPick = some s.m.pck.index → Does (.laneEvaluation i bad t) s fun m' => m' = s.m)) ∧
  (∀ (s : State) (i : Nat), i < 3 → s.m.inBoot = false → (s.m.lane i).state = .healthy →
  (s.m.pck.running = true → (s.m.lane i).evalPick ≠ some s.m.pck.index → (s.m.lane i).latePick ≠ some s.m.pck.index →
    ((s.m.lane i).lateRun = 0 → Does (.laneWatchdogExpiry i) s fun m' =>
      m'.lane i = { s.m.lane i with late := true, lateRun := 1, latePick := some s.m.pck.index } ∧
      (∀ j < 3, j ≠ i → m'.lane j = s.m.lane j) ∧ m'.counter 0x0800F4 = satU32 (s.m.counter 0x0800F4 + 1) ∧
      m'.counter (evtCnt 139) = satU32 (s.m.counter (evtCnt 139) + 1) ∧ OnlyIn (.slv :: evtBlocks) s.m m') ∧
    (1 ≤ (s.m.lane i).lateRun → (∀ j < 3, j ≠ i → (s.m.lane j).decl = []) →
      Does (.laneWatchdogExpiry i) s fun m' => LaneFails i 1 s.m m')) ∧
  ((∀ j < 3, j ≠ i → (s.m.lane j).decl = []) →
    (Does (.laneBlockCrcCheck i false) s fun m' => LaneFails i 3 s.m m') ∧
    (Does (.laneSelfTestCycle i false) s fun m' => LaneFails i 4 s.m m') ∧
    ((s.m.lane i).dispute = true → Does (.laneDisputeExpiry i) s fun m' => LaneFails i 7 s.m m')) ∧
  (Does (.laneBlockCrcCheck i true) s fun m' => m' = s.m) ∧ (Does (.laneSelfTestCycle i true) s fun m' => m' = s.m) ∧
  -- LANE_TICK with nothing declared forms the votes again
  (∀ t : Nat, (∀ j < 3, (s.m.lane j).decl = []) → Does (.laneTick i [] t) s fun m' =>
    (m'.lane i).state = .healthy ∧ (m'.lane i).blind = s.m.blindAll i (s.m.lane i) t ∧
    (m'.lane i).votes = m'.votesOf (m'.lane i) ∧ (∀ j < 3, j ≠ i → (m'.lane j).votes = (s.m.lane j).votes) ∧
    OnlyIn (evtBlocks ++ [.slv, .sys, .clo, .bulk, .out, .free]) s.m m') ∧
  (∀ j k c d t : Nat, s.m.slv.voting = 1 → j < 3 → k < 3 → i ≠ j → i ≠ k → j ≠ k → (s.m.lane j).state = .healthy →
    (s.m.lane k).state = .healthy → (s.m.lane j).decl = [] →
    ((s.m.lane k).decl = [(j, d)] → Does (.laneTick i [(j, c)] t) s fun m' =>
      (m'.lane j).state = .failed ∧ (m'.lane j).cause = (if i < k then c else d) ∧ (m'.lane i).state = .healthy ∧
      (m'.lane k).state = .healthy ∧ m'.slv.voting = 2) ∧
    ((s.m.lane k).decl = [] → (s.m.lane i).dispute = false → Does (.laneTick i [(j, c)] t) s fun m' =>
      (m'.lane j).state = .healthy ∧ (m'.lane i).dispute = true ∧ m'.slv.voting = 1 ∧
      m'.counter 0x080100 = satU32 (s.m.counter 0x080100 + 1) ∧
      m'.counter (evtCnt 140) = satU32 (s.m.counter (evtCnt 140) + 1))))

/-- Blind values and the degraded timer (R314, R318, R327, R353). Pulse tests and faults of the safety outputs (R329
to R333, R707). The model's choices in it: log entries 82 and 84 to 86. -/
def Obligations.BlindRunsAndOutputTests : Prop :=
  (∀ s : State,
  (∀ i kind item t : Nat, i < 3 → (s.m.lane i).state = .healthy → s.m.evaluated 10 = true →
    s.m.valueConfigured (pkey kind item) = true → s.m.isBlind i (s.m.lane i) t (pkey kind item) = true →
    Does (.blindTimeout i kind item t) s fun m' =>
      pkey kind item ∈ (m'.lane i).blind ∧ (m'.lane i).votes.testBit 10 = true ∧
      (∀ j < 3, j ≠ i → m'.lane j = s.m.lane j) ∧
      OnlyIn (evtBlocks ++ [.slv, .sys, .clo, .bulk, .out, .free]) s.m m') ∧
  (∀ i kind item t : Nat, s.m.isBlind i (s.m.lane i) t (pkey kind item) = false →
    Does (.blindTimeout i kind item t) s fun m' => m' = s.m) ∧
  (∀ i kind item t : Nat, i < 3 → kind < 5 → (s.m.lane i).state = .healthy → s.m.evaluated 10 = true →
    s.m.valueConfigured (pkey kind item) = true → pkey kind item ∉ (s.m.lane i).half →
    s.m.blindOf kind ≤ 2 * (s.m.lane i).missing t (pkey kind item) →
    Does (.blindHalfTime i kind item t) s fun m' =>
      m'.lane i = { s.m.lane i with half := (s.m.lane i).half ++ [pkey kind item] } ∧
      m'.counter (evtCnt 138) = satU32 (s.m.counter (evtCnt 138) + 1) ∧ OnlyIn (.slv :: evtBlocks) s.m m') ∧
  -- DEGRADED_TIMEOUT: every HEALTHY lane votes for it and latches, and nothing conducts
  (s.m.degradedOut = true → s.m.healthyLanes ≠ [] → Does .degradedTimeout s fun m' =>
    (∀ i ∈ s.m.healthyLanes, (m'.lane i).votes.testBit 12 = true ∧ (m'.lane i).latch = true) ∧ m'.slv.tripOn = true ∧
    m'.slv.on = 0 ∧
    (s.m.slv.tripOn = false → m'.sys.tripSeen = true ∧
      m'.counter (evtCnt 128) = satU32 (s.m.counter (evtCnt 128) + 1)) ∧
    OnlyIn (evtBlocks ++ [.slv, .sys, .clo, .bulk, .out, .free]) s.m m') ∧
  (s.m.degradedOut = false → Does .degradedTimeout s fun m' => m' = s.m) ∧
  (∀ b, s.m.slv.voting = 2 → s.m.block = some b → 9 * (3600 * blkDegraded b) ≤ 10 * s.m.slv.degraded →
    s.m.slv.degWarned = false → Does .degradedWarn s fun m' =>
      m'.slv = { s.m.slv with degWarned := true } ∧ Raises [132] s.m m' ∧ CountsOnly [] s.m m' ∧
      OnlyIn (.slv :: evtBlocks) s.m m') ∧
  (s.m.slv.voting = 2 → s.m.flashOk = true → s.m.inBoot = false → Does .degradedSave s fun m' =>
    m'.slv = { s.m.slv with degSaved := some s.m.slv.degraded } ∧ OnlyIn [.slv] s.m m')) ∧
  (∀ s : State,
  (∀ x : Nat, s.m.slv.on.testBit x = true → s.m.slv.pulse = none → Does (.pulseTestStart x) s fun m' =>
    (s.m.hk.j2 = true → m'.slv.pulse = some { so := x, low := (s.m.sout x).lowNext }) ∧
    (s.m.hk.j2 = false → m'.slv.pulse = none ∧ m'.slv.ptSo = x ∧ m'.slv.ptLow = (s.m.sout x).lowNext ∧ m'.slv.ptResult = 3) ∧
    (m'.sout x).lowNext = !(s.m.sout x).lowNext ∧ (∀ y, y ≠ x → m'.sout y = s.m.sout y) ∧ m'.slv.on = s.m.slv.on ∧
    OnlyIn [.slv] s.m m') ∧
  (∀ x : Nat, s.m.slv.on.testBit x = false ∨ s.m.slv.pulse.isSome = true →
    Does (.pulseTestStart x) s fun m' => m' = s.m) ∧
  -- a test of a side whose switch is off
  (∀ p a b, s.m.slv.pulse = some p → p.back = false → p.so < 24 → Does (.pulseTestSwitchOn a b) s fun m' =>
    (s.m.hk.j2 = false → m'.slv = { s.m.slv with pulse := none, ptSo := p.so, ptLow := p.low, ptResult := 3 }) ∧
    (s.m.hk.j2 = true → a = true → b = true →
      m'.slv = { s.m.slv with pulse := none, ptSo := p.so, ptLow := p.low, ptResult := 0 }) ∧
    (s.m.hk.j2 = true → a = true → b = false → m'.slv = { s.m.slv with pulse := some { p with back := true } }) ∧
    (s.m.hk.j2 = true → a = false → m'.slv.pulse = none ∧ m'.slv.ptSo = p.so ∧ m'.slv.ptLow = p.low ∧
      m'.slv.ptResult = 1 ∧ m'.counter 0x0800FC = satU32 (s.m.counter 0x0800FC + 1) ∧
      ((s.m.sout p.so).stuck.testBit (if p.low then 2 else 1) = false →
        OutFaults p.so (if p.low then 2 else 1) s.m m')) ∧
    (a = true ∨ s.m.hk.j2 = false → OnlyIn [.slv] s.m m') ∧ OnlyIn (.slv :: evtBlocks) s.m m') ∧
  (∀ p, s.m.slv.pulse = some p → p.back = true → p.so < 24 → Does .pulseTestOnTimeout s fun m' =>
    m'.slv.pulse = none ∧ m'.slv.ptSo = p.so ∧ m'.slv.ptLow = p.low ∧ m'.slv.ptResult = (if s.m.hk.j2 then 2 else 3) ∧
    (s.m.hk.j2 = true → (s.m.sout p.so).stuck.testBit (if p.low then 4 else 3) = false →
      OutFaults p.so (if p.low then 4 else 3) s.m m') ∧ OnlyIn (.slv :: evtBlocks) s.m m') ∧
  -- the four faults that are timed
  (∀ (x : Nat) (low : Bool), x < 24 →
    (s.m.slv.on.testBit x = false → (s.m.sout x).holds (if low then 2 else 1) = false → Does (.soStuckOnTimeout x low) s fun m' =>
      OutFaults x (if low then 2 else 1) s.m m' ∧ OnlyIn (.slv :: evtBlocks) s.m m') ∧
    (s.m.slv.on.testBit x = true → s.m.hk.j2 = true → (s.m.sout x).holds (if low then 4 else 3) = false →
      Does (.soStuckOffTimeout x low) s fun m' => OutFaults x (if low then 4 else 3) s.m m' ∧ OnlyIn (.slv :: evtBlocks) s.m m') ∧
    (s.m.slv.on.testBit x = true → (s.m.sout x).holds 5 = false → Does (.soOverloadTimeout x) s fun m' =>
      OutFaults x 5 s.m m' ∧ OnlyIn (.slv :: evtBlocks) s.m m') ∧
    (s.m.slv.on.testBit x = true → s.m.hk.j2 = true → (s.m.sout x).holds 6 = false → Does (.soOpenLoadTimeout x) s fun m' =>
      OutFaults x 6 s.m m' ∧ OnlyIn (.slv :: evtBlocks) s.m m')) ∧
  (∀ (x : Nat) (low : Bool), s.m.hk.j2 = false →
    (Does (.soStuckOffTimeout x low) s fun m' => m' = s.m) ∧ Does (.soOpenLoadTimeout x) s fun m' => m' = s.m))

/-- Safety inputs (R335 to R338): the channels as read, demand, discrepancy, and the local reset on SI7. Seal and
switches (R367, R370): the readings; 20 ms of an open contact in switch mode, or a switch that moves with a block
armed, are a break, recorded once. The model's choices in it: log entries 33 to 35, 87 and 161. -/
def Obligations.InputsSealAndSwitches : Prop :=
  (∀ s : State,
  (∀ (i : Nat) (a b : Bool) (t : Nat), i < 7 → Does (.siInputChange i a b t) s fun m' =>
    (m'.sin i).a = a ∧ (m'.sin i).b = b ∧ (∀ j, j ≠ i → m'.sin j = s.m.sin j) ∧
    ((m'.sin i).discrep = true → (s.m.sin i).discrep = true) ∧
    Raises (if !s.m.inBoot && !s.m.siDemand i && m'.siDemand i then [135] else []) s.m m' ∧
    CountsOnly [] s.m m' ∧ OnlyIn (evtBlocks ++ [.slv, .sys]) s.m m') ∧
  -- a discrepancy clears only with the inactive combination after the active one
  (∀ (i : Nat) (a b : Bool) (t : Nat), i < 7 → (s.m.sin i).discrep = true → Does (.siInputChange i a b t) s fun m' =>
    (m'.sin i).discrep = !((s.m.sin i).activeSeen && m'.siInactive i)) ∧
  (∀ i t at_ : Nat, s.m.inBoot = false → (s.m.sin i).mixed = some at_ → at_ + s.m.siLimit i < t →
    (s.m.sin i).discrep = false → s.m.siActive i = false → s.m.siInactive i = false → Does (.siDiscrepancy i t) s fun m' =>
      m'.sin i = { s.m.sin i with discrep := true, activeSeen := false } ∧ (∀ j, j ≠ i → m'.sin j = s.m.sin j) ∧
      m'.counter 0x0800F8 = satU32 (s.m.counter 0x0800F8 + 1) ∧ CountsOnly [0x0800F8] s.m m' ∧
      Raises (136 :: if s.m.siStop i then [135] else []) s.m m' ∧ OnlyIn (.slv :: evtBlocks) s.m m') ∧
  -- SI7 inactive after 100 ms to 5 s of active time: a local reset waits for the boundary
  (∀ (b : Bool) (t t0 : Nat), s.m.sys.mode = .safeHold → s.m.slv.si7At = some t0 → b = s.m.siAnti 7 →
    (s.m.sin 7).discrep = false → s.m.votingLanes = [] → s.m.failedLanes ≤ 1 → 2 ≤ s.m.healthyLanes.length →
    s.m.dieCool = true → s.m.sys.pending = none →
    (msec 100 ≤ t - t0 → t - t0 ≤ secs 5 → Does (.siInputChange 7 false b t) s fun m' =>
      m'.sys = { s.m.sys with clock := max s.m.sys.clock t,
                              pending := some { target := s.m.resetTarget, cmd := none, ctx := 0, reset := true, local_ := true } } ∧
      m'.slv.si7At = none ∧ OnlyIn [.slv, .sys] s.m m') ∧
    (t - t0 < msec 100 ∨ secs 5 < t - t0 → Does (.siInputChange 7 false b t) s fun m' =>
      m'.sys = { s.m.sys with clock := max s.m.sys.clock t } ∧ m'.slv.si7At = none ∧ Raises [137] s.m m' ∧
      m'.counter 0x000104 = satU32 (s.m.counter 0x000104 + 1) ∧ CountsOnly [0x000104] s.m m' ∧
      OnlyIn (evtBlocks ++ [.slv, .sys]) s.m m')) ∧
  (∀ (b : Bool) (t : Nat), s.m.inBoot = false → (b = !s.m.siAnti 7) → s.m.slv.si7At = none →
    Does (.siInputChange 7 true b t) s fun m' => m'.slv.si7At = some t ∧ m'.sys.pending = s.m.sys.pending ∧
      OnlyIn [.slv, .sys] s.m m')) ∧
  (∀ s : State,
  (∀ closed : Bool, (Does (.sealContactChange 0 closed) s fun m' =>
      m'.com = { s.m.com with sealA := closed, sealTimer := !(closed && s.m.com.sealB) } ∧ OnlyIn [.com] s.m m') ∧
    Does (.sealContactChange 1 closed) s fun m' =>
      m'.com = { s.m.com with sealB := closed, sealTimer := !(s.m.com.sealA && closed) } ∧ OnlyIn [.com] s.m m') ∧
  (s.m.com.sealTimer = true → s.m.switchMode = true → s.m.com.sealBroken = false → Does .sealBreak s fun m' =>
    m'.com = { s.m.com with sealBroken := true } ∧ m'.sys = { s.m.sys with sealSeen := true } ∧ Raises [145] s.m m' ∧
    CountsOnly [] s.m m' ∧ OnlyIn (evtBlocks ++ [.com, .sys]) s.m m') ∧
  (s.m.com.sealTimer = false ∨ s.m.switchMode = false ∨ s.m.com.sealBroken = true →
    Does .sealBreak s fun m' => m' = s.m) ∧
  (∀ lane sw : Nat, lane < 2 → s.m.switchMode = true → s.m.com.armed.isSome = true → s.m.com.sealBroken = false →
    sw ≠ (if lane = 0 then s.m.com.swA else s.m.com.swB) → Does (.sealSwitchChange lane sw) s fun m' =>
      (if lane = 0 then m'.com.swA else m'.com.swB) = sw ∧ m'.com.sealBroken = true ∧ m'.sys.sealSeen = true ∧
      Raises [145] s.m m' ∧ OnlyIn (evtBlocks ++ [.com, .sys]) s.m m') ∧
  (∀ lane sw : Nat, lane < 2 → s.m.switchMode = false ∨ s.m.com.armed = none →
    Does (.sealSwitchChange lane sw) s fun m' =>
      (if lane = 0 then m'.com.swA else m'.com.swB) = sw ∧ m'.com.sealBroken = s.m.com.sealBroken ∧
      Quiet s.m m' ∧ OnlyIn [.com] s.m m'))

/-! ### Commissioning -/

/-- Blocks, profiles and arming (R317, R362 to R369): what a load stages, when an arming is taken up, and what is
armed when both lanes accept their copies. The model's choices in it: log entries 88 and 89. -/
def Obligations.Arming : Prop := ∀ (r : Req) (s : State),
  (∀ b, May 0x0401 r s.m .engineer → r.payload.length = 8 → s.m.sys.mode = .commission → s.m.comBusy = false →
    s.m.readPages (field r.payload 0 4) 512 = .ok b →
    (s.m.safetyFused = true → s.m.blockOk b = true → Does (.safetyBlockLoad r) s fun m' =>
      RepliesLate 0x0401 r .done [] s.m m' ∧ m'.com = { s.m.com with staged := some b } ∧ Raises [141] s.m m' ∧
      CountsOnly [] s.m m' ∧ OnlyIn (.com :: evtBlocks ++ replyBlocks) s.m m') ∧
    (s.m.safetyFused = false → Does (.safetyBlockLoad r) s fun m' =>
      Replies 0x0401 r .safetyLocked [] s.m m' ∧ ReadOnly r s.m m') ∧
    (s.m.safetyFused = true → s.m.blockOk b = false → Does (.safetyBlockLoad r) s fun m' =>
      Replies 0x0401 r .badParam [] s.m m' ∧ ReadOnly r s.m m')) ∧
  -- a profile set replaces the stored one and takes the armed block away
  (∀ b, May 0x0405 r s.m .safety → r.payload.length = 8 → s.m.sys.mode = .commission → s.m.comBusy = false →
    s.m.flashOk = true → s.m.readPages (field r.payload 0 4) 8192 = .ok b → s.m.safetyFused = true →
    s.m.profilesOk (chunks 512 16 b) = true → Does (.safetyProfilesLoad r) s fun m' =>
      RepliesLate 0x0405 r .done [] s.m m' ∧ m'.com.profiles = some (chunks 512 16 b) ∧ m'.com.armed = none ∧
      m'.com.held = none ∧ m'.com.staged = s.m.com.staged ∧
      Raises (if s.m.com.armed.isSome || s.m.com.held.isSome then [144, 141] else [141]) s.m m' ∧
      OnlyIn (.com :: evtBlocks ++ replyBlocks) s.m m') ∧
  (∀ b, May 0x0403 r s.m .safety → r.payload.length = 8 → s.m.sys.mode = .commission → s.m.comBusy = false →
    s.m.flashOk = true → s.m.safetyFused = true → s.m.blockOk b = true →
    (s.m.methodCode = 1 ∧ byteAt r.payload 4 = 0 ∧ s.m.com.staged = some b ∨
     s.m.methodCode = 2 ∧ byteAt r.payload 4 ≤ 15 ∧ s.m.profile (byteAt r.payload 4) = b ∧
       s.m.switchesShow (byteAt r.payload 4) = true) →
    (field r.payload 0 4 = blkCrc b → Does (.commissionArm r) s fun m' => Accepts 0x0403 r s.m m' ∧
      m'.com = { s.m.com with arming := some { cmd := s.m.cmd.nextId, block := b, profile := byteAt r.payload 4 } } ∧
      OnlyIn (.com :: replyBlocks) s.m m') ∧
    (field r.payload 0 4 ≠ blkCrc b → Does (.commissionArm r) s fun m' => Replies 0x0403 r .safetyLocked [] s.m m' ∧
      Raises [143] s.m m' ∧ OnlyIn (evtBlocks ++ replyBlocks) s.m m')) ∧
  (∀ a o, s.m.com.arming = some a → a.cmd = o.id → Waiting o s.m → s.m.sys.mode = .commission →
    (Does (.armCommit true true) s fun m' => Finishes o .done s.m m' ∧
      m'.com.armed = some { block := a.block, profile := a.profile, pick := s.m.pck.index } ∧ m'.com.held = none ∧
      m'.com.staged = none ∧ m'.com.arming = none ∧ m'.com.sealBroken = (s.m.com.sealBroken && !s.m.switchMode) ∧
      m'.slv.scales = (List.range 16).map (fun n => s.m.setting (0x0C10 + n)) ∧
      m'.counter (evtCnt 142) = satU32 (s.m.counter (evtCnt 142) + 1) ∧
      OnlyIn (finishBlocks ++ [.com, .slv]) s.m m') ∧
    -- a lane that does not accept its copy fails; nothing is armed
    ((s.m.lane 0).state = .healthy → Does (.armCommit false true) s fun m' => Finishes o .internal s.m m' ∧
      (m'.lane 0).state = .failed ∧ (m'.lane 0).cause = 3 ∧ m'.com = { s.m.com with arming := none })) ∧
  (May 0x0404 r s.m .safety → r.payload.length = 0 → s.m.sys.mode = .commission → s.m.comBusy = false →
    s.m.flashOk = true → Does (.safetyDisarm r) s fun m' => Accepts 0x0404 r s.m m' ∧
      m'.com = { s.m.com with disarming := some s.m.cmd.nextId } ∧ OnlyIn (.com :: replyBlocks) s.m m')

/-- Fuses and FUSE_EN (R354 to R359): a burn is taken up only into a blank group with FUSE_EN asserted, and leaves it
PROGRAMMED or SPOILED. The model's choices in it: log entries 38 and 62. -/
def Obligations.FuseBurns : Prop := ∀ s : State,
  (∀ (r : Req) (g : Nat), g = byteAt r.payload 0 → g < 8 → May 0x0406 r s.m .safety →
    r.payload.length = 4 + fuseLen g → s.m.sys.mode = .commission → s.m.comBusy = false → s.m.flashOk = true →
    fuseOk g (r.payload.drop 4) = true →
    (s.m.com.fuseEn = true → (s.m.fuse g).state = .blank → Does (.fuseProgram r) s fun m' => Accepts 0x0406 r s.m m' ∧
      m'.com = { s.m.com with burn := some { cmd := s.m.cmd.nextId, group := g, value := r.payload.drop 4 } } ∧
      OnlyIn (.com :: replyBlocks) s.m m') ∧
    (s.m.com.fuseEn = false ∨ (s.m.fuse g).state ≠ .blank → Does (.fuseProgram r) s fun m' =>
      Replies 0x0406 r .safetyLocked [] s.m m' ∧ ReadOnly r s.m m')) ∧
  (∀ b o, s.m.com.burn = some b → b.cmd = o.id → Waiting o s.m → s.m.flashOk = true →
    (b.group < 8 → Does (.fuseBurnComplete true) s fun m' => Finishes o .done s.m m' ∧ m'.com.burn = none ∧
      m'.fuse b.group = { state := .programmed, value := b.value } ∧ (∀ g, g ≠ b.group → m'.fuse g = s.m.fuse g) ∧
      m'.counter (evtCnt 146) = satU32 (s.m.counter (evtCnt 146) + 1) ∧ OnlyIn (.com :: finishBlocks) s.m m') ∧
    (8 ≤ b.group → Does (.fuseBurnComplete true) s fun m' => Finishes o .done s.m m' ∧ m'.com.burn = none ∧
      m'.com.revoked = s.m.com.revoked ||| 2 ^ (b.group - 8) ∧ m'.com.fuses = s.m.com.fuses ∧
      OnlyIn (.com :: finishBlocks) s.m m') ∧
    (b.group < 8 → Does (.fuseBurnComplete false) s fun m' => Finishes o .internal s.m m' ∧ m'.com.burn = none ∧
      (m'.fuse b.group).state = .spoiled ∧ m'.counter (evtCnt 147) = satU32 (s.m.counter (evtCnt 147) + 1) ∧
      OnlyIn (.com :: finishBlocks) s.m m')) ∧
  -- FUSE_EN released during a burn spoils it
  (∀ b o, s.m.com.burn = some b → b.cmd = o.id → b.group < 8 → Waiting o s.m → Does .fuseEnRelease s fun m' =>
    Finishes o .safetyLocked s.m m' ∧ m'.com.fuseEn = false ∧ m'.com.burn = none ∧ (m'.fuse b.group).state = .spoiled ∧
    m'.rng.local_ = false) ∧
  (s.m.com.burn = none → Does .fuseEnRelease s fun m' => m'.com = { s.m.com with fuseEn := false } ∧
    m'.rng = { s.m.rng with local_ := false } ∧ Quiet s.m m' ∧ OnlyIn [.com, .rng] s.m m') ∧
  (s.m.sys.mode ≠ .commission → Does .fuseEnAssert s fun m' => m'.com = { s.m.com with fuseEn := true } ∧
    Raises [149] s.m m' ∧ OnlyIn (.com :: evtBlocks) s.m m') ∧
  (s.m.sys.mode = .commission → Does .fuseEnAssert s fun m' => m'.com = { s.m.com with fuseEn := true } ∧
    m'.isHead = false ∧ m'.rng.local_ = s.m.rng.hostUp ∧ OnlyIn (evtBlocks ++ [.com, .rng]) s.m m')

/-- Role keys and output requests (R328, R375 to R379): a key with a higher version replaces the role's, retiring
removes it, and the role's contexts close; SO_REQUEST is accepted for requestable outputs of the armed block. The
model's choices in it: log entries 83 and 88. -/
def Obligations.KeysAndOutputs : Prop := ∀ (r : Req) (s : State),
  (∀ k, May 0x0408 r s.m .none → r.payload.length = 64 → byteAt r.payload 0 ≤ 3 → byteAt r.payload 1 ≤ 1 →
    s.m.sys.mode = .commission → s.m.comBusy = false → s.m.flashOk = true →
    s.m.provisioned r = some k → Does (.keyProvision r) s fun m' =>
      RepliesLate 0x0408 r .done [] s.m m' ∧
      tabGet ({} : RoleKey) m'.com.keys (byteAt r.payload 0) = { key := some k, version := field r.payload 2 2 } ∧
      (∀ i, i ≠ byteAt r.payload 0 → tabGet ({} : RoleKey) m'.com.keys i = tabGet {} s.m.com.keys i) ∧
      (∀ n c, m'.ctx? n = some c → c.role ≠ some (byteAt r.payload 0)) ∧
      m'.counter (evtCnt 148) = satU32 (s.m.counter (evtCnt 148) + 1) ∧ OnlyIn (.com :: closeBlocks) s.m m') ∧
  -- a version that is not higher, or no right to provision: DENIED
  (May 0x0408 r s.m .none → r.payload.length = 64 → byteAt r.payload 0 ≤ 3 → byteAt r.payload 1 ≤ 1 →
    s.m.provisioned r = none → Does (.keyProvision r) s fun m' => Replies 0x0408 r .denied [] s.m m' ∧ ReadOnly r s.m m') ∧
  (May 0x0409 r s.m .safety → r.payload.length = 4 → byteAt r.payload 0 < 3 → s.m.sys.mode = .commission →
    s.m.comBusy = false → s.m.flashOk = true →
    ((s.m.roleKey (byteAt r.payload 0)).isSome = true → Does (.keyRetire r) s fun m' =>
      RepliesLate 0x0409 r .done [] s.m m' ∧ m'.roleKey (byteAt r.payload 0) = none ∧
      (tabGet ({} : RoleKey) m'.com.keys (byteAt r.payload 0)).version = (tabGet ({} : RoleKey) s.m.com.keys (byteAt r.payload 0)).version ∧
      (∀ n c, m'.ctx? n = some c → c.role ≠ some (byteAt r.payload 0)) ∧ OnlyIn (.com :: closeBlocks) s.m m') ∧
    (s.m.roleKey (byteAt r.payload 0) = none → Does (.keyRetire r) s fun m' =>
      Replies 0x0409 r .done [] s.m m' ∧ ReadOnly r s.m m')) ∧
  (May 0x040A r s.m .operate → r.payload.length = 8 → s.m.soMode = true →
    (field r.payload 0 4 % 2 ^ 24 &&& field r.payload 4 4 % 2 ^ 24 = 0 →
      (∀ x ∈ maskList 24 (field r.payload 0 4 % 2 ^ 24 ||| field r.payload 4 4 % 2 ^ 24), s.m.soKind x = 2) →
      Does (.soRequest r) s fun m' => Accepts 0x040A r s.m m' ∧ OnlyIn replyBlocks s.m m') ∧
    (field r.payload 0 4 % 2 ^ 24 &&& field r.payload 4 4 % 2 ^ 24 ≠ 0 → Does (.soRequest r) s fun m' =>
      Replies 0x040A r .badParam [] s.m m' ∧ ReadOnly r s.m m'))

/-! ### The temple loops and the draft engine -/

/-- LOOP_TICK (R398 step 1, R400, R405, R407, R414, R431): what a loop applies at its tick; a loop that does not tick
stands as it was; the channels of ticking strings send their references. It acts once at a pick. LOOP_COMPUTE (R398
steps 2 and 3, R399, R400, R415, R419): feedback and its age, outputs within their bounds, the allocation in DISPATCH.
It acts once at a pick. The model's choices in it: log entries 92 to 94, 155 and 160. -/
def Obligations.LoopTicks : Prop :=
  (∀ s : State,
  (s.m.inBoot = false → s.m.pck.running = true → s.m.tmp.appliedPick ≠ some s.m.pck.index → Does .loopTick s fun m' =>
    m'.tmp.appliedPick = some s.m.pck.index ∧
    (∀ l, ¬(l < 256 ∧ s.m.ticks l = true) → m'.loop l = s.m.loop l) ∧
    -- a string loop in RUN applies what it computed, clamped to the limits of its string
    (∀ l v, l < 16 → s.m.ticks l = true → (s.m.loop l).state = .run → (s.m.loop l).due = false →
      (s.m.loop l).next = some v →
      m'.loop l = { s.m.loop l with
        tickPick := s.m.pck.index, prevAt := (s.m.loop l).tickAt, tickAt := s.m.pck.instant, next := none,
        applied := fClamp v (fNeg (s.m.limChgF l)) (s.m.limDisF l),
        lateClamp := !fEq (fClamp v (fNeg (s.m.limChgF l)) (s.m.limDisF l)) v }) ∧
    -- a start that is due takes the string's current
    (∀ l i, l < 16 → s.m.ticks l = true → (s.m.loop l).state = .idle → (s.m.loop l).due = true →
      (s.m.tstr l).cur = some i → (m'.loop l).state = .run ∧ (m'.loop l).due = false ∧
      (m'.loop l).startNow = some (fOfInt i) ∧ (m'.loop l).applied = fOfInt i) ∧
    -- a general loop that is idle moves to FALLBACK
    (∀ l, 32 ≤ l → l < 256 → s.m.ticks l = true → (s.m.loop l).state = .idle → (s.m.loop l).due = false →
      (m'.loop l).state = .idle ∧ (m'.loop l).applied = if (s.m.loop l).applied = rowFall (s.m.lrow l) then (s.m.loop l).applied
        else fMove (s.m.loop l).applied (rowFall (s.m.lrow l)) (rowFallRamp (s.m.lrow l))
          (fSecs (s.m.pck.instant - (s.m.loop l).tickAt))) ∧
    (∀ c < 4, s.m.chTicks c = true →
      tabGet 0 m'.tmp.counters c = (tabGet 0 s.m.tmp.counters c + 1) % 65536 ∧
      ∀ k < 4, (m'.tstr (4 * c + k)).ref = (m'.slotOf (4 * c + k)).2) ∧
    OnlyIn (evtBlocks ++ [.tmp, .can, .drf, .free]) s.m m') ∧
  (s.m.inBoot = true ∨ s.m.pck.running = false ∨ s.m.tmp.appliedPick = some s.m.pck.index →
    Does .loopTick s fun m' => m' = s.m)) ∧
  (∀ (s : State) (time : Nat),
  (s.m.inBoot = false → s.m.pck.released = true → s.m.tmp.computedPick ≠ some s.m.pck.index →
    Does (.loopCompute time) s fun m' =>
      m'.tmp.computedPick = some s.m.pck.index ∧
      (∀ l, 32 ≤ l → ¬(l < 256 ∧ s.m.ticks l = true) → m'.loop l = s.m.loop l) ∧
      (∀ l, 32 ≤ l → l < 256 → s.m.ticks l = true →
        (∀ v k, s.m.feedback l = some (v, k) → k ≠ (s.m.loop l).seen →
          (m'.loop l).age = 0 ∧ (m'.loop l).raw = v ∧ (m'.loop l).seen = k) ∧
        ((s.m.feedback l = none ∨ ∃ v, s.m.feedback l = some (v, (s.m.loop l).seen)) →
          (m'.loop l).age = (s.m.loop l).age + 1 ∧ (m'.loop l).raw = (s.m.loop l).raw)) ∧
      -- what is computed lies within the bounds in force
      (∀ l v, l < 256 → s.m.ticks l = true → (s.m.loop l).next = none → (m'.loop l).next = some v →
        ∃ w, v = fClamp w (m'.loop l).lo (m'.loop l).hi) ∧
      -- only the allocation strings take part in an allocation
      (s.m.sys.mode = .dispatch → (∃ l < 16, s.m.ticks l = true) → m'.tmp.allocPick = s.m.pck.index ∧
        ∀ n < 16, n ∉ s.m.allocStrings → (m'.tstr n).inAlloc = false ∧ (m'.tstr n).alloc = 0) ∧
      (s.m.sys.mode ≠ .dispatch → m'.tmp.pAlloc = s.m.tmp.pAlloc ∧ m'.tmp.allocPick = s.m.tmp.allocPick ∧ m'.free = s.m.free) ∧
      OnlyIn (.tmp :: .free :: evtBlocks) s.m m') ∧
  (s.m.inBoot = true ∨ s.m.pck.released = false ∨ s.m.tmp.computedPick = some s.m.pck.index →
    Does (.loopCompute time) s fun m' => m' = s.m))

/-- Times that have run in the temple (R403, R411, R415, R417, R422, R423, R426, R429). The model's choices in it: log
entries 92, 95 and 96. -/
def Obligations.TempleTimers : Prop := ∀ s : State,
  (∀ l : Nat, l < 256 → (s.m.loop l).lost = false → rowLostN (s.m.lrow l) < (s.m.loop l).age →
    ((s.m.loop l).state = .run → Does (.fbLost l) s fun m' =>
      m'.loop l = { s.m.loop l with state := .fbHold, lost := true, next := none, holdAt := s.m.pck.instant, freshRun := 0 } ∧
      (∀ k, k ≠ l → m'.loop k = s.m.loop k) ∧ m'.counter 0x090020 = satU32 (s.m.counter 0x090020 + 1) ∧
      tabGet 0 m'.tmp.causes (l / 4) = tabGet 0 s.m.tmp.causes (l / 4) ||| 2 ^ (8 * (l % 4)) ∧
      OnlyIn (.tmp :: evtBlocks) s.m m') ∧
    ((s.m.loop l).state = .stopping → Does (.fbLost l) s fun m' =>
      m'.loop l = { s.m.loop l with lost := true, next := none } ∧ OnlyIn (.tmp :: evtBlocks) s.m m')) ∧
  (∀ l t : Nat, l < 256 → (s.m.loop l).state = .fbHold → fLe (rowHold (s.m.lrow l)) (fSecs (t - (s.m.loop l).holdAt)) = true →
    Does (.fbHoldTimeout l t) s fun m' => (m'.loop l).state = .fbFallback ∧ (m'.loop l).applied = (s.m.loop l).applied ∧
      (l < 16 → (s.m.seq l).active = true → (m'.seq l).state = 4 ∧ (m'.seq l).cause = 6) ∧
      OnlyIn (evtBlocks ++ [.tmp, .sys]) s.m m') ∧
  (∀ l t t0 : Nat, (s.m.loop l).dwell = some t0 → dwellOver (s.m.lrow l) t0 t = true → Does (.dwellEnd l t) s fun m' =>
    m'.loop l = { s.m.loop l with dwell := none } ∧ OnlyIn [.tmp, .sys] s.m m') ∧
  (∀ l t : Nat, l < 256 → (s.m.loop l).state = .stopping → (s.m.loop l).due = false →
    (s.m.loop l).stopAt + secs (s.m.setting 0x0504) ≤ t →
    Does (.stopTimeout l t) s fun m' =>
      m'.loop l = { s.m.loop l with state := .idle, applied := 0, next := none, lost := false, frozen := none, dwell := none } ∧
      m'.counter 0x090028 = satU32 (s.m.counter 0x090028 + 1) ∧
      tabGet 0 m'.tmp.causes (l / 4) = tabGet 0 s.m.tmp.causes (l / 4) ||| 2 ^ (8 * (l % 4) + 7) ∧
      OnlyIn (evtBlocks ++ [.tmp, .sys]) s.m m') ∧
  -- T_MAX: the sequence aborts where the step says so, else the next step starts at the same pick
  (∀ n : Nat, (s.m.seq n).state = 1 → (s.m.seq n).startPick < s.m.pck.index → stTmax (s.m.stepNow n) ≠ 0 →
    msec (stTmax (s.m.stepNow n)) ≤ (s.m.seq n).elapsed s.m.pck.instant → s.m.stepCond n = none →
    Does (.stepTimeExpiry n) s fun m' => (m'.seq n).lastEnd = 5 ∧
      (stFail (s.m.stepNow n) = true → (m'.seq n).state = 4 ∧ (m'.seq n).cause = 3) ∧
      (∀ e, e = stepOf ((s.m.recipe n).getD []) ((s.m.seq n).step + 1) → stFail (s.m.stepNow n) = false →
        (stType e = 0 → (m'.seq n).state = 3 ∧ (m'.seq n).cause = 1) ∧
        (stType e ≠ 0 → stType e ≠ 6 → (m'.seq n).state = 1 ∧ (m'.seq n).step = (s.m.seq n).step + 1 ∧
          (m'.seq n).startPick = s.m.pck.index ∧ (m'.seq n).startAt = s.m.pck.instant ∧ (m'.seq n).ah = 0)) ∧
      (∀ k, k ≠ n → m'.seq k = s.m.seq k) ∧ OnlyIn (.tmp :: evtBlocks) s.m m') ∧
  (∀ n t : Nat, (s.m.seq n).state = 1 → stType (s.m.stepNow n) = 4 → (s.m.seq n).pulses ≠ 0 →
    ((s.m.seq n).on = true → (s.m.seq n).phaseAt + msec (stOn (s.m.stepNow n)) ≤ t → Does (.pulsePhaseEnd n t) s fun m' =>
      m'.seq n = { s.m.seq n with on := false, phaseAt := (s.m.seq n).phaseAt + msec (stOn (s.m.stepNow n)) } ∧
      OnlyIn [.tmp, .sys] s.m m') ∧
    ((s.m.seq n).on = false → (s.m.seq n).phaseAt + msec (stOff (s.m.stepNow n)) ≤ t → Does (.pulsePhaseEnd n t) s fun m' =>
      m'.seq n = { s.m.seq n with on := decide (1 < (s.m.seq n).pulses), pulses := (s.m.seq n).pulses - 1,
                                  phaseAt := (s.m.seq n).phaseAt + msec (stOff (s.m.stepNow n)) } ∧
      OnlyIn [.tmp, .sys] s.m m'))

/-- Requests to the loops, the sequencers and the draft engine whose effect waits for a pick boundary (R418, R436,
R440, R455, R476, R477): each is accepted where its own rules allow it. The model's choices in it: log entries 13, 26,
91 and 95. -/
def Obligations.LoopAndDraftRequests : Prop := ∀ r : Req,
  Waits (.dispatchSet r) 0x0500 r .operate (fun m => r.payload.length = 4 ∧ m.sys.mode = .dispatch) ∧
  Waits (.tmpSpSet r) 0x0502 r .operate (fun m => r.payload.length = 8 ∧ 32 ≤ byteAt r.payload 0 ∧
    rowSp (m.lrow (byteAt r.payload 0)) = 1) ∧
  Waits (.formStart r) 0x0508 r .operate (fun m => r.payload.length = 4 ∧ m.sys.mode = .formation ∧
    ∀ n ∈ formMask r.payload, m.chainEnabled n = true ∧ (m.seq n).active = false ∧
      ∃ rc, m.recipe n = some rc ∧ byteAt r.payload 2 < recipeSteps rc) ∧
  Waits (.formPause r) 0x0509 r .operate (fun m => r.payload.length = 4 ∧ m.sys.mode = .formation ∧
    ∀ n ∈ formMask r.payload, m.chainEnabled n = true ∧ (m.seq n).state = 1) ∧
  Waits (.formResume r) 0x050A r .operate (fun m => r.payload.length = 4 ∧ m.sys.mode = .formation ∧
    ∀ n ∈ formMask r.payload, m.chainEnabled n = true ∧ (m.seq n).state = 2) ∧
  Waits (.formAbort r) 0x050B r .operate (fun m => r.payload.length = 4 ∧ m.sys.mode = .formation ∧
    ∀ n ∈ formMask r.payload, m.chainEnabled n = true ∧ (m.seq n).active = true) ∧
  Waits (.drfStart r) 0x0603 r .engineer (fun m => r.payload.length = 4 ∧ byteAt r.payload 0 ≤ 1 ∧ m.drf.state = .stop ∧
    m.sys.mode ∈ [Mode.commission, .standby, .dispatch, .formation] ∧ m.drf.image.isSome ∧ m.drfPending = false) ∧
  Waits (.drfStop r) 0x0604 r .operate (fun m => r.payload.length = 0 ∧ m.drfPending = false) ∧
  Waits (.drfHold r) 0x0605 r .operate (fun m => r.payload.length = 0 ∧ m.drf.state = .run ∧ m.drfPending = false) ∧
  Waits (.drfResume r) 0x0606 r .operate (fun m => r.payload.length = 0 ∧ m.drf.state = .hold ∧
    m.sys.mode ∈ [Mode.commission, .standby, .dispatch, .formation] ∧ m.drfPending = false) ∧
  Waits (.drfStep r) 0x0607 r .engineer (fun m => r.payload.length = 4 ∧ byteAt r.payload 0 < m.taskCount ∧
    m.drf.state = .hold ∧ (m.sys.mode = .commission ∨ m.sys.mode = .standby) ∧ m.drfPending = false)

/-- Cycle starts and commits (R78, R460 to R464, R469, R470, R472 to R474): at its turn, after the loop ticks and in
task order, an idle task becomes READY and one that is not overruns; a start with a pick that a jump passed counts
LATE; a completed cycle commits its data, its outputs and its times; counters count rising edges and saturate,
triggers see an edge. Halts, sends and waits (R464 to R467): a task over its limit or trapped stops the engine; a send
releases the lowest task that waits, or sets the latch; a wait takes a latch that is set, or waits. The model's
choices in it: log entries 98, 99, 101 and 156. -/
def Obligations.DraftCyclesAndTasks : Prop :=
  (∀ (s : State) (t : Nat),
  (s.m.startDue t = true → s.m.startTurn t = true → s.m.drf.state = .run → (s.m.task t).state = .idle →
    Does (.draftCycleStart t) s fun m' =>
      m'.task t = { s.m.task t with state := .ready, late := s.m.pck.flags.testBit 0, pick := s.m.pck.index,
                                    startAt := s.m.pck.instant, latched := false, overRun := 0 } ∧
      (∀ k, k ≠ t → m'.task k = s.m.task k) ∧ m'.drf.started = some (s.m.pck.index, t) ∧
      (s.m.pck.jumped = false → OnlyIn [.drf] s.m m') ∧
      (s.m.pck.jumped = true → m'.counter 0x04005C = satU32 (s.m.counter 0x04005C + 1) ∧
        OnlyIn (.drf :: evtBlocks) s.m m')) ∧
  -- not its turn: before the loop ticks, out of task order, or again
  (s.m.startDue t = true → s.m.startTurn t = false → Does (.draftCycleStart t) s fun m' => m' = s.m) ∧
  (∀ n, n = min ((s.m.task t).overRun + 1) 255 → s.m.startDue t = true → s.m.startTurn t = true → s.m.drf.state = .run →
    (s.m.task t).state ≠ .idle → (∀ k < s.m.taskCount, (s.m.task k).state ≠ .waiting) → Does (.draftCycleStart t) s fun m' =>
      m'.counter (0x0A010C + 0x10 * t) = satU32 (s.m.counter (0x0A010C + 0x10 * t) + 1) ∧
      m'.counter 0x0A0024 = satU32 (s.m.counter 0x0A0024 + 1) ∧
      m'.counter (evtCnt 321) = satU32 (s.m.counter (evtCnt 321) + 1) ∧
      ((tkLimit (s.m.tkRow t) = 0 ∨ n < tkLimit (s.m.tkRow t)) →
        m'.task t = { s.m.task t with overRun := n, late := s.m.pck.flags.testBit 0 } ∧ m'.drf.state = .run ∧
        OnlyIn (.drf :: evtBlocks) s.m m') ∧
      -- the limit stops the engine, with cause 3
      (tkLimit (s.m.tkRow t) ≠ 0 → tkLimit (s.m.tkRow t) ≤ n → m'.drf.state = .stop ∧ m'.drf.stopCause = 3 ∧
        m'.sys.draftStopped = true ∧ m'.counter (evtCnt 323) = satU32 (s.m.counter (evtCnt 323) + 1))) ∧
  (s.m.startDue t = false ∨ s.m.drf.state = .stop ∨ s.m.drf.state = .hold →
    Does (.draftCycleStart t) s fun m' => m' = s.m) ∧
  (s.m.drf.state = .run → (s.m.task t).state = .executing → (∀ k < s.m.taskCount, (s.m.task k).state ≠ .waiting) →
  (∀ (vals : List Nat) (us : Nat) (acts : List DraftAct), Does (.draftTaskCommit t vals us acts) s fun m' =>
      m'.task t = { s.m.task t with
        state := .idle, cycles := ((s.m.task t).cycles + 1) % 2 ^ 32, last := satU16 us,
        max := max (s.m.task t).max (satU16 us), maxStart := max (s.m.task t).maxStart (satU16 us) } ∧
      m'.drf.data = acts.foldl (dataAct (((s.m.task t).image.map (·.time)).getD 0)) s.m.drf.data ∧ m'.drf.state = .run ∧
      (∀ p ∈ (s.m.decls.filter fun p => dcWriter p.2 = t).zip vals, tabGet 0 m'.drf.outs p.1.1 = BitVec.ofNat 32 p.2) ∧
      (∀ i, (∀ p ∈ s.m.decls, dcWriter p.2 = t → p.1 ≠ i) → tabGet 0 m'.drf.outs i = tabGet 0 s.m.drf.outs i) ∧
      OnlyIn (evtBlocks ++ [.drf, .can, .slv, .clo, .bulk, .out, .free]) s.m m') ∧
  -- CTU and CTD: a rising edge since the previous execution counts one, up to the limits of DINT
  (∀ (o : Nat) (now : Int), o + 8 ≤ s.m.drf.data.length → now = dintAt s.m.drf.data (o + 4) →
    ∀ (vals : List Nat) (us : Nat) (cnt : Bool) (pv : Int),
    (Does (.draftTaskCommit t vals us [.ctu o cnt false pv]) s fun m' => dintAt m'.drf.data (o + 4) =
      if cnt = true ∧ (byteAt s.m.drf.data o).testBit 0 = false then min 2147483647 (now + 1) else now) ∧
    (Does (.draftTaskCommit t vals us [.ctd o cnt false pv]) s fun m' => dintAt m'.drf.data (o + 4) =
      if cnt = true ∧ (byteAt s.m.drf.data o).testBit 1 = false then max (-2147483648) (now - 1) else now) ∧
    (Does (.draftTaskCommit t vals us [.ctu o cnt true pv]) s fun m' => dintAt m'.drf.data (o + 4) = 0)) ∧
  -- R_TRIG and F_TRIG: the edge since the previous execution
  (∀ o < s.m.drf.data.length, ∀ (vals : List Nat) (us : Nat) (clk : Bool),
    (Does (.draftTaskCommit t vals us [.rTrig o clk]) s fun m' => (byteAt m'.drf.data o).testBit 0 = clk ∧
      (byteAt m'.drf.data o).testBit 2 = (clk && !(byteAt s.m.drf.data o).testBit 0)) ∧
    (Does (.draftTaskCommit t vals us [.fTrig o clk]) s fun m' => (byteAt m'.drf.data o).testBit 0 = clk ∧
      (byteAt m'.drf.data o).testBit 2 = (!clk && (byteAt s.m.drf.data o).testBit 0)))) ∧
  ((s.m.task t).state ≠ .executing → ∀ vals us acts, Does (.draftTaskCommit t vals us acts) s fun m' => m' = s.m)) ∧
  (∀ (s : State) (t : Nat), s.m.drf.state = .run → (s.m.task t).state = .executing →
  (Does (.draftExecLimit t) s (TaskHalted t 5 0 0 s.m)) ∧
  (∀ code off : Nat, Does (.draftTrap t code off) s (TaskHalted t 4 code off s.m)) ∧
  (∀ e : Nat, (imgSenders s.m.img e).testBit t = true →
    (∀ k, ((List.range s.m.taskCount).find? fun k => (s.m.task k).state = .waiting && (s.m.task k).event = e) = some k →
      Does (.draftSend t e) s fun m' =>
        m'.task k = { s.m.task k with state := .ready, timed := false, waitOk := true } ∧
        (∀ j, j ≠ k → m'.task j = s.m.task j) ∧ m'.drf.latches.testBit e = false ∧ OnlyIn [.drf] s.m m') ∧
    ((∀ k < s.m.taskCount, ¬((s.m.task k).state = .waiting ∧ (s.m.task k).event = e)) → Does (.draftSend t e) s fun m' =>
      m'.drf = { s.m.drf with latches := s.m.drf.latches ||| 2 ^ e } ∧ OnlyIn [.drf] s.m m')) ∧
  -- an event it may not send traps it with code 4
  (∀ e : Nat, (imgSenders s.m.img e).testBit t = false → Does (.draftSend t e) s fun m' =>
    m'.drf.state = .stop ∧ m'.drf.stopCause = 4 ∧ m'.drf.stopTask = some t ∧ m'.drf.trap = 4) ∧
  (∀ (e now : Nat) (timeout : Option Nat), s.m.drf.latches.testBit e = true → Does (.draftWait t e timeout now) s fun m' =>
    m'.task t = { s.m.task t with waitOk := true } ∧ m'.drf.latches.testBit e = false ∧ OnlyIn [.drf, .sys] s.m m') ∧
  (∀ (e now : Nat) (timeout : Option Nat), s.m.drf.latches.testBit e = false → Does (.draftWait t e timeout now) s fun m' =>
    m'.task t = { s.m.task t with state := .waiting, event := e, timed := timeout.isSome,
                                  until_ := (s.m.tick now).draftNow + timeout.getD 0 } ∧
    m'.drf.latches = s.m.drf.latches ∧ OnlyIn [.drf, .sys] s.m m') ∧
  (∀ k now : Nat, k ≠ t → (s.m.task k).state = .waiting → (s.m.task k).timed = true →
    (s.m.task k).until_ ≤ (s.m.tick now).draftNow → Does (.draftWaitTimeout k now) s fun m' =>
      (m'.task k).state ∈ [.ready, .executing] ∧ (m'.task k).timed = false ∧ (m'.task k).waitOk = false ∧
      OnlyIn [.drf, .sys] s.m m') ∧
  (∀ first n : Nat, Does (.draftCellRead t first n) s fun m' =>
    m'.task t = { s.m.task t with read := (List.range n).flatMap fun i => s.m.cellOut (first + i) } ∧
    (∀ k, k ≠ t → m'.task k = s.m.task k) ∧ OnlyIn [.drf] s.m m'))

/-- Draft time, RETAIN data, programs and variables (R452, R457, R468, R473, R476). The model's choices in it: log
entries 98 and 100. -/
def Obligations.DraftData : Prop := ∀ s : State,
  (s.m.drf.state = .run → s.m.drf.session = true → s.m.drf.image.isSome = true →
    (s.m.flashOk = true → Does .draftRetainSave s fun m' => ∃ c : Retain,
      c.progId = imgId s.m.img ∧ c.crc = imgCrc s.m.img ∧ c.data = s.m.drf.data.take (imgRetain s.m.img) ∧
      (m'.drf = { s.m.drf with copyA := some c, saveDue := false } ∨ m'.drf = { s.m.drf with copyB := some c, saveDue := false }) ∧
      OnlyIn [.drf] s.m m') ∧
    (s.m.flashOk = false → Does .draftRetainSave s fun m' => m'.drf = { s.m.drf with saveDue := true } ∧ OnlyIn [.drf] s.m m')) ∧
  (∀ (busy t : Nat) (raw : Int),
    raw = (if s.m.rng.plant.isNone then 0
      else (((s.m.tick t).plantNow : Int) - ((s.m.draftRaw (max s.m.sys.clock t) / 4000 * 1000 : Nat) : Int)) / 10) →
    Does (.draftTimeAdjust busy t) s fun m' =>
      m'.drf.time = s.m.draftRaw (max s.m.sys.clock t) ∧ m'.drf.timeAt = max s.m.sys.clock t ∧
      m'.drf.adj = max (-500000) (min 500000 raw) ∧ m'.drf.adjLimit = decide (max (-500000) (min 500000 raw) ≠ raw) ∧
      m'.drf.measMax = max s.m.drf.measMax (min busy 1023) ∧ OnlyIn (evtBlocks ++ [.drf, .sys]) s.m m') ∧
  (∀ (r : Req) (b : Bytes), May 0x0601 r s.m .engineer → r.payload.length = 8 →
    s.m.readPages (field r.payload 0 4) (field r.payload 4 4) = .ok b → s.m.imgOk b = true → s.m.drf.state = .stop →
    (s.m.dom 51).state = 1 → s.m.flashOk = true → s.m.drfPending = false → Does (.drfLoad r) s fun m' =>
      RepliesLate 0x0601 r .done [] s.m m' ∧ m'.drf.image = some b ∧ m'.sys.draftLoaded = true ∧ m'.drf.state = .stop ∧
      m'.drf.session = false ∧ m'.drf.data = [] ∧ m'.counter (evtCnt 325) = satU32 (s.m.counter (evtCnt 325) + 1) ∧
      OnlyIn (evtBlocks ++ replyBlocks ++ [.drf, .can, .slv, .clo, .bulk, .wft]) s.m m') ∧
  (∀ r : Req, May 0x0602 r s.m .engineer → r.payload.length = 0 → s.m.drf.state = .stop → s.m.flashOk = true →
    s.m.drfPending = false → Does (.drfUnload r) s fun m' =>
      RepliesLate 0x0602 r .done [] s.m m' ∧ m'.drf.image = none ∧ m'.sys.draftLoaded = false ∧ m'.taskCount = 0 ∧
      Raises [325] s.m m' ∧ OnlyIn (evtBlocks ++ replyBlocks ++ [.drf, .wft]) s.m m') ∧
  (∀ r : Req, May 0x060A r s.m .operate → r.payload.length = 8 → s.m.varFree (byteAt r.payload 0) = true →
    Does (.drfVarSet r) s fun m' => Replies 0x060A r .done [] s.m m' ∧
      tabGet 0 m'.drf.vars (byteAt r.payload 0) = fField r.payload 4 ∧
      tabGet 0 m'.drf.writes (byteAt r.payload 0) = tabGet 0 s.m.drf.writes (byteAt r.payload 0) + 1 ∧
      (∀ i, i ≠ byteAt r.payload 0 → tabGet 0 m'.drf.vars i = tabGet 0 s.m.drf.vars i) ∧
      OnlyIn (.drf :: replyBlocks) s.m m') ∧
  -- a variable that an output of the program or a loop writes is not the host's
  (∀ r : Req, May 0x060A r s.m .operate → r.payload.length = 8 → s.m.varFree (byteAt r.payload 0) = false →
    Does (.drfVarSet r) s fun m' => Replies 0x060A r .badParam [] s.m m' ∧ ReadOnly r s.m m')

/-! ### The shuttle ring -/

/-- Links of the two ring ports (R7, R8, R535 to R537, R542 to R544): block lock, HELLO out and in, link down and up,
miswiring, the end of a wrap, an optic that is refused at a ring port and at cage H, and frames held for a new path.
The model's choices in it: log entries 102, 103, 107 and 162. -/
def Obligations.RingLinks : Prop := ∀ (s : State) (p t : Nat), p < 2 →
  (Does (.ringBlockLockChange p true t) s fun m' => m'.port p = { s.m.port p with pcs := true } ∧
    m'.port (1 - p) = s.m.port (1 - p) ∧ OnlyIn [.sys, .rng] s.m m') ∧
  -- a link in use goes down
  ((s.m.port p).state = .up ∨ (s.m.port p).state = .wrapped → ∀ i : Instr,
    i = .helloTimeout p t ∨ i = .ringBlockLockChange p false t → Does i s fun m' =>
      (m'.port p).state = .down ∧ (m'.port p).hellos = 0 ∧ (m'.port p).peerKnown = false ∧ (m'.port p).delay = none ∧
      m'.port (1 - p) = s.m.port (1 - p) ∧ m'.counter (evtCnt 385) = satU32 (s.m.counter (evtCnt 385) + 1) ∧
      -- where the other one is up, the module wraps
      ((s.m.port p).state = .up → (s.m.port (1 - p)).state = .up →
        m'.counter 0x0D0048 = satU32 (s.m.counter 0x0D0048 + 1) ∧
        m'.counter (evtCnt 386) = satU32 (s.m.counter (evtCnt 386) + 1)) ∧
      OnlyIn (evtBlocks ++ [.rng, .out, .sys]) s.m m') ∧
  ((s.m.port p).state ≠ .up → (s.m.port p).state ≠ .wrapped → Does (.helloTimeout p t) s fun m' =>
    (m'.port p).state = (if (s.m.port p).state = .disabled then .disabled else .down) ∧ (m'.port p).hellos = 0 ∧
    Quiet s.m m' ∧ OnlyIn [.sys, .rng] s.m m') ∧
  (∀ turn : Nat, ((s.m.port p).state ≠ .disabled → Does (.helloSend p turn) s fun m' =>
      (∃ f, m'.out = .ring p f :: s.m.out ∧ f.type = 1 ∧ f.serial = s.m.sys.serial ∧ f.payload.length = 32 ∧
        f.payload.take 8 = leBytes 8 s.m.sys.serial) ∧
      m'.rng = { s.m.rng with msgId := (s.m.rng.msgId + 1) % 2 ^ 32 } ∧ OnlyIn [.rng, .out] s.m m') ∧
    ((s.m.port p).state = .disabled → Does (.helloSend p turn) s fun m' => m' = s.m)) ∧
  -- a HELLO from the other kind of port counts towards the link; 16 in a row bring it up
  (∀ (f : RFrame) (trip : Nat), f.port = p → f.hcrcOk = true → f.crcOk = true → f.type = 1 → f.epoch = s.m.rng.epoch →
    ((s.m.port p).state = .down ∨ (s.m.port p).state = .miswired) → byteAt f.payload 10 ≠ p →
    (Does (.helloRx f trip t) s fun m' => (m'.port p).hellos = min 16 ((s.m.port p).hellos + 1) ∧
      (m'.port p).peerAddr = byteAt f.payload 8 % 64 ∧ (m'.port p).peerPort = byteAt f.payload 10 % 2 ∧
      (m'.port p).state = (if (s.m.port p).pcs = true ∧ 15 ≤ (s.m.port p).hellos
        then (if (s.m.port p).everUp then .wrapped else .up) else .down) ∧
      OnlyIn (evtBlocks ++ [.rng, .out, .sys]) s.m m')) ∧
  -- from a port of the same kind: MISWIRED
  (∀ (f : RFrame) (trip : Nat), f.port = p → f.hcrcOk = true → f.crcOk = true → f.type = 1 → f.epoch = s.m.rng.epoch →
    (s.m.port p).state = .down → byteAt f.payload 10 = p → Does (.helloRx f trip t) s fun m' =>
      (m'.port p).state = .miswired ∧ (m'.port p).hellos = 0 ∧
      m'.counter (evtCnt 391) = satU32 (s.m.counter (evtCnt 391) + 1) ∧ m'.rng.announced = true ∧
      OnlyIn (evtBlocks ++ [.rng, .out, .sys]) s.m m') ∧
  ((s.m.port p).state = .wrapped → (s.m.port p).upAt + msec 100 ≤ t → Does (.ringUnwrap p t) s fun m' =>
    m'.port p = { s.m.port p with state := .up } ∧ m'.counter (evtCnt 387) = satU32 (s.m.counter (evtCnt 387) + 1) ∧
    OnlyIn (evtBlocks ++ [.rng, .out, .sys]) s.m m') ∧
  ((s.m.port p).state ≠ .wrapped ∨ t < (s.m.port p).upAt + msec 100 → Does (.ringUnwrap p t) s fun m' =>
    m'.rng = s.m.rng ∧ Quiet s.m m' ∧ OnlyIn [.sys] s.m m') ∧
  -- cages RA and RB take SR and LR alone; cage H takes 1000BASE-X too
  (∀ kind : Nat, kind ≠ 0 → kind ≠ 1 → kind ≠ 2 → Does (.cageOpticChange (p + 1) kind) s fun m' =>
    (m'.port p).state = .disabled ∧ m'.counter (evtCnt 390) = satU32 (s.m.counter (evtCnt 390) + 1) ∧
    OnlyIn (evtBlocks ++ [.rng, .out]) s.m m') ∧
  (∀ kind : Nat, kind = 1 ∨ kind = 2 → (s.m.port p).state = .disabled → Does (.cageOpticChange (p + 1) kind) s fun m' =>
    (m'.port p).state = .down ∧ m'.rng.announced = true ∧ OnlyIn (evtBlocks ++ [.rng, .out]) s.m m') ∧
  (Does (.cageOpticChange 0 3) s fun m' => m'.rng = { s.m.rng with cageH := 3 } ∧ Quiet s.m m' ∧ OnlyIn [.rng] s.m m') ∧
  -- a refused optic in cage H: no link, and the transmitter is off
  (∀ kind : Nat, 3 < kind → Does (.cageOpticChange 0 kind) s fun m' => m'.rng.cageH = kind ∧ m'.rng.hostUp = false ∧
    m'.serves = false ∧ m'.counter (evtCnt 390) = satU32 (s.m.counter (evtCnt 390) + 1) ∧
    OnlyIn (.rng :: evtBlocks) s.m m') ∧
  (s.m.hostRefused = true → s.m.rng.hostUp = false → Does (.hostLinkChange true t) s fun m' => m'.rng = s.m.rng ∧
    Quiet s.m m' ∧ OnlyIn [.sys] s.m m') ∧
  (∀ dst fs, tabGet none s.m.rng.holds dst = some fs → Does (.pathHoldEnd dst) s fun m' =>
    tabGet none m'.rng.holds dst = none ∧ (∀ d, d ≠ dst → fs.all (fun f => f.dst = dst) = true →
      tabGet none m'.rng.holds d = tabGet none s.m.rng.holds d) ∧ OnlyIn [.rng, .out] s.m m')

/-- Frames of the ring (R538 to R541, R545, R548 to R554, R564): what is announced and what is learned of an
announcement, what passes on and what is dropped, replies, events and bulk data at the head, credit, and plant time.
The model's choices in it: log entries 102 and 106 to 109. -/
def Obligations.RingFrames : Prop := ∀ (s : State) (t : Nat),
  (∀ la lb : Nat, s.m.rng.assign = [] → Does (.announceSend la lb t) s fun m' =>
    m'.rng.portA = { s.m.rng.portA with load := la } ∧ m'.rng.portB = { s.m.rng.portB with load := lb } ∧
    m'.rng.announced = true ∧
    (s.m.portUp 0 = true → ∃ f, m'.out = .ring 0 f :: s.m.out ∧ f.type = 2 ∧ f.dst = 0xFF ∧ f.src = s.m.srcAddr ∧
      f.serial = s.m.sys.serial) ∧ OnlyIn [.sys, .rng, .out] s.m m') ∧
  (∀ (f : RFrame) (up : Bool) (key : Nat), Hears 2 f s.m → key = leNat (f.payload.take 8) →
    (∀ q ∈ s.m.rng.assign, ¬(q.serial = key ∧ q.addr = byteAt f.payload 8)) → Does (.announceRx f up t) s fun m' =>
      tabGet none m'.rng.ann key = some
        { addr := byteAt f.payload 8, role := byteAt f.payload 9, stateA := byteAt f.payload 10, stateB := byteAt f.payload 11,
          head := field f.payload 12 4, hostUp := up, hops := 129 - f.ttl, wrapped := f.flags.testBit 1 } ∧
      (∀ k, k ≠ key → tabGet none m'.rng.ann k = tabGet none s.m.rng.ann k) ∧ key ∉ m'.rng.missing ∧
      (tabGet none s.m.rng.ann key = none → s.m.isHead = true →
        m'.counter (evtCnt 408) = satU32 (s.m.counter (evtCnt 408) + 1)) ∧
      OnlyIn (evtBlocks ++ [.rng, .out, .sys]) s.m m') ∧
  (∀ (k : Nat) (a : Ann), tabGet none s.m.rng.ann k = some a → Does (.moduleAnnounceTimeout k) s fun m' =>
    tabGet none m'.rng.ann k = none ∧ (∀ j, j ≠ k → tabGet none m'.rng.ann j = tabGet none s.m.rng.ann j) ∧
    -- at the head its commands are answered LOST
    (s.m.isHead = true → (∀ q ∈ m'.rng.fwd, q.dst ≠ a.addr ∧ q ∈ s.m.rng.fwd) ∧
      ((∃ q ∈ s.m.rng.fwd, q.dst = a.addr) →
        m'.counter 0x0D004C = satU32 (s.m.counter 0x0D004C + (s.m.rng.fwd.filter fun q => q.dst = a.addr).length)) ∧
      m'.counter (evtCnt 409) = satU32 (s.m.counter (evtCnt 409) + 1)) ∧
    OnlyIn (evtBlocks ++ [.rng, .out]) s.m m') ∧
  (∀ k : Nat, tabGet none s.m.rng.ann k = none → Does (.moduleAnnounceTimeout k) s fun m' => m' = s.m) ∧
  (∀ f : RFrame, Hears 0x0D f s.m → leNat (f.payload.take 8) = s.m.sys.serial → s.m.rng.addr = 255 →
    Does (.addrAssignRx f) s fun m' => m'.rng.addr = byteAt f.payload 8 ∧
      tabGet none m'.set.scalars 0x0D00 = some (byteAt f.payload 8) ∧
      m'.counter (evtCnt 393) = satU32 (s.m.counter (evtCnt 393) + 1) ∧
      OnlyIn (evtBlocks ++ [.rng, .out, .set]) s.m m') ∧
  -- a class 0 frame for another module passes on, one hop fewer; its TTL's end, a full queue and a wrong CRC are counted
  (∀ (f : RFrame) (full : Bool), f.hcrcOk = true → f.serial ≠ s.m.sys.serial → f.dst ≠ s.m.rng.addr → f.dst ≠ 0xFF →
    f.type ≠ 0x01 → f.type ≠ 0x0E → f.flags % 2 = 0 → f.epoch = s.m.rng.epoch → f.port < 2 → s.m.portShut f = false →
    Does (.ringFrameForward f full) s fun m' =>
      (1 < f.ttl → full = false → s.m.portUp (1 - f.port) = true →
        m'.out = .ring (1 - f.port) { f with ttl := f.ttl - 1 } :: s.m.out) ∧
      (1 < f.ttl → full = false → s.m.portUp (1 - f.port) = false → s.m.portUp f.port = true →
        m'.out = .ring f.port { f with ttl := f.ttl - 1, flags := f.flags ||| 2 } :: s.m.out) ∧
      (f.ttl ≤ 1 ∨ full = true → m'.out = s.m.out ∧ m'.counter 0x0D0044 = satU32 (s.m.counter 0x0D0044 + 1)) ∧
      (f.crcOk = false → m'.counter 0x0D0040 = satU32 (s.m.counter 0x0D0040 + 1)) ∧
      OnlyIn (evtBlocks ++ [.rng, .out]) s.m m') ∧
  (∀ (f : RFrame) (full : Bool), f.hcrcOk = false ∨ s.m.portShut f = true →
    Does (.ringFrameForward f full) s fun m' => m' = s.m) ∧
  -- a frame of an earlier head goes no further
  (∀ (f : RFrame) (full : Bool), f.flags % 2 = 0 → f.epoch < s.m.rng.epoch → anyEpoch f.type = false →
    Does (.ringFrameForward f full) s fun m' => m' = s.m) ∧
  -- a bulk frame passes on against the credit of the far port, and makes room again at the near one
  (∀ (f : RFrame) (full : Bool), f.hcrcOk = true → f.crcOk = true → f.serial ≠ s.m.sys.serial → f.dst ≠ s.m.rng.addr →
    f.dst ≠ 0xFF → f.type ≠ 0x01 → f.type ≠ 0x0E → f.flags % 2 = 1 → f.epoch = s.m.rng.epoch → f.port < 2 →
    s.m.portShut f = false → 1 < f.ttl → (s.m.port (1 - f.port)).bulkQ = [] →
    (frameSize f ≤ (s.m.port (1 - f.port)).credit → s.m.portUp (1 - f.port) = true →
      Does (.ringFrameForward f full) s fun m' =>
        (∃ g, m'.out = .ring f.port g :: .ring (1 - f.port) { f with ttl := f.ttl - 1 } :: s.m.out ∧ g.type = 0x0E ∧
          field g.payload 0 4 = ceilDiv (frameSize f) 64 % 2 ^ 32) ∧
        (m'.port (1 - f.port)).credit = (s.m.port (1 - f.port)).credit - frameSize f ∧ OnlyIn [.rng, .out] s.m m') ∧
    ((s.m.port (1 - f.port)).credit < frameSize f → Does (.ringFrameForward f full) s fun m' =>
      (m'.port (1 - f.port)).bulkQ = [{ f with ttl := f.ttl - 1 }] ∧ OnlyIn [.rng, .out] s.m m')) ∧
  -- at the head, replies and event packets go to the host endpoint their frame names
  (∀ f : RFrame, Hears 0x04 f s.m → f.dst = s.m.rng.addr → f.dst ≠ 0xFF → wholeMsg f → s.m.isHead = true →
    s.m.rng.local_ = true ∨ s.m.setting 0x0D04 ≠ 0 → Does (.replyFrameRx f) s fun m' =>
      m'.out = .udp (field f.payload 0 4) (field f.payload 4 2) 47520 (f.payload.drop 8) :: s.m.out ∧
      OnlyIn [.rng, .out] s.m m') ∧
  (∀ f : RFrame, Hears 0x05 f s.m → f.dst = s.m.rng.addr → f.dst ≠ 0xFF → wholeMsg f → s.m.isHead = true →
    s.m.rng.local_ = true ∨ s.m.setting 0x0D04 ≠ 0 → Does (.eventFrameRx f) s fun m' =>
      m'.out = .udp (field f.payload 0 4) (field f.payload 4 2) 47521 (f.payload.drop 8) :: s.m.out ∧
      OnlyIn [.rng, .out] s.m m') ∧
  (∀ f : RFrame, f.hcrcOk = true → f.crcOk = true → f.type = 0x06 → f.flags % 2 = 1 → f.serial ≠ s.m.sys.serial →
    f.epoch = s.m.rng.epoch → f.dst = s.m.rng.addr → f.dst ≠ 0xFF → s.m.portShut f = false → wholeMsg f →
    s.m.isHead = true → s.m.rng.local_ = true ∨ s.m.setting 0x0D04 ≠ 0 → Does (.bulkFrameRx f) s fun m' =>
      -- room for what has left the port, then the datagram
      (∃ g, m'.out = .udp (field f.payload 0 4) (field f.payload 4 2) 47522 (f.payload.drop 8) :: .ring f.port g :: s.m.out ∧
        g.type = 0x0E ∧ field g.payload 0 4 = ceilDiv (frameSize f) 64 % 2 ^ 32) ∧ OnlyIn [.rng, .out] s.m m') ∧
  (∀ f : RFrame, f.hcrcOk = true → f.crcOk = true → f.type = 0x0E → f.serial ≠ s.m.sys.serial → f.epoch = s.m.rng.epoch →
    f.port < 2 → s.m.portShut f = false → (s.m.port f.port).bulkQ = [] → Does (.creditRx f) s fun m' =>
      m'.port f.port = { s.m.port f.port with credit := (s.m.port f.port).credit + 64 * field f.payload 0 4 } ∧
      OnlyIn [.rng] s.m m') ∧
  -- plant time
  ((s.m.isHead = true → s.m.portUp 0 = true → Does (.timeFrameSend t) s fun m' =>
      (∃ f, m'.out = .ring 0 f :: s.m.out ∧ f.type = 7 ∧ f.dst = 0xFF ∧ f.payload = (s.m.tick t).timePayload t) ∧
      OnlyIn [.rng, .out, .sys] s.m m') ∧
    (s.m.isHead = false → Does (.timeFrameSend t) s fun m' => m'.out = s.m.out ∧ OnlyIn [.sys] s.m m')) ∧
  (∀ (f : RFrame) (residence v : Nat), Hears 7 f s.m → s.m.isHead = false → leNat (f.payload.take 8) ≠ 0 →
    s.m.upd.state ≠ .scheduled → v = leNat (f.payload.take 8) + field f.payload 8 4 + (s.m.port f.port).delay.getD 0 →
    Does (.timeFrameRx f residence t) s fun m' => m'.rng.timeHoldover = false ∧
      -- acquired with the third frame; then slewed for up to 1 ms, stepped beyond
      (s.m.rng.plant = none → m'.rng.timeFrames = s.m.rng.timeFrames + 1 ∧
        m'.rng.plant = (if s.m.rng.timeFrames + 1 < 3 then none else some (v, t))) ∧
      (s.m.rng.plant.isSome = true → ((v : Int) - (s.m.plantAt t : Int)).natAbs ≤ 1000000 →
        m'.rng.plant = some (s.m.plantAt t, t) ∧ m'.rng.slew = (v : Int) - (s.m.plantAt t : Int)) ∧
      (s.m.rng.plant.isSome = true → 1000000 < ((v : Int) - (s.m.plantAt t : Int)).natAbs →
        m'.rng.plant = some (v, t) ∧ m'.rng.slew = 0) ∧
      OnlyIn (evtBlocks ++ [.rng, .out, .sys, .ang]) s.m m') ∧
  (s.m.isHead = false → s.m.rng.plant.isSome = true → s.m.rng.timeHoldover = false → Does (.timeHoldover t) s fun m' =>
    m'.rng = { s.m.rng with timeHoldover := true } ∧ Raises [396] s.m m' ∧ OnlyIn (evtBlocks ++ [.rng, .sys]) s.m m')

/-- The host port (R489, R550, R556, R557, R568): what is served, what is dropped and counted, forwarding by ring
address, ARP and ICMP. The model's choices in it: log entry 106. -/
def Obligations.HostPort : Prop := ∀ s : State,
  (∀ (ip port dport : Nat) (bcast : Bool) (d : List Byte),
    (s.m.serves = false → Does (.hostDatagramRx ip port dport bcast d) s fun m' => m' = s.m) ∧
    (s.m.serves = true → (bcast = true ∨ dport ≠ 47520 ∧ dport ≠ 47522) → Does (.hostDatagramRx ip port dport bcast d) s fun m' =>
      (∀ k, m'.counter k = if k = 0x0D0058 then satU32 (s.m.counter k + 1) else s.m.counter k) ∧ OnlyIn [.cnt] s.m m') ∧
    (s.m.serves = true → bcast = false → dport = 47520 ∨ dport = 47522 → malformed d false = true →
      Does (.hostDatagramRx ip port dport bcast d) s fun m' =>
        (∀ k, m'.counter k = if k = 0x000220 then satU32 (s.m.counter k + 1) else s.m.counter k) ∧ OnlyIn [.cnt] s.m m') ∧
    (∀ ctx dst, ctx = field d 4 2 / 64 % 512 → dst = field d 4 2 % 64 → s.m.serves = true → bcast = false →
      dport = 47520 ∨ dport = 47522 → malformed d false = false → s.m.rng.local_ = false →
      -- a context bound to another endpoint
      (∀ b, s.m.bound ctx = some b → ¬(b.ip = ip ∧ b.port = port) → Does (.hostDatagramRx ip port dport bcast d) s fun m' =>
        (∀ k, m'.counter k = if k = 0x00023C then satU32 (s.m.counter k + 1) else s.m.counter k) ∧ OnlyIn [.cnt] s.m m') ∧
      -- a module that is not announced: the head answers for it, reason NOT_PRESENT
      (s.m.bound ctx = none → dst ≠ s.m.rng.addr → s.m.annAt dst = none → s.m.setting 0x0D04 ≠ 0 →
        Does (.hostDatagramRx ip port dport bcast d) s fun m' =>
          m'.out = .udp ip port (if isBulkOp (field d 8 2) then 47522 else 47520) (pktHeader 0 dst ctx (field d 6 2) (field d 8 2) 0x0600 4 0 ++ [1, 0, 0, 0]) :: s.m.out ∧
          m'.rng.fwd = s.m.rng.fwd ∧ m'.counter 0x0D004C = satU32 (s.m.counter 0x0D004C + 1) ∧
          OnlyIn [.rng, .out, .cnt] s.m m') ∧
      -- one that is: the request is forwarded and kept until its final reply
      (∀ b a, s.m.bound ctx = some b → b.ip = ip → b.port = port → dst ≠ s.m.rng.addr → s.m.annAt dst = some a →
        (s.m.way a).isSome = true → (s.m.anns.filter fun x => x.2.addr = dst).length = 1 →
        Does (.hostDatagramRx ip port dport bcast d) s fun m' =>
          m'.rng.fwd = s.m.rng.fwd ++ [{ dst := dst, ctx := ctx, tag := field d 6 2, opcode := field d 8 2, ip := ip, port := port }] ∧
          OnlyIn [.rng, .out] s.m m'))) ∧
  (∀ ip mac target t : Nat,
    (s.m.serves = true → target = s.m.hostIp → Does (.hostArpRx ip mac target t) s fun m' =>
      m'.out = .arp (some ip) s.m.hostIp s.m.hostMac :: s.m.out ∧ m'.rng.arp.head? = some (ip, mac, t) ∧ m'.rng.arp.length ≤ 64 ∧
      OnlyIn [.rng, .out, .sys] s.m m') ∧
    (s.m.serves = false ∨ target ≠ s.m.hostIp → Does (.hostArpRx ip mac target t) s fun m' => OnlyIn [.sys] s.m m')) ∧
  -- up to 100 echoes in a second, of at most 1,472 bytes
  (∀ (ip t : Nat) (d : List Byte), s.m.serves = true →
    (d.length ≤ 1472 → (s.m.rng.icmpAt + secs 1 ≤ t ∨ s.m.rng.icmpCount < 100) → Does (.hostIcmpEcho ip t d) s fun m' =>
      m'.out = .icmp ip d :: s.m.out ∧ OnlyIn [.rng, .out, .sys] s.m m') ∧
    (1472 < d.length ∨ (t < s.m.rng.icmpAt + secs 1 ∧ 100 ≤ s.m.rng.icmpCount) → Does (.hostIcmpEcho ip t d) s fun m' =>
      m'.out = s.m.out ∧ m'.counter 0x0D0058 = satU32 (s.m.counter 0x0D0058 + 1) ∧ OnlyIn [.cnt, .sys] s.m m')) ∧
  (∀ (up : Bool) (t : Nat), s.m.hostRefused = false → s.m.rng.hostUp ≠ up → Does (.hostLinkChange up t) s fun m' => m'.rng.hostUp = up ∧
    m'.rng.local_ = (decide (s.m.sys.mode = .commission) && s.m.com.fuseEn && !s.m.isHead && up) ∧
    m'.counter (evtCnt (if up then 405 else 406)) = satU32 (s.m.counter (evtCnt (if up then 405 else 406)) + 1) ∧
    OnlyIn (evtBlocks ++ [.rng, .sys]) s.m m') ∧
  (s.m.serves = true → 0 < s.m.rng.arpLeft → Does .gratuitousArpSend s fun m' => m'.out = .arp none s.m.hostIp s.m.hostMac :: s.m.out ∧
    m'.rng = { s.m.rng with arpLeft := s.m.rng.arpLeft - 1 } ∧ OnlyIn [.rng, .out] s.m m')

/-- The arbiter (R561 to R566): guard, claim round, probe, window, the judging of claims and the grant; two arbiters
that hear each other both stop. The model's choices in it: log entries 48 and 104. -/
def Obligations.Arbiter : Prop := ∀ (s : State) (t : Nat), s.m.rng.role = 2 → s.m.rng.arbFault ≠ 1 →
  (Does (.headHoldReleaseSensed t) s fun m' => m'.rng.arb = .guard_ ∧ m'.rng.granted = none ∧ m'.rng.holdLine = false ∧
    m'.rng.drive = s.m.rng.drive ∧ OnlyIn [.rng, .sys] s.m m') ∧
  -- a round opens with an epoch above every one seen
  (s.m.rng.arb = .guard_ → Does (.arbGuardEnd t) s (RoundOpens s.m)) ∧
  (s.m.rng.arb = .noHead → Does (.arbReopen t) s (RoundOpens s.m)) ∧
  (s.m.rng.arb = .probe → Does (.arbProbePhaseEnd t) s fun m' =>
    (s.m.rng.drive = 1 → m'.rng = { s.m.rng with drive := 2 }) ∧
    (s.m.rng.drive ≠ 1 → m'.rng = { s.m.rng with drive := 0, arb := .window }) ∧ OnlyIn [.rng, .sys] s.m m') ∧
  -- claims are collected in the window and ignored outside it
  (∀ (f : RFrame) (c : Claim), Hears 0x0A f s.m → f.dst = s.m.rng.addr → f.dst ≠ 0xFF →
    c = ⟨leNat (f.payload.take 8), byteAt f.payload 8, (byteAt f.payload 9).testBit 0, (byteAt f.payload 9).testBit 1,
      byteAt f.payload 10, field f.payload 12 4⟩ → Does (.headClaimRx f) s fun m' =>
      m'.rng.claims = (if s.m.rng.arb = .window then s.m.rng.claims ++ [c] else s.m.rng.claims) ∧
      m'.rng.arb = s.m.rng.arb ∧ OnlyIn [.rng] s.m m') ∧
  -- the window closes: one valid claim alone is granted
  (∀ c : Claim, s.m.rng.arb = .window → s.m.rng.claims = [c] →
    (s.m.claimCause c = 0 → Does (.arbWindowClose t) s fun m' => m'.rng.arb = .granting ∧ m'.rng.drive = c.side ∧
      m'.rng.granted = some c.addr ∧ m'.rng.headAddr = some c.addr ∧ m'.rng.epoch = s.m.rng.arbEpoch ∧ m'.rng.arbFault = 0 ∧
      m'.counter (evtCnt 401) = satU32 (s.m.counter (evtCnt 401) + 1) ∧ (∀ n, m'.ctx? n = none)) ∧
    (s.m.claimCause c ≠ 0 → Does (.arbWindowClose t) s fun m' => m'.rng.arb = .noHead ∧ m'.rng.drive = 0 ∧
      m'.rng.granted = none ∧ m'.rng.epoch = s.m.rng.epoch ∧
      m'.counter 0x0D0054 = satU32 (s.m.counter 0x0D0054 + 1) ∧
      m'.counter (evtCnt 400) = satU32 (s.m.counter (evtCnt 400) + 1) ∧
      m'.counter (evtCnt 402) = satU32 (s.m.counter (evtCnt 402) + 1) ∧ OnlyIn (evtBlocks ++ [.rng, .out, .sys]) s.m m')) ∧
  -- two valid claims on one side: neither is granted, cause 4
  (∀ c d : Claim, s.m.rng.arb = .window → s.m.rng.claims = [c, d] → s.m.claimCause c = 0 → s.m.claimCause d = 0 →
    c.side = d.side → Does (.arbWindowClose t) s fun m' => m'.rng.arb = .noHead ∧ m'.rng.arbFault = 3 ∧
      m'.counter (evtCnt 404) = satU32 (s.m.counter (evtCnt 404) + 1)) ∧
  (∀ c d : Claim, s.m.rng.arb = .window → s.m.rng.claims = [c, d] → s.m.claimCause c = 0 → s.m.claimCause d = 0 →
    c.side ≠ d.side → Does (.arbWindowClose t) s fun m' => m'.rng.arb = .granting ∧
      m'.rng.granted = some (min c.addr d.addr)) ∧
  (s.m.rng.arb = .granting → Does (.arbGrantHoldTimeout t) s fun m' =>
    m'.rng = { s.m.rng with arb := .noHead, drive := 0, granted := none, headAddr := none } ∧ OnlyIn [.rng, .sys] s.m m') ∧
  (s.m.rng.arb ≠ .fault → Does (.arbHoldNoHead t) s fun m' => m'.rng = { s.m.rng with arb := .fault, arbFault := 2 } ∧
    Raises [404] s.m m' ∧ OnlyIn (evtBlocks ++ [.rng, .sys]) s.m m') ∧
  (s.m.portUp 0 = true → Does .arbBeaconSend s fun m' => (∃ f, m'.out = .ring 0 f :: s.m.out ∧ f.type = 0x0C ∧
    byteAt f.payload 0 = arbCode s.m.rng.arb) ∧ OnlyIn [.rng, .out] s.m m') ∧
  (∀ f : RFrame, Hears 0x0C f s.m → Does (.arbBeaconRx f) s fun m' => m'.rng.arbiterSeen = true ∧ m'.rng.arb = .fault ∧
    m'.rng.arbFault = 1 ∧ m'.rng.drive = 0 ∧ m'.rng.granted = none ∧ Raises [404] s.m m' ∧
    OnlyIn (evtBlocks ++ [.rng, .out]) s.m m')

/-- Candidates and the head (R549, R559, R560, R563 to R566, R571): the grant latch, claiming, becoming head and
ceasing to be, and the two requests to the head. The model's choices in it: log entries 38, 104 and 105. -/
def Obligations.Headship : Prop := ∀ (s : State) (t : Nat),
  (∀ level : Nat, Does (.arbGrantChange level) s fun m' =>
    m'.rng.latch = (if level = 1 then s.m.rng.latch || s.m.rng.holdOut else if level = 2 then false else s.m.rng.latch) ∧
    m'.rng.head = s.m.rng.head ∧ OnlyIn [.rng] s.m m') ∧
  -- a candidate that meets every condition claims
  (∀ (f : RFrame) (side : Nat), Hears 0x09 f s.m → s.m.rng.role = 1 →
    (s.m.rng.addr < 64 → s.m.rng.hostUp = true → s.m.inBoot = false → s.m.com.fuseEn = false → s.m.rng.head = .candidate →
      Does (.claimOpenRx f side) s fun m' => m'.rng.head = .claiming ∧ m'.rng.side = side ∧
        OnlyIn [.rng, .out, .cnt] s.m m') ∧
    (s.m.rng.hostUp = false ∨ s.m.com.fuseEn = true ∨ s.m.rng.head = .holdoff → Does (.claimOpenRx f side) s fun m' =>
      m'.rng.head = s.m.rng.head ∧ OnlyIn [.rng, .out, .cnt] s.m m')) ∧
  -- HEAD_GRANTED
  (∀ f : RFrame, Hears 0x0B f s.m → s.m.rng.role = 1 → s.m.isHead = false →
    (leNat ((f.payload.drop 4).take 8) = s.m.sys.serial → byteAt f.payload 2 = s.m.rng.addr → byteAt f.payload 2 ≠ 0xFF →
      Does (.headGrantedRx f t) s fun m' => m'.isHead = true ∧ m'.rng.holdOut = true ∧ m'.rng.arpLeft = 3 ∧
        m'.rng.headAddr = some s.m.rng.addr ∧ m'.ang = { s.m.ang with gridLocal := false } ∧ Raises [398] s.m m' ∧
        OnlyIn (evtBlocks ++ [.rng, .out, .sys, .ang]) s.m m') ∧
    (byteAt f.payload 2 ≠ s.m.rng.addr → Does (.headGrantedRx f t) s fun m' => m'.isHead = false ∧
      m'.rng.headAddr = (if byteAt f.payload 2 = 0xFF then none else some (byteAt f.payload 2)) ∧
      (s.m.rng.head = .claiming → m'.rng.head = .candidate) ∧
      (s.m.rng.head = .holdoff → m'.rng.head = if byteAt f.payload 2 = 0xFF then .candidate else .holdoff) ∧
      OnlyIn [.rng, .out, .sys, .cnt] s.m m')) ∧
  -- the head ends: the host link lost with another candidate ready, both ports down, or a release
  (s.m.isHead = true →
    (s.m.rng.hostUp = false → s.m.otherReady = true → Does (.headHostLossTimeout t) s (HeadEnds s.m)) ∧
    (s.m.portUp 0 = false → s.m.portUp 1 = false → Does (.headRingLossTimeout t) s (HeadEnds s.m)) ∧
    (s.m.rng.releasing = true → Does (.headReleaseExecute t) s (HeadEnds s.m))) ∧
  (s.m.rng.hostUp = true ∨ s.m.otherReady = false → Does (.headHostLossTimeout t) s fun m' => m'.rng = s.m.rng ∧
    OnlyIn [.sys] s.m m') ∧
  (∀ r : Req, Admitted 0x0D03 r s.m → r.payload.length = 4 → byteAt r.payload 0 ≤ 1 → s.m.lacks r.ctx .engineer = false →
    s.m.isHead = true → s.m.inBoot = false →
    (byteAt r.payload 0 = 1 ∨ s.m.otherReady = true → Does (.headRelease r) s fun m' => Replies 0x0D03 r .done [] s.m m' ∧
      m'.rng = { s.m.rng with releasing := true } ∧ OnlyIn (.rng :: replyBlocks) s.m m') ∧
    (byteAt r.payload 0 = 0 → s.m.otherReady = false → Does (.headRelease r) s fun m' =>
      Replies 0x0D03 r .busy [] s.m m' ∧ ReadOnly r s.m m')) ∧
  (∀ r : Req, May 0x0D02 r s.m .engineer → r.payload.length = 16 → byteAt r.payload 8 ≤ 63 →
    s.m.annAt (byteAt r.payload 8) = none → byteAt r.payload 8 ≠ s.m.rng.addr → s.m.isHead = true →
    Does (.ringAddrAssign r) s fun m' =>
      m'.rng.assign = s.m.rng.assign ++ [{ cmd := s.m.cmd.nextId, serial := leNat (r.payload.take 8), addr := byteAt r.payload 8,
                                           at_ := max s.m.sys.clock r.t }] ∧
      (∃ o ∈ m'.cmd.outst, o.id = s.m.cmd.nextId ∧ o.opcode = 0x0D02 ∧ o.tag = r.tag ∧ o.live = true) ∧
      OnlyIn (.rng :: replyBlocks) s.m m') ∧
  (s.m.rng.role = 2 ∨ s.m.rng.role = 0 → Does .arbBeaconTimeout s fun m' => m'.rng = { s.m.rng with arbiterSeen := false } ∧
    Quiet s.m m' ∧ OnlyIn [.rng] s.m m')

/-! ### CAN -/

/-- The controllers' states (R579, R580, R582, R607, R608): error counting, bus-off, its delay and recovery, restart,
and rate detection. The model's choices in it: log entries 110, 114 and 116. -/
def Obligations.CanControllers : Prop := ∀ (s : State) (n t : Nat), n < 2 →
  -- a bus error while the controller sends and receives
  (∀ (tec recv err : Nat) (inData : Bool), (s.m.cann n).sends = true →
    (tec ≤ 255 → ∀ st, st = (if 127 < tec ∨ 127 < recv then CanState.errorPassive else CanState.errorActive) →
      Does (.canBusError n tec recv err inData t) s fun m' =>
        (m'.cann n).state = st ∧ (m'.cann n).tec = tec ∧ (m'.cann n).rec_ = recv ∧ (m'.cann n).lastErr = err ∧
        (m'.cann n).lastInData = inData ∧ (m'.cann n).queue = (s.m.cann n).queue ∧ m'.cann (1 - n) = s.m.cann (1 - n) ∧
        m'.counter (canCnt n 7) = satU32 (s.m.counter (canCnt n 7) + 1) ∧ CountsOnly [canCnt n 7] s.m m' ∧
        Raises (if (s.m.cann n).state = st then [] else [canEv n 0]) s.m m' ∧
        OnlyIn (evtBlocks ++ [.can, .sys]) s.m m') ∧
    -- beyond 255: bus-off, with CAN_BUSOFF_DELAY started; held at the eighth within 60 s
    (255 < tec → ∀ k, k = (((s.m.cann n).offs.take 7).filter fun x => decide (max s.m.sys.clock t < x + secs 60)).length →
      Does (.canBusError n tec recv err inData t) s fun m' =>
        (m'.cann n).state = (if 7 ≤ k then .busOffHeld else .busOff) ∧ (m'.cann n).tec = 255 ∧
        (m'.cann n).delayAt = max s.m.sys.clock t ∧ (m'.cann n).monitor = false ∧
        (m'.cann n).queue = (s.m.cann n).queue ∧ m'.cann (1 - n) = s.m.cann (1 - n) ∧
        m'.counter (canCnt n 4) = satU32 (s.m.counter (canCnt n 4) + 1) ∧
        m'.counter (canCnt n 7) = satU32 (s.m.counter (canCnt n 7) + 1) ∧
        Raises (if 7 ≤ k then [canEv n 0, canEv n 1, canEv n 0] else [canEv n 0, canEv n 1]) s.m m' ∧
        OnlyIn (evtBlocks ++ [.can, .sys]) s.m m')) ∧
  (∀ (tec recv err : Nat) (inData : Bool), (s.m.cann n).receives = false →
    Does (.canBusError n tec recv err inData t) s fun m' => m'.can = s.m.can ∧ Quiet s.m m' ∧ OnlyIn [.sys] s.m m') ∧
  ((s.m.cann n).state = .busOff →
    ((s.m.cann n).delayAt + msec (s.m.canSet n 8) ≤ t → Does (.canBusoffDelayEnd n t) s fun m' =>
      m'.cann n = { s.m.cann n with monitor := true } ∧ m'.cann (1 - n) = s.m.cann (1 - n) ∧ OnlyIn [.can, .sys] s.m m') ∧
    (t < (s.m.cann n).delayAt + msec (s.m.canSet n 8) → Does (.canBusoffDelayEnd n t) s fun m' => OnlyIn [.sys] s.m m') ∧
    -- 128 sequences of 11 recessive bits: ERROR_ACTIVE, and only SAFE-HOLD keeps a stop message waiting
    ((s.m.cann n).monitor = true → Does (.canBusoffRecovered n) s fun m' =>
      m'.cann n = { s.m.cann n with state := .errorActive, tec := 0, rec_ := 0, monitor := false,
                                    queue := (s.m.cann n).queue.filter fun x =>
                                      decide (s.m.sys.mode = .safeHold ∨ x.kind ≠ .stop) } ∧
      m'.cann (1 - n) = s.m.cann (1 - n) ∧ Raises [canEv n 0, canEv n 2] s.m m' ∧ OnlyIn (.can :: evtBlocks) s.m m') ∧
    ((s.m.cann n).monitor = false → Does (.canBusoffRecovered n) s fun m' => m' = s.m)) ∧
  (∀ r : Req, May 0x0B06 r s.m .engineer → r.payload.length = 4 → byteAt r.payload 0 = n →
    ((s.m.cann n).state = .busOffHeld → Does (.canRestart r) s fun m' => Replies 0x0B06 r .done [] s.m m' ∧
      m'.cann n = { s.m.cann n with state := .busOff, delayAt := max s.m.sys.clock r.t, monitor := false } ∧
      m'.cann (1 - n) = s.m.cann (1 - n) ∧ Raises [canEv n 0] s.m m' ∧ OnlyIn (.can :: evtBlocks ++ replyBlocks) s.m m') ∧
    ((s.m.cann n).state ≠ .busOffHeld → Does (.canRestart r) s fun m' => Replies 0x0B06 r .wrongMode [] s.m m' ∧
      ReadOnly r s.m m')) ∧
  (∀ r : Req, May 0x0B05 r s.m .engineer → r.payload.length = 4 → byteAt r.payload 0 = n →
    (s.m.sys.mode = .commission ∨ s.m.sys.mode = .standby) →
    ((s.m.cann n).sends = true ∨ (s.m.cann n).state = .listen → Does (.canRateDetect r) s fun m' =>
      Accepts 0x0B05 r s.m m' ∧ (m'.cann n).state = .detecting ∧ (m'.cann n).nom = none ∧ (m'.cann n).dataRate = none ∧
      (m'.cann n).detect = some { cmd := s.m.cmd.nextId, before := (s.m.cann n).state, start := max s.m.sys.clock r.t } ∧
      m'.cann (1 - n) = s.m.cann (1 - n) ∧ Raises [canEv n 0] s.m m' ∧ OnlyIn (.can :: evtBlocks ++ replyBlocks) s.m m') ∧
    ((s.m.cann n).receives = false ∨ (s.m.cann n).state = .detecting → Does (.canRateDetect r) s fun m' =>
      Replies 0x0B05 r .busy [] s.m m' ∧ ReadOnly r s.m m')) ∧
  (∀ d, (s.m.cann n).detect = some d →
    (t < d.start + secs 5 → (s.m.cann n).nom = none ∨ d.dataPhase = true → Does (.canRateTryEnd n t) s fun m' =>
      m'.cann n = { s.m.cann n with detect := some { d with code := (d.code + 3) % 4, good := 0 } } ∧
      m'.cann (1 - n) = s.m.cann (1 - n) ∧ OnlyIn [.can, .sys] s.m m') ∧
    -- nothing found after 5 s
    (∀ o, d.cmd = o.id → Waiting o s.m → d.start + secs 5 ≤ t → (s.m.cann n).nom = none → Does (.canRateTryEnd n t) s fun m' =>
      Finishes o .timeout s.m m' ∧ (m'.cann n).state = d.before ∧ (m'.cann n).detect = none ∧
      m'.counter (evtCnt (canEv n 12)) = satU32 (s.m.counter (evtCnt (canEv n 12)) + 1) ∧
      OnlyIn (finishBlocks ++ [.can, .sys]) s.m m'))

/-- Frames that are sent (R592 to R596, R603, R604): what is queued and what an acknowledgement brings; the lowest
identifier of the pending frames goes first. The model's choices in it: log entries 111 and 113. -/
def Obligations.CanTransmit : Prop := ∀ (s : State) (n t : Nat), n < 2 →
  (∀ r : Req, byteAt r.payload 0 = n → 8 ≤ r.payload.length → r.payload.length = 8 + byteAt r.payload 2 →
    May 0x0B04 r s.m .engineer →
    (s.m.canSendOk r.payload = true → (s.m.cann n).sends = true → Does (.canSend r) s fun m' =>
      Accepts 0x0B04 r s.m m' ∧
      (∃ x : Tx, (m'.cann n).queue = ((s.m.cann n).queue.filter fun y => y.kind ≠ .host s.m.cmd.nextId) ++ [x] ∧
        x.kind = .host s.m.cmd.nextId ∧ x.data = r.payload.drop 8 ∧ x.at_ = max s.m.sys.clock r.t ∧
        x.word0 % 2 ^ 29 = field r.payload 4 4 % 2 ^ 29 ∧ x.word0.testBit 29 = (byteAt r.payload 1).testBit 0 ∧
        x.word0.testBit 30 = (byteAt r.payload 1).testBit 1 ∧ x.word0.testBit 31 = (byteAt r.payload 1).testBit 2) ∧
      m'.cann (1 - n) = s.m.cann (1 - n) ∧ OnlyIn (.can :: replyBlocks) s.m m') ∧
    (s.m.canSendOk r.payload = true → (s.m.cann n).sends = false → Does (.canSend r) s fun m' =>
      Replies 0x0B04 r .busy [] s.m m' ∧ ReadOnly r s.m m') ∧
    (s.m.canSendOk r.payload = false → Does (.canSend r) s fun m' =>
      Replies 0x0B04 r .badParam [] s.m m' ∧ ReadOnly r s.m m')) ∧
  -- the frame of a host not acknowledged within 100 ms
  (∀ (o : Outst) (x : Tx), s.m.cmd.outst = [o] → o.live = true → o.opcode = 0x0B04 → byteAt o.payload 0 = n →
    (s.m.cann n).queue = [x] → x.kind = .host o.id →
    (x.at_ + msec 100 ≤ t → Does (.canSendTimeout o.ctx o.tag t) s fun m' => Finishes o .timeout s.m m' ∧
      (m'.cann n).queue = [] ∧ m'.cann (1 - n) = s.m.cann (1 - n) ∧ OnlyIn (finishBlocks ++ [.can, .sys]) s.m m') ∧
    (t < x.at_ + msec 100 → Does (.canSendTimeout o.ctx o.tag t) s fun m' => OnlyIn [.sys] s.m m')) ∧
  (∀ (sof : Nat) (x : Tx), s.m.inBoot = false → (s.m.cann n).state = .errorActive → x ∈ (s.m.cann n).offered sof →
    (∀ y ∈ (s.m.cann n).offered sof, y ≠ x → arbKey x.word0 < arbKey y.word0) →
    ((∀ id, x.kind ≠ .host id) → Does (.canFrameAcked n sof t) s fun m' =>
      m'.out = .can n x.word0 x.data :: s.m.out ∧ (m'.cann n).queue = (s.m.cann n).queue.filter (fun y => y.kind ≠ x.kind) ∧
      (m'.cann n).tec = (s.m.cann n).tec - 1 ∧ m'.cann (1 - n) = s.m.cann (1 - n) ∧
      (x.kind = .sync → (m'.cann n).syncAt = some ((s.m.tick t).plantAt sof) ∧ (m'.cann n).timeState = 1 ∧
        (m'.cann n).lastSeq = byteAt x.data 0) ∧
      m'.counter (canCnt n 1) = satU32 (s.m.counter (canCnt n 1) + 1) ∧ CountsOnly [canCnt n 1] s.m m' ∧
      Raises (if x.kind = .stop then [canEv n 8] else []) s.m m' ∧ OnlyIn (evtBlocks ++ [.can, .out, .sys]) s.m m') ∧
    (∀ o, x.kind = .host o.id → Waiting o s.m → Does (.canFrameAcked n sof t) s fun m' =>
      (∃ rep : Reply, m'.out = .reply o.ctx rep :: .can n x.word0 x.data :: s.m.out ∧ rep.tag = o.tag ∧ rep.status = .done) ∧
      (m'.cann n).queue = (s.m.cann n).queue.filter (fun y => y.kind ≠ x.kind) ∧
      (∀ y : Outst, y ∈ m'.cmd.outst ↔ y ∈ s.m.cmd.outst ∧ y.id ≠ o.id) ∧
      m'.counter (canCnt n 1) = satU32 (s.m.counter (canCnt n 1) + 1) ∧ OnlyIn (finishBlocks ++ [.can, .sys]) s.m m')) ∧
  -- a transmit mailbox's period: its frame replaces one of the mailbox not yet sent
  (∀ mb : Nat, s.m.inBoot = false → (s.m.cann n).sends = true → byteAt (mapBox s.m.canMap n mb) 0 = 3 →
    Does (.canSignalPeriod n mb t) s fun m' =>
      (∃ x : Tx, (m'.cann n).queue = ((s.m.cann n).queue.filter fun y => y.kind ≠ .signal mb) ++ [x] ∧
        x.kind = .signal mb ∧ x.at_ = max s.m.sys.clock t ∧
        x.word0 % 2 ^ 29 = field (mapBox s.m.canMap n mb) 4 4 % 2 ^ 29 ∧
        x.data = s.m.txData n mb (field (mapBox s.m.canMap n mb) 2 2) (Config.freeNat s.m.free)) ∧
      m'.cann (1 - n) = s.m.cann (1 - n) ∧ Quiet s.m m' ∧ OnlyIn [.can, .free, .sys] s.m m') ∧
  (∀ mb : Nat, byteAt (mapBox s.m.canMap n mb) 0 ≠ 3 ∨ (s.m.cann n).state = .off ∨ (s.m.cann n).state = .listen →
    Does (.canSignalPeriod n mb t) s fun m' => OnlyIn [.sys] s.m m')

/-- Frames that are received (R577, R584, R588 to R591): the first filter that matches, the mailbox and its pending
frame, locks, signals and their age. The model's choices in it: log entries 112, 113 and 115. -/
def Obligations.CanReceive : Prop := ∀ (s : State) (n t : Nat), n < 2 →
  (∀ (w sof : Nat) (esi rtr : Bool) (d : List Byte), (s.m.cann n).state = .errorActive → s.m.timeRole n = 0 →
    (s.m.cann n).detect = none → (w.testBit 30 = true → s.m.canSet n 1 ≠ 0) →
    -- no filter
    ((∀ f < 32, filterMatch (mapFilter s.m.canMap n f) w = false) → Does (.canFrameRx n w esi rtr d sof t) s fun m' =>
      m'.counter (canCnt n 2) = satU32 (s.m.counter (canCnt n 2) + 1) ∧ CountsOnly [canCnt n 2] s.m m' ∧
      m'.counter (evtCnt (canEv n 5)) = satU32 (s.m.counter (evtCnt (canEv n 5)) + 1) ∧
      (∀ k, m'.box n k = s.m.box n k) ∧ m'.can.rx = s.m.can.rx ∧ m'.cann (1 - n) = s.m.cann (1 - n) ∧
      OnlyIn (evtBlocks ++ [.can, .free, .sys]) s.m m') ∧
    (∀ f < 32, filterMatch (mapFilter s.m.canMap n f) w = true →
      (∀ g < f, filterMatch (mapFilter s.m.canMap n g) w = false) →
      -- a filter that rejects
      (byteAt (mapFilter s.m.canMap n f) 8 = 3 → Does (.canFrameRx n w esi rtr d sof t) s fun m' =>
        Quiet s.m m' ∧ CountsOnly [] s.m m' ∧ (∀ k, m'.box n k = s.m.box n k) ∧ m'.can.rx = s.m.can.rx ∧
        OnlyIn [.can, .free, .sys] s.m m') ∧
      (∀ (k : Nat) (b : BoxFrame), byteAt (mapFilter s.m.canMap n f) 8 ≠ 3 →
        k = (if byteAt (mapFilter s.m.canMap n f) 8 = 2 then 64 else byteAt (mapFilter s.m.canMap n f) 9) →
        s.m.isRxSignal n k = false →
        b = { word0 := w, esi := esi, rtr := rtr, filter := f, stamp := (s.m.tick t).plantAt sof, data := d } →
        ((s.m.box n k).new = false → (s.m.box n k).locked = false → Does (.canFrameRx n w esi rtr d sof t) s fun m' =>
          m'.box n k = { s.m.box n k with frame := some { b with overrun := (s.m.box n k).ovr }, new := true, ovr := false } ∧
          (∀ j, j ≠ k → m'.box n j = s.m.box n j) ∧ m'.counter (canCnt n 0) = satU32 (s.m.counter (canCnt n 0) + 1) ∧
          CountsOnly [canCnt n 0] s.m m' ∧ Raises (if k = 64 then [canEv n 3] else []) s.m m' ∧
          m'.can.rx = s.m.can.rx ∧ OnlyIn (evtBlocks ++ [.can, .free, .sys]) s.m m') ∧
        -- the mailbox holds a frame: the next one waits
        ((s.m.box n k).new = true ∨ (s.m.box n k).locked = true → (s.m.box n k).pend = none →
          Does (.canFrameRx n w esi rtr d sof t) s fun m' =>
            m'.box n k = { s.m.box n k with pend := some b } ∧ (∀ j, j ≠ k → m'.box n j = s.m.box n j) ∧
            m'.counter (canCnt n 0) = satU32 (s.m.counter (canCnt n 0) + 1) ∧ Quiet s.m m' ∧
            OnlyIn [.can, .cnt, .free, .sys] s.m m') ∧
        -- one waits already: replaced in an OVERWRITE mailbox, else the new one is dropped
        (∀ p, (s.m.box n k).new = true ∨ (s.m.box n k).locked = true → (s.m.box n k).pend = some p →
          Does (.canFrameRx n w esi rtr d sof t) s fun m' =>
            m'.box n k = { s.m.box n k with
              pend := some (if k ≠ 64 ∧ (byteAt (mapBox s.m.canMap n k) 1).testBit 0 = true then b else p), ovr := true } ∧
            m'.counter (canCnt n 3) = satU32 (s.m.counter (canCnt n 3) + 1) ∧
            m'.counter (evtCnt (canEv n 4)) = satU32 (s.m.counter (evtCnt (canEv n 4)) + 1) ∧
            OnlyIn (evtBlocks ++ [.can, .free, .sys]) s.m m')) ∧
      -- an RX_SIGNAL mailbox consumes its frame at once
      (∀ k, byteAt (mapFilter s.m.canMap n f) 8 = 1 → k = byteAt (mapFilter s.m.canMap n f) 9 → k < 64 →
        s.m.isRxSignal n k = true → (s.m.box n k).new = false → (s.m.box n k).locked = false →
        Does (.canFrameRx n w esi rtr d sof t) s fun m' => (m'.box n k).new = false ∧
          (∀ sg < 256, ∀ e, e = mapRx s.m.canMap sg →
            (byteAt e 0 = 1 → byteAt e 1 = n → byteAt e 2 = k → sigFits e d.length = true →
              tabGet ({} : RxSig) m'.can.rx sg = { value := sigValue e d, at_ := max s.m.sys.clock t, valid := true,
                                                   count := (tabGet ({} : RxSig) s.m.can.rx sg).count + 1 }) ∧
            (byteAt e 0 ≠ 1 ∨ byteAt e 1 ≠ n ∨ byteAt e 2 ≠ k ∨ sigFits e d.length = false →
              tabGet ({} : RxSig) m'.can.rx sg = tabGet ({} : RxSig) s.m.can.rx sg)) ∧
          OnlyIn [.can, .cnt, .free, .sys] s.m m'))) ∧
  (∀ k : Nat,
    ((s.m.box n k).locked = false → Does (.canMbWord0Read n k t) s fun m' =>
      m'.box n k = { s.m.box n k with locked := true, lockAt := t } ∧ (∀ j, j ≠ k → m'.box n j = s.m.box n j) ∧
      Quiet s.m m' ∧ OnlyIn [.can, .sys] s.m m') ∧
    ((s.m.box n k).pend = none → Does (.canMbWord19Read n k t) s fun m' =>
      m'.box n k = { s.m.box n k with locked := false, new := false } ∧ (∀ j, j ≠ k → m'.box n j = s.m.box n j) ∧
      Quiet s.m m' ∧ OnlyIn [.can, .sys] s.m m') ∧
    (∀ f, (s.m.box n k).pend = some f → s.m.isRxSignal n k = false → Does (.canMbWord19Read n k t) s fun m' =>
      m'.box n k = { s.m.box n k with frame := some { f with overrun := (s.m.box n k).ovr }, locked := false, new := true,
                                      ovr := false, pend := none } ∧
      Raises (if k = 64 then [canEv n 3] else []) s.m m' ∧ OnlyIn (evtBlocks ++ [.can, .sys]) s.m m') ∧
    -- a lock of 10 ms ends; the frame stays
    ((s.m.box n k).locked = true → (s.m.box n k).lockAt + msec 10 ≤ t →
      (s.m.box n k).pend = none ∨ (s.m.box n k).new = true → Does (.canLockTimeout n k t) s fun m' =>
        m'.box n k = { s.m.box n k with locked := false } ∧ m'.counter (canCnt n 6) = satU32 (s.m.counter (canCnt n 6) + 1) ∧
        m'.counter (evtCnt (canEv n 13)) = satU32 (s.m.counter (evtCnt (canEv n 13)) + 1) ∧
        OnlyIn (evtBlocks ++ [.can, .sys]) s.m m') ∧
    ((s.m.box n k).locked = false ∨ t < (s.m.box n k).lockAt + msec 10 → Does (.canLockTimeout n k t) s fun m' =>
      OnlyIn [.sys] s.m m')) ∧
  (∀ (sg : Nat) (e : Bytes) (x : RxSig) (dest : Nat), e = mapRx s.m.canMap sg → x = tabGet ({} : RxSig) s.m.can.rx sg →
    dest = field (mapBox s.m.canMap (byteAt e 1) (byteAt e 2)) 10 2 → byteAt e 1 < 2 →
    (byteAt e 0 = 1 → x.valid = true → dest ≠ 0 → x.at_ + msec dest < t → Does (.canSignalTimeout sg t) s fun m' =>
      tabGet ({} : RxSig) m'.can.rx sg = { x with valid := false } ∧
      (∀ k, k ≠ sg → tabGet ({} : RxSig) m'.can.rx k = tabGet ({} : RxSig) s.m.can.rx k) ∧
      Raises [canEv (byteAt e 1) 6] s.m m' ∧ OnlyIn (evtBlocks ++ [.can, .sys]) s.m m') ∧
    (dest = 0 ∨ x.valid = false ∨ t ≤ x.at_ + msec dest → Does (.canSignalTimeout sg t) s fun m' => OnlyIn [.sys] s.m m'))

/-- Plant time on CAN (R597 to R600): the master's SYNC and FOLLOW, the slave's pairs, holdover, and a second master.
The model's choices in it: log entry 117. -/
def Obligations.CanTime : Prop := ∀ (s : State) (n t : Nat), n < 2 →
  (s.m.inBoot = false → s.m.timeRole n = 1 → (s.m.cann n).timeState ≠ 3 → (s.m.cann n).sends = true →
    (s.m.tick t).plantNow ≠ 0 → Does (.canTimeSyncSend n t) s fun m' =>
      (m'.cann n).queue = ((s.m.cann n).queue.filter fun x => x.kind ≠ .sync) ++
        [{ kind := .sync, word0 := s.m.canSet n 5, at_ := max s.m.sys.clock t,
           data := leBytes 1 ((s.m.cann n).lastSeq + 1) ++ leBytes 1 (bit (s.m.tick t).plantLocked) ++ zeros 6 }] ∧
      m'.cann (1 - n) = s.m.cann (1 - n) ∧ Quiet s.m m' ∧ OnlyIn [.can, .sys] s.m m') ∧
  (s.m.timeRole n ≠ 1 ∨ (s.m.cann n).timeState = 3 ∨ (s.m.tick t).plantNow = 0 → Does (.canTimeSyncSend n t) s fun m' =>
    OnlyIn [.sys] s.m m') ∧
  (∀ v, (s.m.cann n).syncAt = some v → (s.m.cann n).timeState ≠ 3 → (s.m.cann n).sends = true →
    Does (.canTimeFollowSend n t) s fun m' =>
      (m'.cann n).queue = ((s.m.cann n).queue.filter fun x => x.kind ≠ .follow) ++
        [{ kind := .follow, word0 := s.m.canSet n 5 + 1, at_ := max s.m.sys.clock t, data := leBytes 8 v }] ∧
      (m'.cann n).syncAt = none ∧ m'.cann (1 - n) = s.m.cann (1 - n) ∧ OnlyIn [.can, .sys] s.m m') ∧
  ((s.m.cann n).syncAt = none → Does (.canTimeFollowSend n t) s fun m' => OnlyIn [.sys] s.m m') ∧
  (s.m.timeRole n = 2 → (s.m.cann n).timeState = 1 →
    ((s.m.cann n).pairAt + secs 10 ≤ t → Does (.canTimeHoldover n t) s fun m' =>
      m'.cann n = { s.m.cann n with timeState := 2, pairs := 0 } ∧ m'.cann (1 - n) = s.m.cann (1 - n) ∧
      Raises [canEv n 10] s.m m' ∧ OnlyIn (evtBlocks ++ [.can, .sys]) s.m m') ∧
    (t < (s.m.cann n).pairAt + secs 10 → Does (.canTimeHoldover n t) s fun m' => OnlyIn [.sys] s.m m')) ∧
  -- received time frames; here no filter takes them
  (∀ (w sof : Nat) (d : List Byte), (s.m.cann n).state = .errorActive → (s.m.cann n).detect = none → d.length = 8 →
    w < 2 ^ 29 → (∀ f < 32, filterMatch (mapFilter s.m.canMap n f) w = false) →
    -- a master that hears a SYNC of its own T
    (s.m.timeRole n = 1 → w = s.m.canSet n 5 → (s.m.cann n).timeState ≠ 3 → Does (.canFrameRx n w false false d sof t) s fun m' =>
      (m'.cann n).timeState = 3 ∧ (∀ x ∈ (m'.cann n).queue, x.kind ≠ .sync ∧ x.kind ≠ .follow) ∧
      m'.counter (evtCnt (canEv n 14)) = satU32 (s.m.counter (evtCnt (canEv n 14)) + 1)) ∧
    (s.m.timeRole n = 2 → w = s.m.canSet n 5 → Does (.canFrameRx n w false false d sof t) s fun m' =>
      (m'.cann n).sync = some (byteAt d 0, (byteAt d 1).testBit 0, sof) ∧ (m'.cann n).timeState = (s.m.cann n).timeState) ∧
    -- a slave's FOLLOW within 20 ms of a SYNC whose source is locked: a pair
    (∀ seq s0, s.m.timeRole n = 2 → w = s.m.canSet n 5 + 1 → (s.m.cann n).sync = some (seq, true, s0) →
      sof ≤ s0 + msec 20 → s.m.isHead = false → Does (.canFrameRx n w false false d sof t) s fun m' =>
        (m'.cann n).lastSeq = seq ∧ (m'.cann n).sync = none ∧ (m'.cann n).pairs = (s.m.cann n).pairs + 1 ∧
        (m'.cann n).offset = sat32s (((leNat d + s.m.canSet n 6 : Nat) : Int) - (s.m.tick t).plantAt s0) ∧
        (m'.cann n).timeState = (if 3 ≤ (s.m.cann n).pairs + 1 then 1 else (s.m.cann n).timeState) ∧
        m'.rng = s.m.rng))

/-! ### The service port and housekeeping -/

/-- Transfers of the service port (R615 to R617, R621): the pointer, what a write reaches, and what a read takes.
Notifies of the service port (R622, R624): sent with a new NOTIFY_SEQ, retried SVC_NOTIFY_RETRIES times, and given up.
The model's choices in it: log entry 125. -/
def Obligations.ServicePort : Prop :=
  (∀ s : State,
  (s.m.svc.state ≠ .recovering → ∀ (p : Byte) (stop : Bool), s.m.svc.held = [] →
    (Does (.svcWriteTransfer [p] stop) s fun m' => m'.svc.pointer = p.toNat ∧ m'.svc.winOffset = s.m.svc.winOffset ∧
      m'.svc.state = (if stop then .idle else .target) ∧ m'.svc.cause = s.m.svc.cause ∧
      m'.counter 0x0F0010 = satU32 (s.m.counter 0x0F0010 + 1) ∧ CountsOnly [0x0F0010] s.m m' ∧ OnlyIn [.svc, .cnt] s.m m') ∧
    -- WIN_OFFSET takes effect with its highest byte
    (∀ a b c d : Byte, p.toNat = 0x80 → Does (.svcWriteTransfer [p, a, b, c, d] stop) s fun m' =>
      m'.svc.winOffset = leNat [a, b, c, d] % 0x1000000 ∧ m'.svc.held = [] ∧ m'.svc.pointer = 0x84 ∧
      CountsOnly [0x0F0010] s.m m' ∧ OnlyIn [.svc, .cnt] s.m m') ∧
    -- nothing else can be written
    (∀ b : Byte, p.toNat < 0x80 ∨ 0x83 < p.toNat → Does (.svcWriteTransfer [p, b] stop) s fun m' =>
      m'.svc.winOffset = s.m.svc.winOffset ∧ m'.svc.pointer = (p.toNat + 1) % 256 ∧ m'.svc.cause = s.m.svc.cause ∧
      m'.counter 0x0F0018 = satU32 (s.m.counter 0x0F0018 + 1) ∧ CountsOnly [0x0F0010, 0x0F0018] s.m m' ∧
      OnlyIn [.svc, .cnt] s.m m')) ∧
  -- a value read from its lowest byte on is taken whole
  (∀ (lo len v : Nat) (stop : Bool), s.m.svc.state ≠ .recovering → s.m.svc.latches = [] → s.m.svc.pointer = lo →
    (lo, len, v) ∈ s.m.svcMap → Does (.svcReadTransfer len stop) s fun m' =>
      m'.out = .svc (leBytes len v) :: s.m.out ∧ m'.svc.pointer = (lo + len) % 256 ∧
      m'.svc.cause = (if lo = 0x3C then 0 else s.m.svc.cause) ∧ m'.svc.winOffset = s.m.svc.winOffset ∧
      m'.counter 0x0F0010 = satU32 (s.m.counter 0x0F0010 + 1) ∧ CountsOnly [0x0F0010] s.m m' ∧
      OnlyIn [.svc, .cnt, .out] s.m m') ∧
  (∀ (n : Nat) (stop : Bool), s.m.svc.state ≠ .recovering → Does (.svcReadTransfer n stop) s fun m' =>
    (∃ b, m'.out = .svc b :: s.m.out ∧ b.length = n) ∧ (0 < n → m'.svc.pointer = (s.m.svc.pointer + n) % 256)) ∧
  -- WIN_DATA: both registers in one access
  (s.m.svc.state ≠ .recovering →
    (regOk s.m.svc.winOffset = true → regOk (s.m.svc.winOffset + 4) = true → Does (.svcWinDataRead 8) s fun m' =>
      (∃ b, m'.out = .svc b :: s.m.out ∧ b.length = 8 ∧
        ∀ x : Module, x = (s.m.onSvc fun v => { v with pointer := 0x88, latches := [] }).bump 0x0F0010 →
          b = leBytes 4 (x.regTake2 s.m.svc.winOffset).1 ++ leBytes 4 (x.regTake2 s.m.svc.winOffset).2.1) ∧
      m'.svc.winStatus = 0) ∧
    (regOk s.m.svc.winOffset = false ∨ regOk (s.m.svc.winOffset + 4) = false → Does (.svcWinDataRead 8) s fun m' =>
      m'.out = .svc (zeros 8) :: s.m.out ∧ m'.svc.winStatus = 1 ∧ OnlyIn [.svc, .cnt, .out] s.m m'))) ∧
  (∀ (s : State) (t outcome : Nat), s.m.svc.pending = true → (∀ t0, s.m.svc.sentAt = some t0 → t0 + msec 100 ≤ t) →
  s.m.setting 0x0B80 ≠ 0 → s.m.svc.state = .idle →
  (s.m.svc.attempts = 0 → Does (.svcNotify t outcome) s (Notifies t outcome s.m)) ∧
  (0 < s.m.svc.attempts → Does (.svcNotifyRetry t outcome) s (Notifies t outcome s.m)))

/-- Supply and hold-up (R705, R706, R658): a change of source, the loss of the last one, the idle supply, and
restoration. Housekeeping rounds (R715 to R718, R721, R722): the reading, its thresholds, the write window, the sensor
and the rails. The model's choices in it: log entries 133 to 135 and 159. -/
def Obligations.SupplyAndHousekeeping : Prop :=
  (∀ s : State,
  (s.m.hk.j1 = true → s.m.hk.j2 = true →
    (Does (.supplyLost false) s fun m' => m'.hk = { s.m.hk with j1 := false } ∧ Raises [0] s.m m' ∧
      m'.counter 0x110064 = satU32 (s.m.counter 0x110064 + 1) ∧ CountsOnly [0x110064] s.m m' ∧
      OnlyIn (.hk :: evtBlocks) s.m m') ∧
    (Does (.supplyLost true) s fun m' => m'.hk = { s.m.hk with j2 := false } ∧ Raises [9] s.m m' ∧ CountsOnly [] s.m m' ∧
      OnlyIn (.hk :: evtBlocks) s.m m')) ∧
  -- the last source: hold-up
  (∀ j2 : Bool, s.m.hk.j1 = !j2 → s.m.hk.j2 = j2 → Does (.supplyLost j2) s fun m' =>
    m'.hk = { s.m.hk with j1 := false, j2 := false, holdup := true } ∧ m'.isHead = false ∧
    (s.m.isHead = true → m'.rng.holdOut = false ∧ m'.rng.head = .candidate) ∧ (s.m.isHead = false → m'.rng = s.m.rng) ∧
    m'.counter 0x110060 = satU32 (s.m.counter 0x110060 + 1) ∧
    Raises (if s.m.isHead then [399, 2] else [2]) s.m m' ∧
    (s.m.hk.windowOpen = true → m'.blt.power = some { stamp := s.m.blt.data.stamp, gen := s.m.set.gen, unsaved := s.m.set.unsaved }) ∧
    (s.m.hk.windowOpen = false → m'.blt.power = s.m.blt.power) ∧
    OnlyIn (evtBlocks ++ [.hk, .rng]) s.m m') ∧
  (∀ dc : Bool, s.m.hk.holdup = false → s.m.hk.j1 = false → s.m.hk.j2 = true → Does (.supplyRestored false dc) s fun m' =>
    m'.hk = { s.m.hk with j1 := true, j1dc := dc } ∧ Raises [0] s.m m' ∧
    m'.counter 0x110064 = satU32 (s.m.counter 0x110064 + 1) ∧ CountsOnly [0x110064] s.m m' ∧ OnlyIn (.hk :: evtBlocks) s.m m') ∧
  (s.m.hk.j1 = true → ∀ dc : Bool, Does (.supplyRestored true dc) s fun m' =>
    m'.hk = { s.m.hk with j2 := true } ∧ Quiet s.m m' ∧ OnlyIn [.hk] s.m m') ∧
  (s.m.hk.holdup = true → s.m.hk.j1 = false → s.m.hk.j2 = false → ∀ j2 dc : Bool, Does (.supplyRestored j2 dc) s fun m' =>
    m'.hk = (if j2 then { s.m.hk with j2 := true, holdup := false }
             else { s.m.hk with j1 := true, j1dc := dc, holdup := false }) ∧
    m'.counter 0x110064 = satU32 (s.m.counter 0x110064 + 1) ∧ m'.counter (evtCnt 0) = satU32 (s.m.counter (evtCnt 0) + 1) ∧
    OnlyIn (evtBlocks ++ finishBlocks ++ [.hk, .lrn, .drf]) s.m m')) ∧
  (∀ (s : State) (raw v low : Int) (rails : List Nat) (t run : Nat) (fault : Bool),
  v = (raw + (if s.m.hk.factoryBad then 0 else s.m.hk.diodeOffset) + 5) / 10 →
  low = (if s.m.hk.factoryBad then 50 else 0) → run = (if s.m.readingBad v then s.m.hk.badRun + 1 else 0) →
  fault = (s.m.hk.sensorFault || decide (3 ≤ run)) →
  (Does (.hkRound raw rails t) s fun m' =>
    m'.hk.dieLast = some v ∧ m'.hk.dieMax = some (max v (s.m.hk.dieMax.getD v)) ∧ m'.hk.prevRaw = some v ∧
    m'.hk.badRun = run ∧ m'.hk.sensorFault = fault ∧ m'.hk.rails = rails ∧ m'.hk.railFault = s.m.railBad rails ∧
    m'.hk.shedZone = (fault || decide (1050 - low < v)) ∧ m'.hk.critical = (fault || decide (1100 - low < v)) ∧
    (m'.hk.critical = true → m'.sys.dieSeen = true) ∧
    -- the write window
    (fault = true ∨ 1000 - low < v ∨ v < -200 - low → m'.hk.windowOpen = false ∧ m'.hk.inWindow = 0) ∧
    (s.m.hk.windowOpen = true → fault = false → v ≤ 1000 - low → -200 - low ≤ v → m'.hk.windowOpen = true) ∧
    (s.m.hk.windowOpen = false → fault = false → -180 - low ≤ v → v ≤ 980 - low →
      m'.hk.windowOpen = decide (2 ≤ s.m.hk.inWindow) ∧
      m'.hk.inWindow = (if 2 ≤ s.m.hk.inWindow then 0 else s.m.hk.inWindow + 1)) ∧
    -- shedding starts here, and ends by SHED_END alone
    (m'.hk.shedZone = true → m'.wft.shed = true) ∧ (s.m.wft.shed = true → m'.wft.shed = true) ∧
    -- the sensor, counted once
    (s.m.hk.sensorFault = false → fault = true → m'.counter 0x110070 = satU32 (s.m.counter 0x110070 + 1)) ∧
    OnlyIn (evtBlocks ++ finishBlocks ++ [.hk, .sys, .lrn, .drf, .rep, .wft]) s.m m') ∧
  -- nothing leaves its limits: the reading alone is taken
  (fault = false → v ≤ 1000 - low → -200 - low ≤ v → s.m.hk.windowOpen = true → s.m.railBad rails = s.m.hk.railFault →
    Does (.hkRound raw rails t) s fun m' => Quiet s.m m' ∧ CountsOnly [0x110068] s.m m' ∧ OnlyIn [.hk, .sys, .cnt] s.m m'))

/-! ### The cloth record, replay and the bolt -/

/-- Snapshots, freeze triggers and captured spans (R635, R639 to R645): what a trigger starts, joins or waits for,
where a span goes, and the valid mark. The model's choices in it: log entries 118 and 119. -/
def Obligations.Freezes : Prop := ∀ s : State,
  -- a snapshot begins at most every 10 s, with its SNAP_HEAD
  (∀ t : Nat, s.m.clo.running = true → s.m.inBoot = false → s.m.clo.snap = none → s.m.clo.gap = none →
    (∀ a, s.m.clo.snapAt = some a → a + secs 10 ≤ t) → Does (.beamSnapshotStart t) s fun m' =>
      (∃ p, m'.clo.snap = some p ∧ p.first = s.m.pck.index ∧ p.incomplete = decide (s.m.wft.unassigned ≠ [])) ∧
      m'.clo.snapAt = some t ∧
      (∃ e, e.type = 4 ∧ e.pick = s.m.pck.index ∧ e.at_ = t ∧ m'.clo.ring = cloTrim 0x100000000 (e :: s.m.clo.ring)) ∧
      OnlyIn (.clo :: evtBlocks) s.m m') ∧
  (∀ t a : Nat, s.m.clo.snapAt = some a → t < a + secs 10 → Does (.beamSnapshotStart t) s fun m' => m' = s.m) ∧
  -- CLO_FREEZE: its trigger starts a capture
  (∀ (r : Req) (ring : List CloEntry), May 0x0701 r s.m .operate → r.payload.length = 0 → s.m.clo.running = true →
    s.m.clo.gap = none → ring = cloTrim 0x100000000
      ({ type := 6, pick := s.m.pck.index, body := leBytes 1 2 ++ zeros 7, at_ := s.m.pck.instant } :: s.m.clo.ring) →
    (s.m.clo.capture = none → s.m.clo.buffer = none → headsBefore s.m.pck.instant ring ≠ [] → Does (.cloFreeze r) s fun m' =>
      Accepts 0x0701 r s.m m' ∧
      (∃ f, m'.clo.capture = some f ∧ f.cause = 2 ∧ f.mask = 2 ∧ f.triggers = 1 ∧ f.pick = s.m.pck.index ∧
        f.waiters = [s.m.cmd.nextId]) ∧ m'.counter (evtCnt 418) = satU32 (s.m.counter (evtCnt 418) + 1) ∧
      OnlyIn (.clo :: evtBlocks ++ replyBlocks) s.m m') ∧
    -- no snapshot is in reach: the trigger is lost
    (s.m.clo.capture = none → s.m.clo.buffer = none → headsBefore s.m.pck.instant ring = [] → Does (.cloFreeze r) s fun m' =>
      RepliesLate 0x0701 r .timeout [] s.m m' ∧ m'.clo.capture = none ∧
      m'.counter 0x0B0088 = satU32 (s.m.counter 0x0B0088 + 1) ∧
      m'.counter (evtCnt 422) = satU32 (s.m.counter (evtCnt 422) + 1)) ∧
    -- one that runs takes it in
    (∀ f, s.m.clo.capture = some f → Does (.cloFreeze r) s fun m' => Accepts 0x0701 r s.m m' ∧
      (∃ g, m'.clo.capture = some g ∧ g.cause = f.cause ∧ g.mask = f.mask ||| 2 ∧ g.triggers = satU16 (f.triggers + 1) ∧
        g.pick = f.pick ∧ g.waiters = f.waiters ++ [s.m.cmd.nextId]) ∧
      m'.counter 0x0B0084 = satU32 (s.m.counter 0x0B0084 + 1) ∧
      m'.counter (evtCnt 419) = satU32 (s.m.counter (evtCnt 419) + 1) ∧ OnlyIn (.clo :: evtBlocks ++ replyBlocks) s.m m') ∧
    -- the buffer is taken: it waits
    (∀ f, s.m.clo.capture = none → s.m.clo.buffer = some f → s.m.clo.queued = none → Does (.cloFreeze r) s fun m' =>
      Accepts 0x0701 r s.m m' ∧ m'.clo.buffer = some f ∧ m'.clo.capture = none ∧
      (∃ g, m'.clo.queued = some g ∧ g.cause = 2 ∧ g.waiters = [s.m.cmd.nextId]) ∧
      OnlyIn (.clo :: evtBlocks ++ replyBlocks) s.m m')) ∧
  -- the span is complete
  (∀ f, s.m.clo.capture = some f →
    (∀ k, f.waiters = [] → s.m.clo.target = none → s.m.chooseSlot = some k → Does .freezeCaptureEnd s fun m' =>
      m'.clo.capture = none ∧ m'.clo.target = some k ∧
      (∃ g, m'.clo.buffer = some g ∧ g.seq = s.m.clo.seq + 1 ∧ g.cause = f.cause ∧
        g.entries = (f.entries.dropWhile fun e => decide (f.stop < e.pick)) ∧
        m'.slot k = { state := 1, keep := f.keep, freeze := some g, release := s.m.sys.release }) ∧
      (∀ j, j ≠ k → m'.slot j = s.m.slot j) ∧ Raises (if s.m.flashOk then [] else [424]) s.m m' ∧
      OnlyIn (.clo :: evtBlocks) s.m m') ∧
    -- no slot can take it: HELD
    (f.waiters = [] → s.m.clo.target = none → s.m.chooseSlot = none → Does .freezeCaptureEnd s fun m' =>
      m'.clo.capture = none ∧ m'.clo.target = none ∧ m'.clo.buffer.isSome = true ∧ m'.clo.slots = s.m.clo.slots ∧
      Raises [421] s.m m' ∧ OnlyIn (.clo :: evtBlocks) s.m m') ∧
    (∀ o, f.waiters = [o.id] → Waiting o s.m → 4 ≤ s.m.replyRoom o.ctx → Does .freezeCaptureEnd s fun m' =>
      (∃ rep : Reply, m'.out = .reply o.ctx rep :: s.m.out ∧ rep.tag = o.tag ∧ rep.status = .done ∧ rep.more = false ∧
        rep.payload = leBytes 4 (s.m.clo.seq + 1)) ∧ (∀ x : Outst, x ∈ m'.cmd.outst ↔ x ∈ s.m.cmd.outst ∧ x.id ≠ o.id) ∧
      m'.clo.capture = none ∧ m'.clo.buffer.isSome = true ∧ OnlyIn finishBlocks s.m m')) ∧
  (s.m.clo.capture = none → Does .freezeCaptureEnd s fun m' => m' = s.m) ∧
  -- the valid mark, inside the write window
  (∀ k f, s.m.clo.target = some k → s.m.clo.buffer = some f → s.m.clo.queued = none →
    (s.m.flashOk = true → Does .freezeSlotWritten s fun m' =>
      m'.clo.target = none ∧ m'.clo.buffer = none ∧ m'.clo.seq = f.seq ∧ m'.slot k = { s.m.slot k with state := 2 } ∧
      (∀ j, j ≠ k → m'.slot j = s.m.slot j) ∧ m'.counter 0x0B0080 = satU32 (s.m.counter 0x0B0080 + 1) ∧
      CountsOnly [0x0B0080] s.m m' ∧ Raises [420] s.m m' ∧ OnlyIn (.clo :: evtBlocks) s.m m') ∧
    (s.m.flashOk = false → Does .freezeSlotWritten s fun m' => m' = s.m))

/-- Frozen slots on request (R642, R661, R665, R716): export, release and erasure. Replay (R646 to R650, R662, R663):
REP_START takes pool tiles, the passes report, the result, and REP_ABORT. The model's choices in it: log entries 120
and 121. -/
def Obligations.SlotsAndReplays : Prop :=
  (∀ (r : Req) (s : State) (k : Nat), k = byteAt r.payload 0 → k < 4 →
  r.payload.length = 4 →
  (May 0x0703 r s.m .observe →
    ((s.m.slot k).state = 2 → Does (.cloSlotExport r) s fun m' => Exports 0x0703 r (s.m.slot k).image (some k) s.m m' ∧
      m'.slotInUse k = true) ∧
    ((s.m.slot k).state ≠ 2 → Does (.cloSlotExport r) s fun m' => Replies 0x0703 r .busy [] s.m m' ∧ ReadOnly r s.m m')) ∧
  (May 0x0704 r s.m .engineer → s.m.clo.buffer = none → Does (.cloSlotRelease r) s fun m' =>
    Replies 0x0704 r .done [] s.m m' ∧ m'.slot k = { s.m.slot k with keep := false } ∧
    (∀ j, j ≠ k → m'.slot j = s.m.slot j) ∧ Raises [425] s.m m' ∧ OnlyIn (.clo :: evtBlocks ++ replyBlocks) s.m m') ∧
  (May 0x0705 r s.m .engineer →
    ((s.m.slot k).keep = true ∨ s.m.slotInUse k = true ∨ (s.m.slot k).state = 1 → Does (.cloSlotErase r) s fun m' =>
      Replies 0x0705 r .busy [] s.m m' ∧ ReadOnly r s.m m') ∧
    ((s.m.slot k).keep = false → s.m.slotInUse k = false → (s.m.slot k).state ≠ 1 →
      (s.m.flashOk = true → s.m.clo.buffer = none → Does (.cloSlotErase r) s fun m' =>
        RepliesLate 0x0705 r .done [] s.m m' ∧ m'.slot k = {} ∧ (∀ j, j ≠ k → m'.slot j = s.m.slot j) ∧ Quiet s.m m' ∧
        OnlyIn (.clo :: replyBlocks) s.m m') ∧
      -- it waits for the write window
      (s.m.flashOk = false → Does (.cloSlotErase r) s fun m' => Accepts 0x0705 r s.m m' ∧
        m'.clo = { s.m.clo with erasing := s.m.clo.erasing ++ [(s.m.cmd.nextId, k)] } ∧
        OnlyIn (.clo :: replyBlocks) s.m m')))) ∧
  (∀ (r : Req) (s : State),
  (∀ start stop sets whole, May 0x0710 r s.m .engineer → r.payload.length = 24 →
    s.m.repAsk r.payload = some (start, stop, sets, whole) →
    (s.m.rep.state ≠ 1 → s.m.rep.state ≠ 2 → s.m.replayTiles ≠ [] → s.m.wft.shed = false → Does (.repStart r) s fun m' =>
      RepliesLate 0x0710 r .done [] s.m m' ∧ m'.rep.state = 2 ∧ m'.rep.tiles = s.m.replayTiles.take sets.length ∧
      m'.rep.pass = 1 ∧ m'.rep.passes = ceilDiv sets.length (s.m.replayTiles.take sets.length).length ∧
      m'.rep.start = start ∧ m'.rep.finish = stop ∧ m'.rep.sets = sets ∧ m'.rep.progress = start ∧ m'.rep.divSet = 0xFFFF ∧
      m'.rep.stopAtFirst = (byteAt r.payload 1).testBit 0 ∧
      m'.counter (evtCnt 426) = satU32 (s.m.counter (evtCnt 426) + 1) ∧
      OnlyIn (evtBlocks ++ replyBlocks ++ [.rep, .wft]) s.m m') ∧
    (s.m.rep.state = 2 ∨ s.m.rep.state = 1 ∨ s.m.replayTiles = [] ∨ s.m.wft.shed = true → Does (.repStart r) s fun m' =>
      Replies 0x0710 r .busy [] s.m m' ∧ ReadOnly r s.m m')) ∧
  (s.m.rep.state = 2 → ∀ (last rate : Nat),
    (s.m.rep.pass < s.m.rep.passes → (s.m.rep.stopAtFirst = false ∨ s.m.rep.divSet = 0xFFFF) →
      Does (.replayPassEnd last none rate []) s fun m' =>
        m'.rep = { s.m.rep with pass := s.m.rep.pass + 1, progress := s.m.rep.start, rate := satU32 rate } ∧
        Quiet s.m m' ∧ OnlyIn [.rep] s.m m') ∧
    (s.m.rep.passes ≤ s.m.rep.pass → Does (.replayPassEnd last none rate []) s fun m' =>
        m'.rep = { s.m.rep with progress := last, rate := satU32 rate } ∧ Quiet s.m m' ∧ OnlyIn [.rep] s.m m') ∧
    -- the first divergence
    (∀ p set_ cell : Nat, s.m.rep.divPick = 0 → s.m.rep.divSet = 0xFFFF → Does (.replayPassEnd last (some (p, set_, cell)) rate []) s
      fun m' => m'.rep.divPick = p ∧ m'.rep.divSet = set_ ∧ m'.rep.divCell = cell ∧
        m'.rep.cellKnown = decide (cell ≠ 0xFFFF) ∧ Raises [428] s.m m' ∧ OnlyIn (.rep :: evtBlocks) s.m m') ∧
    (∀ result : Nat, s.m.rep.aborters = [] → Does (.replayEnd result) s fun m' =>
      m'.rep = { s.m.rep with state := 3, tiles := [], ended := true,
                              result := if result ≤ 2 then (if s.m.rep.divSet = 0xFFFF then 1 else 2) else result } ∧
      (∀ x ∈ s.m.rep.tiles, (m'.tile x).state ≠ .replay) ∧
      m'.counter (evtCnt 427) = satU32 (s.m.counter (evtCnt 427) + 1) ∧ OnlyIn (evtBlocks ++ [.rep, .wft, .clo]) s.m m') ∧
    (∀ (result : Nat) (o : Outst), s.m.rep.aborters = [o.id] → Waiting o s.m → Does (.replayEnd result) s fun m' =>
      Finishes o .done s.m m' ∧ m'.rep.state = 3 ∧ OnlyIn (finishBlocks ++ [.rep, .wft]) s.m m')) ∧
  (s.m.rep.state ≠ 1 → s.m.rep.state ≠ 2 → ∀ result : Nat, Does (.replayEnd result) s fun m' => m' = s.m) ∧
  (May 0x0712 r s.m .engineer → r.payload.length = 0 →
    (s.m.rep.state = 1 ∨ s.m.rep.state = 2 → Does (.repAbort r) s fun m' => Accepts 0x0712 r s.m m' ∧
      m'.rep = { s.m.rep with aborters := s.m.rep.aborters ++ [s.m.cmd.nextId] } ∧ OnlyIn (.rep :: replyBlocks) s.m m') ∧
    (s.m.rep.state ≠ 1 → s.m.rep.state ≠ 2 → Does (.repAbort r) s fun m' => Replies 0x0712 r .done [] s.m m' ∧
      ReadOnly r s.m m')))

/-- The bolt (R651, R652, R655 to R659, R664): operating seconds, held stamps, flushes, export and the reset of cells.
The model's choices in it: log entries 122 to 124. -/
def Obligations.BoltRecords : Prop := ∀ s : State,
  (Does .boltSecond s fun m' => m'.blt.data.stamp = { s.m.blt.data.stamp with secs := s.m.blt.data.stamp.secs + 1 } ∧
    m'.blt.data.codes = s.m.blt.data.codes ∧ m'.blt.data.extremes = s.m.blt.data.extremes ∧
    (s.m.inBoot = true ∨ s.m.pck.running = false → m'.blt.data.hist = s.m.blt.data.hist ∧ m'.blt.histDue = s.m.blt.histDue) ∧
    (s.m.inBoot = false → s.m.pck.running = true → s.m.pck.released = false →
      m'.blt.data.hist = s.m.blt.data.hist ∧ m'.blt.histDue = true) ∧
    (s.m.slv.voting = 2 → s.m.inBoot = false → m'.slv = { s.m.slv with degraded := satU32 (s.m.slv.degraded + 1) }) ∧
    (s.m.slv.voting ≠ 2 ∨ s.m.inBoot = true → m'.slv = s.m.slv) ∧ Quiet s.m m' ∧ OnlyIn [.blt, .slv] s.m m') ∧
  (∀ c : Nat, ∀ b, b = tabGet ({} : BoltCode) s.m.blt.data.codes c → Does (.boltStampHoldEnd c) s fun m' =>
    tabGet ({} : BoltCode) m'.blt.data.codes c =
      (match b.held with
        | some x => { b with last := x, held := none }
        | none => { b with closed := false }) ∧
    (∀ k, k ≠ c → tabGet ({} : BoltCode) m'.blt.data.codes k = tabGet ({} : BoltCode) s.m.blt.data.codes k) ∧
    m'.blt.data.stamp = s.m.blt.data.stamp ∧ Quiet s.m m' ∧ OnlyIn [.blt] s.m m') ∧
  -- a flush starts with the sections as they stand, or is deferred
  (s.m.blt.flush = none → s.m.blt.pending = none →
    (∀ full : Bool, s.m.flashOk = true → s.m.cmd.loadLast ≤ 900 → Does (.boltFlushDue full true) s fun m' =>
      m'.blt.flush = some { full := full, seq := flushSeq s.m.blt.newest + 1, data := s.m.blt.data } ∧
      m'.blt.pending = none ∧ m'.blt.deferred = false ∧ m'.blt.data = s.m.blt.data ∧ Quiet s.m m' ∧ OnlyIn [.blt] s.m m') ∧
    (∀ full : Bool, s.m.flashOk = false ∨ 900 < s.m.cmd.loadLast → s.m.blt.deferred = false →
      Does (.boltFlushDue full true) s fun m' => m'.blt.flush = none ∧ m'.blt.pending = some full ∧ m'.blt.deferred = true ∧
        m'.counter 0x0C0024 = satU32 (s.m.counter 0x0C0024 + 1) ∧ CountsOnly [0x0C0024] s.m m' ∧ Raises [430] s.m m' ∧
        OnlyIn evtBlocks s.m m') ∧
    (∀ full : Bool, s.m.blt.prompt = true → s.m.flashOk = true → Does (.boltFlushDue full false) s fun m' =>
      m'.blt.flush = some { full := false, seq := flushSeq s.m.blt.newest + 1, data := s.m.blt.data } ∧
      m'.blt.prompt = false ∧ OnlyIn [.blt] s.m m') ∧
    (∀ full : Bool, s.m.blt.prompt = false → Does (.boltFlushDue full false) s fun m' => m' = s.m)) ∧
  (∀ full : Bool, s.m.blt.deferred = true → s.m.flashOk = true → s.m.blt.flush = none → s.m.blt.pending = some full →
    Does .boltFlushDeferEnd s fun m' =>
      m'.blt.flush = some { full := full, seq := flushSeq s.m.blt.newest + 1, data := s.m.blt.data } ∧
      m'.blt.pending = none ∧ m'.blt.deferred = false ∧ OnlyIn [.blt] s.m m') ∧
  (s.m.blt.deferred = false ∨ s.m.flashOk = false → Does .boltFlushDeferEnd s fun m' => m' = s.m) ∧
  (∀ f, s.m.blt.flush = some f →
    (s.m.flashOk = true → s.m.blt.pending = none →
      (s.m.blt.waiters = [] → Does .boltFlushWritten s fun m' => m'.blt.flush = none ∧ m'.blt.torn = false ∧
        m'.blt.newestFull = (if f.full then some f else s.m.blt.newestFull) ∧
        m'.blt.newestQuick = (if f.full then s.m.blt.newestQuick else some f) ∧
        m'.counter 0x0C0020 = satU32 (s.m.counter 0x0C0020 + 1) ∧ CountsOnly [0x0C0020] s.m m' ∧ Raises [429] s.m m' ∧
        OnlyIn evtBlocks s.m m') ∧
      (∀ o, s.m.blt.waiters = [o.id] → Waiting o s.m → Does .boltFlushWritten s fun m' => Finishes o .done s.m m' ∧
        m'.blt.flush = none ∧ OnlyIn finishBlocks s.m m')) ∧
    (s.m.flashOk = false → Does .boltFlushWritten s fun m' => m' = s.m)) ∧
  (∀ r : Req,
    (May 0x0721 r s.m .observe → r.payload.length = 0 → Does (.bltExport r) s fun m' =>
      Exports 0x0721 r (s.m.taken r).boltImage none s.m m') ∧
    (May 0x0722 r s.m .operate → r.payload.length = 4 → byteAt r.payload 0 ≤ 1 →
      (s.m.flashOk = true → s.m.blt.flush = none → s.m.blt.pending = none → s.m.blt.waitersNext = [] →
        Does (.bltFlushNow r) s fun m' => Accepts 0x0722 r s.m m' ∧ m'.blt.waiters = [s.m.cmd.nextId] ∧
          (∃ f, m'.blt.flush = some f ∧ f.full = decide (byteAt r.payload 0 = 1) ∧ f.data = s.m.blt.data) ∧
          OnlyIn (.blt :: replyBlocks) s.m m') ∧
      -- one is being written: the next one follows it
      (∀ f, s.m.blt.flush = some f → Does (.bltFlushNow r) s fun m' => Accepts 0x0722 r s.m m' ∧ m'.blt.flush = some f ∧
        m'.blt.pending = some (decide (byteAt r.payload 0 = 1) || s.m.blt.pending.getD false) ∧
        m'.blt.waitersNext = s.m.blt.waitersNext ++ [s.m.cmd.nextId] ∧ OnlyIn (.blt :: replyBlocks) s.m m')) ∧
    (∀ first n : Nat, first = field r.payload 0 2 → n = field r.payload 2 2 → May 0x0723 r s.m .engineer →
      r.payload.length = 4 → s.m.cellRange first n = true → first + n ≤ 8192 → Does (.bltCellReset r) s fun m' =>
        RepliesLate 0x0723 r .done [] s.m m' ∧
        (∀ c, first ≤ c → c < first + n → ∀ h, h = 2 ∨ h = 3 → ∀ b < 32, tabGet 0 m'.blt.data.hist (histKey h c b) = 0) ∧
        (∀ h c b, c < 8192 → b < 32 → ¬((h = 2 ∨ h = 3) ∧ first ≤ c ∧ c < first + n) →
          tabGet 0 m'.blt.data.hist (histKey h c b) = tabGet 0 s.m.blt.data.hist (histKey h c b)) ∧
        Raises [433] s.m m' ∧ OnlyIn (evtBlocks ++ replyBlocks) s.m m'))

/-! ### Firmware update -/

/-- Delivery (R682 to R684): UPD_BEGIN starts or resumes an image, and UPD_PIECE stores a piece that passes its
checks. The model's choices in it: log entry 128. -/
def Obligations.UpdateDelivery : Prop := ∀ (r : Req) (s : State),
  (∀ (i : Image) (down : Bool), i = { header := r.payload.take 1024, keyRec := (r.payload.drop 1024).take 80 } →
    down = (byteAt r.payload 1104).testBit 0 → r.payload.length = 1108 →
    May 0x0801 r s.m (if down then .safety else .engineer) →
    (s.m.beginOk i down = false → Does (.updBegin r) s fun m' => Replies 0x0801 r .badParam [] s.m m' ∧ ReadOnly r s.m m') ∧
    (s.m.beginOk i down = true →
      (s.m.upd.state = .idle ∨ s.m.upd.state = .receiving → s.m.flashOk = true → Does (.updBegin r) s fun m' =>
        RepliesLate 0x0801 r .done [] s.m m' ∧ Raises [452] s.m m' ∧
        -- the same image goes on with what is stored; another starts afresh
        (∀ j, s.m.upd.staging = some j → j.id = i.id →
          m'.upd = { s.m.upd with staging := some { j with keyRec := i.keyRec } }) ∧
        ((∀ j, s.m.upd.staging = some j → j.id ≠ i.id) →
          m'.upd = { s.m.upd with staging := some i, downgrade := down, state := .receiving }) ∧
        OnlyIn (.upd :: evtBlocks ++ replyBlocks) s.m m') ∧
      ((s.m.upd.state ≠ .idle ∧ s.m.upd.state ≠ .receiving) ∨ s.m.flashOk = false → Does (.updBegin r) s fun m' =>
        Replies 0x0801 r .busy [] s.m m' ∧ ReadOnly r s.m m'))) ∧
  (∀ (i : Image) (n : Nat) (d : Bytes), n = field r.payload 0 4 → May 0x0802 r s.m .engineer → r.payload.length = 12 →
    s.m.upd.staging = some i → s.m.upd.state = .receiving → n < i.count →
    s.m.readPages (field r.payload 4 4) (i.pieceLen n + 16) = .ok d →
    (s.m.pieceOk i n (field r.payload 8 4) d = true → i.piece n = none → s.m.flashOk = true → Does (.updPiece r) s fun m' =>
      RepliesLate 0x0802 r .done [] s.m m' ∧
      (∃ j : Image, m'.upd = { s.m.upd with staging := some j } ∧ j.piece n = some d ∧
        (∀ k, k ≠ n → j.piece k = i.piece k) ∧ j.header = i.header ∧ j.keyRec = i.keyRec ∧
        Raises (if j.complete then [454] else []) s.m m') ∧ OnlyIn (.upd :: evtBlocks ++ replyBlocks) s.m m') ∧
    (s.m.pieceOk i n (field r.payload 8 4) d = true → (i.piece n).isSome = true → Does (.updPiece r) s fun m' =>
      Replies 0x0802 r .done [] s.m m' ∧ ReadOnly r s.m m') ∧
    (s.m.pieceOk i n (field r.payload 8 4) d = true → i.piece n = none → s.m.flashOk = false → Does (.updPiece r) s fun m' =>
      Replies 0x0802 r .busy [] s.m m' ∧ ReadOnly r s.m m') ∧
    (s.m.pieceOk i n (field r.payload 8 4) d = false → Does (.updPiece r) s fun m' =>
      Replies 0x0802 r .badParam [] s.m m' ∧ m'.upd = s.m.upd ∧
      m'.counter 0x100040 = satU32 (s.m.counter 0x100040 + 1) ∧
      m'.counter (evtCnt 453) = satU32 (s.m.counter (evtCnt 453) + 1) ∧ OnlyIn (evtBlocks ++ replyBlocks) s.m m')) ∧
  (May 0x0802 r s.m .engineer → r.payload.length = 12 → s.m.upd.staging = none ∨ s.m.upd.state ≠ .receiving →
    Does (.updPiece r) s fun m' => Replies 0x0802 r .badParam [] s.m m' ∧ ReadOnly r s.m m')

/-- Verification (R681, R687): UPD_VERIFY over a complete image, and its result. The model's choices in it: log entry
127. -/
def Obligations.UpdateVerification : Prop := ∀ s : State,
  (∀ r : Req, May 0x0804 r s.m .engineer → r.payload.length = 0 →
    (s.m.updComplete = true → s.m.upd.state ≠ .verifying → s.m.flashOk = true → Does (.updVerify r) s fun m' =>
      Accepts 0x0804 r s.m m' ∧
      m'.upd = { s.m.upd with state := .verifying, verifier := some s.m.cmd.nextId, verifyFail := 0, schedG := 0, autoG := none,
                              deferCause := 0 } ∧ OnlyIn (.upd :: replyBlocks) s.m m') ∧
    (s.m.updComplete = false ∨ s.m.upd.state = .verifying ∨ s.m.flashOk = false → Does (.updVerify r) s fun m' =>
      Replies 0x0804 r .busy [] s.m m' ∧ ReadOnly r s.m m')) ∧
  (∀ i o, s.m.upd.staging = some i → s.m.upd.state = .verifying → s.m.upd.verifier = some o.id → Waiting o s.m →
    s.m.flashOk = true →
    (s.m.verifyCode i = 0 → Does (.updVerifyComplete true) s fun m' => Finishes o .done s.m m' ∧ m'.upd.state = .ready ∧
      m'.upd.staging = some i ∧ m'.slotImage (!s.m.upd.activeB) = some i ∧
      m'.slotImage s.m.upd.activeB = s.m.slotImage s.m.upd.activeB ∧ m'.upd.verifier = none ∧
      m'.counter (evtCnt 455) = satU32 (s.m.counter (evtCnt 455) + 1) ∧ OnlyIn (.upd :: finishBlocks) s.m m') ∧
    -- the slot does not read back as written
    (s.m.verifyCode i = 0 → Does (.updVerifyComplete false) s fun m' => Finishes o .badParam s.m m' ∧
      m'.upd.state = .receiving ∧ m'.upd.verifyFail = 4 ∧ m'.slotImage (!s.m.upd.activeB) = none ∧ m'.upd.staging = some i) ∧
    -- not authentic: the staging area is emptied
    (∀ ok : Bool, s.m.verifyCode i = 1 ∨ s.m.verifyCode i = 2 → Does (.updVerifyComplete ok) s fun m' =>
      Finishes o .badParam s.m m' ∧ m'.upd = { s.m.upd with state := .idle, staging := none, verifier := none,
                                                            verifyFail := s.m.verifyCode i } ∧
      m'.counter (evtCnt 456) = satU32 (s.m.counter (evtCnt 456) + 1) ∧ OnlyIn (.upd :: finishBlocks) s.m m') ∧
    (∀ ok : Bool, s.m.verifyCode i = 3 ∨ s.m.verifyCode i = 5 → Does (.updVerifyComplete ok) s fun m' =>
      Finishes o .badParam s.m m' ∧ m'.upd = { s.m.upd with state := .receiving, verifier := none,
                                                            verifyFail := s.m.verifyCode i } ∧
      m'.counter (evtCnt 456) = satU32 (s.m.counter (evtCnt 456) + 1) ∧ OnlyIn (.upd :: finishBlocks) s.m m')) ∧
  (s.m.flashOk = false ∨ s.m.upd.state ≠ .verifying ∨ s.m.upd.staging = none → ∀ ok : Bool,
    Does (.updVerifyComplete ok) s fun m' => m' = s.m)

/-- Activation (R83, R681, R688 to R691): the instant, its request, cancellation, withdrawal and deferral. The model's
choices in it: log entries 47, 129, 130 and 156. -/
def Obligations.UpdateActivation : Prop := ∀ s : State,
  (∀ (r : Req) (g : Nat), g = leNat r.payload → May 0x0805 r s.m .engineer → r.payload.length = 8 →
    (s.m.ang.gridIndex + 50 ≤ g → s.m.updReady = true → s.m.ang.gridLocal = false → Does (.updSchedule r) s fun m' =>
      Replies 0x0805 r .done [] s.m m' ∧
      m'.upd = { s.m.upd with state := .scheduled, schedG := g, autoG := none, deferCause := 0 } ∧ Raises [457] s.m m' ∧
      OnlyIn (.upd :: evtBlocks ++ replyBlocks) s.m m') ∧
    (g < s.m.ang.gridIndex + 50 → Does (.updSchedule r) s fun m' => Replies 0x0805 r .badParam [] s.m m' ∧ ReadOnly r s.m m') ∧
    (s.m.ang.gridIndex + 50 ≤ g → s.m.updReady = false ∨ s.m.ang.gridLocal = true → Does (.updSchedule r) s fun m' =>
      Replies 0x0805 r .busy [] s.m m' ∧ ReadOnly r s.m m')) ∧
  (∀ r : Req, May 0x0806 r s.m .engineer → r.payload.length = 0 →
    (s.m.sys.mode = .standby ∨ s.m.sys.mode = .safeHold → s.m.updReady = true → Does (.updActivate r) s fun m' =>
      Replies 0x0806 r .done [] s.m m' ∧ m'.upd.state = .scheduled ∧ m'.upd.schedG = s.m.ang.gridIndex + 1 ∧
      Raises [457] s.m m' ∧ OnlyIn (.upd :: evtBlocks ++ replyBlocks) s.m m') ∧
    (s.m.sys.mode ≠ .standby → s.m.sys.mode ≠ .safeHold → Does (.updActivate r) s fun m' =>
      Replies 0x0806 r .wrongMode [] s.m m' ∧ ReadOnly r s.m m')) ∧
  (∀ r : Req, May 0x0807 r s.m .operate → r.payload.length = 0 →
    (s.m.upd.state = .scheduled ∨ s.m.upd.state = .deferred → Does (.updCancel r) s fun m' =>
      Replies 0x0807 r .done [] s.m m' ∧
      m'.upd = { s.m.upd with state := .ready, schedG := 0, autoG := none, deferCause := 0 } ∧ Quiet s.m m' ∧
      OnlyIn (.upd :: replyBlocks) s.m m') ∧
    (s.m.upd.state ≠ .scheduled → s.m.upd.state ≠ .deferred → Does (.updCancel r) s fun m' =>
      Replies 0x0807 r .busy [] s.m m' ∧ ReadOnly r s.m m')) ∧
  (∀ r : Req, May 0x0808 r s.m .engineer → r.payload.length = 0 →
    (s.m.upd.state = .idle ∨ s.m.upd.state = .receiving ∨ s.m.upd.state = .ready → s.m.flashOk = true → s.m.upd.verifier = none →
      Does (.updDiscard r) s fun m' => RepliesLate 0x0808 r .done [] s.m m' ∧ m'.upd.state = .idle ∧ m'.upd.staging = none ∧
        m'.upd.downgrade = false ∧ (s.m.upd.state = .ready → m'.slotImage (!s.m.upd.activeB) = none) ∧
        m'.slotImage s.m.upd.activeB = s.m.slotImage s.m.upd.activeB ∧ Quiet s.m m' ∧ OnlyIn (.upd :: replyBlocks) s.m m') ∧
    (s.m.upd.state = .scheduled ∨ s.m.upd.state = .deferred ∨ s.m.flashOk = false → Does (.updDiscard r) s fun m' =>
      Replies 0x0808 r .busy [] s.m m' ∧ ReadOnly r s.m m')) ∧
  -- the instant falls, after the pick, the loop ticks and the draft starts at treadle angle 0
  (s.m.upd.state = .scheduled → s.m.activationTurn = false → Does .activationInstant s fun m' => m' = s.m) ∧
  (s.m.upd.state = .scheduled → s.m.upd.schedG ≤ s.m.ang.gridIndex → s.m.activationTurn = true →
    -- passed by a jump: LATE
    (s.m.ang.startLate = true → Does .activationInstant s fun m' => m'.upd.schedG = 0 ∧ m'.upd.state ≠ .scheduled ∧
      m'.counter 0x04005C = satU32 (s.m.counter 0x04005C + 1))) ∧
  (s.m.upd.state = .scheduled → s.m.upd.schedG ≤ s.m.ang.gridIndex → s.m.activationTurn = true → s.m.ang.startLate = false →
    (s.m.ang.gridLocal = true → Does .activationInstant s fun m' =>
      m'.upd = { s.m.upd with state := .deferred, deferCause := 2, schedG := 0, autoG := none } ∧ Raises [458] s.m m' ∧
      m'.counter 0x100044 = satU32 (s.m.counter 0x100044 + 1) ∧ CountsOnly [0x100044] s.m m' ∧
      OnlyIn (.upd :: evtBlocks) s.m m') ∧
    (s.m.ang.gridLocal = false →
      (s.m.sys.mode = .dispatch ∨ s.m.sys.mode = .formation → Does .activationInstant s fun m' =>
        m'.upd = { s.m.upd with state := .deferred, deferCause := 1, schedG := 0, autoG := none } ∧ Raises [458] s.m m' ∧
        m'.counter 0x100044 = satU32 (s.m.counter 0x100044 + 1) ∧ OnlyIn (.upd :: evtBlocks) s.m m') ∧
      (s.m.sys.mode = .commission → Does .activationInstant s fun m' =>
        m'.upd = { s.m.upd with state := .ready, deferCause := 0, schedG := 0, autoG := none } ∧ Raises [459] s.m m' ∧
        OnlyIn (.upd :: evtBlocks) s.m m') ∧
      -- ACTIVATING: requests of outputs are cleared, the draft stops, a relay ends
      (s.m.sys.mode = .standby ∨ s.m.sys.mode = .safeHold → s.m.drf.state = .stop → Does .activationInstant s fun m' =>
        m'.upd.state = .activating ∧ m'.upd.schedG = 0 ∧ m'.upd.relay = none ∧ 
        m'.slv.reqHost % 2 ^ 24 = 0 ∧
        m'.counter (evtCnt 460) = satU32 (s.m.counter (evtCnt 460) + 1) ∧
        (s.m.upd.relay.isSome = true → m'.upd.relayLeft = 0 ∧
          m'.counter (evtCnt 461) = satU32 (s.m.counter (evtCnt 461) + 1)) ∧
        OnlyIn (evtBlocks ++ [.upd, .slv]) s.m m'))) ∧
  (s.m.upd.state ≠ .scheduled ∨ s.m.ang.gridIndex < s.m.upd.schedG → s.m.upd.state ≠ .deferred ∨ s.m.upd.autoG = none →
    Does .activationInstant s fun m' => m' = s.m)

/-- Relay and key revocation (R685, R686, R694): the source's pieces, answers and rounds, what a target stores and
answers. The model's choices in it: log entries 131 and 132. -/
def Obligations.UpdateRelay : Prop := ∀ s : State,
  (∀ (r : Req) (i : Image), May 0x0809 r s.m .engineer → r.payload.length = 8 → leNat r.payload ≠ 0 →
    (s.m.rng.addr < 64 → (leNat r.payload).testBit s.m.rng.addr = false) → s.m.upd.staging = some i →
    (s.m.updReady = true ∨ s.m.upd.state = .receiving ∧ s.m.updComplete = true → s.m.upd.relay = none → s.m.upd.heard = none →
      Does (.updRelay r) s fun m' => Accepts 0x0809 r s.m m' ∧
        m'.upd = { s.m.upd with
          relayLeft := leNat r.payload
          relay := some { imageId := i.id, round := 1, targets := maskList 64 (leNat r.payload), queue := List.range i.count,
                          cmd := s.m.cmd.nextId } } ∧ OnlyIn (.upd :: replyBlocks) s.m m') ∧
    (s.m.upd.relay.isSome = true → Does (.updRelay r) s fun m' => Replies 0x0809 r .busy [] s.m m' ∧ ReadOnly r s.m m')) ∧
  (∀ q i, s.m.upd.relay = some q → s.m.upd.staging = some i →
    (∀ n ns, q.queue = n :: ns → Does .relayPieceSend s fun m' => m'.upd = { s.m.upd with relay := some { q with queue := ns } } ∧
      (∀ k, m'.counter k = if k = 0x10004C ∧ 1 < q.round then satU32 (s.m.counter k + 1) else s.m.counter k) ∧
      (∃ fs, m'.out = fs ++ s.m.out) ∧ OnlyIn [.upd, .rng, .out, .cnt] s.m m') ∧
    (q.queue = [] → Does .relayPieceSend s fun m' => m' = s.m)) ∧
  -- answers of the targets
  (∀ (q : Relay) (f : RFrame), s.m.upd.relay = some q → f.hcrcOk = true → f.crcOk = true → f.type = 0x08 → f.flags % 2 = 1 →
    f.serial ≠ s.m.sys.serial → f.epoch = s.m.rng.epoch → f.dst = s.m.rng.addr → f.dst ≠ 0xFF → wholeMsg f →
    leNat ((f.payload.drop 4).take 8) = q.imageId → f.src ∈ q.targets →
    (byteAt f.payload 0 = 2 → Does (.relayNeedRx f) s fun m' =>
      m'.upd.relay = some { q with
        targets := if field f.payload 2 2 = 0xFFFF then q.targets.filter (· ≠ f.src) else q.targets
        need := if field f.payload 2 2 = 0xFFFF then q.need
                else q.need ++ (List.range (field f.payload 2 2)).map fun i => field f.payload (16 + 2 * i) 2
        answered := f.src :: q.answered } ∧ m'.upd.relayLeft = s.m.upd.relayLeft ∧ OnlyIn [.upd, .rng, .out] s.m m') ∧
    (byteAt f.payload 0 = 3 → Does (.relayDoneRx f) s fun m' =>
      m'.upd.relay = some { q with doneBy := f.src :: q.doneBy.filter (· ≠ f.src), answered := f.src :: q.answered } ∧
      m'.upd.relayLeft.testBit f.src = false ∧ (∀ k, k ≠ f.src → m'.upd.relayLeft.testBit k = s.m.upd.relayLeft.testBit k) ∧
      OnlyIn [.upd, .rng, .out] s.m m')) ∧
  (∀ q i, s.m.upd.relay = some q → s.m.upd.staging = some i →
    (q.queue ≠ [] → Does .relayRoundEnd s fun m' => m' = s.m) ∧
    -- the next round: what is needed, or everything where a target was silent
    (q.queue = [] → q.round < 16 → (∃ a ∈ q.targets, a ∉ q.doneBy) → Does .relayRoundEnd s fun m' =>
      (∃ next, m'.upd = { s.m.upd with
          relay := some { q with round := q.round + 1, queue := next, need := [], answered := [] } } ∧
        (∀ n, n ∈ next ↔ n < i.count ∧ (n ∈ q.need ∨ ∃ a ∈ q.targets, a ∉ q.doneBy ∧ a ∉ q.answered))) ∧
      OnlyIn [.upd] s.m m') ∧
    (∀ o, q.cmd = o.id → Waiting o s.m → 8 ≤ s.m.replyRoom o.ctx → q.queue = [] →
      16 ≤ q.round ∨ (∀ a ∈ q.targets, a ∈ q.doneBy) → Does .relayRoundEnd s fun m' =>
        (∃ rep : Reply, m'.out = .reply o.ctx rep :: s.m.out ∧ rep.tag = o.tag ∧ rep.status = .done ∧
          rep.payload = leBytes 8 (maskOf 64 fun a => a ∈ q.doneBy)) ∧ m'.upd = { s.m.upd with relay := none } ∧
        m'.counter (evtCnt 461) = satU32 (s.m.counter (evtCnt 461) + 1) ∧ OnlyIn (.upd :: finishBlocks) s.m m')) ∧
  -- a target owes its answer once
  (∀ h, s.m.upd.relay = none → s.m.upd.heard = some h → Does .relayRoundEnd s fun m' =>
    (h.owes = true → m'.upd = { s.m.upd with heard := some { h with owes := false } } ∧ OnlyIn [.upd, .rng, .out] s.m m') ∧
    (h.owes = false → m' = s.m)) ∧
  (∀ (f : RFrame) (i : Image) (n t : Nat) (target : Bool), f.hcrcOk = true → f.crcOk = true → f.type = 0x08 →
    f.flags % 2 = 1 → f.serial ≠ s.m.sys.serial → f.epoch = s.m.rng.epoch → f.dst = 0xFF → s.m.portShut f = false →
    wholeMsg f → byteAt f.payload 0 = 1 → n = field f.payload 2 2 → s.m.upd.staging = some i → Does (.relayPieceRx f target t) s fun m' =>
      m'.upd.heard = some { src := f.src, imageId := leNat ((f.payload.drop 4).take 8), at_ := t, owes := target } ∧
      (target = true → s.m.upd.state = .receiving → s.m.inBoot = false →
        i.id = leNat ((f.payload.drop 4).take 8) → n < i.count → i.piece n = none →
        s.m.flashOk = true → s.m.pieceOk i n (field f.payload 12 4) (f.payload.drop 16) = true →
        ∃ j : Image, m'.upd.staging = some j ∧ j.piece n = some (f.payload.drop 16) ∧ (∀ k, k ≠ n → j.piece k = i.piece k)) ∧
      (target = false ∨ s.m.upd.state ≠ .receiving ∨ i.id ≠ leNat ((f.payload.drop 4).take 8) ∨ i.count ≤ n ∨
        s.m.flashOk = false → m'.upd.staging = some i) ∧
      OnlyIn (evtBlocks ++ [.upd, .rng, .out, .sys]) s.m m') ∧
  (∀ (r : Req) (n : Nat), n = byteAt r.payload 0 → r.payload.length = 4 → n ≤ 3 → May 0x080A r s.m .safety →
    s.m.keyLive n = true → s.m.sys.mode = .commission → s.m.comBusy = false → s.m.flashOk = true →
    (s.m.com.fuseEn = true → s.m.upd.runKey ≠ n → s.m.otherKey n = true → Does (.updKeyRevoke r) s fun m' =>
      Accepts 0x080A r s.m m' ∧
      m'.com = { s.m.com with burn := some { cmd := s.m.cmd.nextId, group := 8 + n, value := [] } } ∧
      OnlyIn (.com :: replyBlocks) s.m m') ∧
    (s.m.com.fuseEn = false ∨ s.m.upd.runKey = n ∨ s.m.otherKey n = false → Does (.updKeyRevoke r) s fun m' =>
      Replies 0x080A r .safetyLocked [] s.m m' ∧ ReadOnly r s.m m'))

end Claims
end

