-- ==== Sys2Proof/Laws/State.lean ====
section
/-! SUPPORT. Laws/State.lean: what each updater of the module leaves as it was, one lemma per part. -/
namespace Sys2Proof.Machine

@[simp] theorem Module.onSys_sys (m : Module) (f) : (m.onSys f).sys = f m.sys := rfl
@[simp] theorem Module.onSys_cmd (m : Module) (f) : (m.onSys f).cmd = m.cmd := rfl
@[simp] theorem Module.onSys_set (m : Module) (f) : (m.onSys f).set = m.set := rfl
@[simp] theorem Module.onSys_bulk (m : Module) (f) : (m.onSys f).bulk = m.bulk := rfl
@[simp] theorem Module.onSys_evt (m : Module) (f) : (m.onSys f).evt = m.evt := rfl
@[simp] theorem Module.onSys_ang (m : Module) (f) : (m.onSys f).ang = m.ang := rfl
@[simp] theorem Module.onSys_pck (m : Module) (f) : (m.onSys f).pck = m.pck := rfl
@[simp] theorem Module.onSys_wrp (m : Module) (f) : (m.onSys f).wrp = m.wrp := rfl
@[simp] theorem Module.onSys_est (m : Module) (f) : (m.onSys f).est = m.est := rfl
@[simp] theorem Module.onSys_lrn (m : Module) (f) : (m.onSys f).lrn = m.lrn := rfl
@[simp] theorem Module.onSys_wft (m : Module) (f) : (m.onSys f).wft = m.wft := rfl
@[simp] theorem Module.onSys_com (m : Module) (f) : (m.onSys f).com = m.com := rfl
@[simp] theorem Module.onSys_slv (m : Module) (f) : (m.onSys f).slv = m.slv := rfl
@[simp] theorem Module.onSys_tmp (m : Module) (f) : (m.onSys f).tmp = m.tmp := rfl
@[simp] theorem Module.onSys_drf (m : Module) (f) : (m.onSys f).drf = m.drf := rfl
@[simp] theorem Module.onSys_can (m : Module) (f) : (m.onSys f).can = m.can := rfl
@[simp] theorem Module.onSys_rng (m : Module) (f) : (m.onSys f).rng = m.rng := rfl
@[simp] theorem Module.onSys_clo (m : Module) (f) : (m.onSys f).clo = m.clo := rfl
@[simp] theorem Module.onSys_rep (m : Module) (f) : (m.onSys f).rep = m.rep := rfl
@[simp] theorem Module.onSys_blt (m : Module) (f) : (m.onSys f).blt = m.blt := rfl
@[simp] theorem Module.onSys_svc (m : Module) (f) : (m.onSys f).svc = m.svc := rfl
@[simp] theorem Module.onSys_upd (m : Module) (f) : (m.onSys f).upd = m.upd := rfl
@[simp] theorem Module.onSys_hk (m : Module) (f) : (m.onSys f).hk = m.hk := rfl
@[simp] theorem Module.onSys_cnt (m : Module) (f) : (m.onSys f).cnt = m.cnt := rfl
@[simp] theorem Module.onSys_out (m : Module) (f) : (m.onSys f).out = m.out := rfl
@[simp] theorem Module.onSys_free (m : Module) (f) : (m.onSys f).free = m.free := rfl
@[simp] theorem Module.onCmd_cmd (m : Module) (f) : (m.onCmd f).cmd = f m.cmd := rfl
@[simp] theorem Module.onCmd_sys (m : Module) (f) : (m.onCmd f).sys = m.sys := rfl
@[simp] theorem Module.onCmd_set (m : Module) (f) : (m.onCmd f).set = m.set := rfl
@[simp] theorem Module.onCmd_bulk (m : Module) (f) : (m.onCmd f).bulk = m.bulk := rfl
@[simp] theorem Module.onCmd_evt (m : Module) (f) : (m.onCmd f).evt = m.evt := rfl
@[simp] theorem Module.onCmd_ang (m : Module) (f) : (m.onCmd f).ang = m.ang := rfl
@[simp] theorem Module.onCmd_pck (m : Module) (f) : (m.onCmd f).pck = m.pck := rfl
@[simp] theorem Module.onCmd_wrp (m : Module) (f) : (m.onCmd f).wrp = m.wrp := rfl
@[simp] theorem Module.onCmd_est (m : Module) (f) : (m.onCmd f).est = m.est := rfl
@[simp] theorem Module.onCmd_lrn (m : Module) (f) : (m.onCmd f).lrn = m.lrn := rfl
@[simp] theorem Module.onCmd_wft (m : Module) (f) : (m.onCmd f).wft = m.wft := rfl
@[simp] theorem Module.onCmd_com (m : Module) (f) : (m.onCmd f).com = m.com := rfl
@[simp] theorem Module.onCmd_slv (m : Module) (f) : (m.onCmd f).slv = m.slv := rfl
@[simp] theorem Module.onCmd_tmp (m : Module) (f) : (m.onCmd f).tmp = m.tmp := rfl
@[simp] theorem Module.onCmd_drf (m : Module) (f) : (m.onCmd f).drf = m.drf := rfl
@[simp] theorem Module.onCmd_can (m : Module) (f) : (m.onCmd f).can = m.can := rfl
@[simp] theorem Module.onCmd_rng (m : Module) (f) : (m.onCmd f).rng = m.rng := rfl
@[simp] theorem Module.onCmd_clo (m : Module) (f) : (m.onCmd f).clo = m.clo := rfl
@[simp] theorem Module.onCmd_rep (m : Module) (f) : (m.onCmd f).rep = m.rep := rfl
@[simp] theorem Module.onCmd_blt (m : Module) (f) : (m.onCmd f).blt = m.blt := rfl
@[simp] theorem Module.onCmd_svc (m : Module) (f) : (m.onCmd f).svc = m.svc := rfl
@[simp] theorem Module.onCmd_upd (m : Module) (f) : (m.onCmd f).upd = m.upd := rfl
@[simp] theorem Module.onCmd_hk (m : Module) (f) : (m.onCmd f).hk = m.hk := rfl
@[simp] theorem Module.onCmd_cnt (m : Module) (f) : (m.onCmd f).cnt = m.cnt := rfl
@[simp] theorem Module.onCmd_out (m : Module) (f) : (m.onCmd f).out = m.out := rfl
@[simp] theorem Module.onCmd_free (m : Module) (f) : (m.onCmd f).free = m.free := rfl
@[simp] theorem Module.onSet_set (m : Module) (f) : (m.onSet f).set = f m.set := rfl
@[simp] theorem Module.onSet_sys (m : Module) (f) : (m.onSet f).sys = m.sys := rfl
@[simp] theorem Module.onSet_cmd (m : Module) (f) : (m.onSet f).cmd = m.cmd := rfl
@[simp] theorem Module.onSet_bulk (m : Module) (f) : (m.onSet f).bulk = m.bulk := rfl
@[simp] theorem Module.onSet_evt (m : Module) (f) : (m.onSet f).evt = m.evt := rfl
@[simp] theorem Module.onSet_ang (m : Module) (f) : (m.onSet f).ang = m.ang := rfl
@[simp] theorem Module.onSet_pck (m : Module) (f) : (m.onSet f).pck = m.pck := rfl
@[simp] theorem Module.onSet_wrp (m : Module) (f) : (m.onSet f).wrp = m.wrp := rfl
@[simp] theorem Module.onSet_est (m : Module) (f) : (m.onSet f).est = m.est := rfl
@[simp] theorem Module.onSet_lrn (m : Module) (f) : (m.onSet f).lrn = m.lrn := rfl
@[simp] theorem Module.onSet_wft (m : Module) (f) : (m.onSet f).wft = m.wft := rfl
@[simp] theorem Module.onSet_com (m : Module) (f) : (m.onSet f).com = m.com := rfl
@[simp] theorem Module.onSet_slv (m : Module) (f) : (m.onSet f).slv = m.slv := rfl
@[simp] theorem Module.onSet_tmp (m : Module) (f) : (m.onSet f).tmp = m.tmp := rfl
@[simp] theorem Module.onSet_drf (m : Module) (f) : (m.onSet f).drf = m.drf := rfl
@[simp] theorem Module.onSet_can (m : Module) (f) : (m.onSet f).can = m.can := rfl
@[simp] theorem Module.onSet_rng (m : Module) (f) : (m.onSet f).rng = m.rng := rfl
@[simp] theorem Module.onSet_clo (m : Module) (f) : (m.onSet f).clo = m.clo := rfl
@[simp] theorem Module.onSet_rep (m : Module) (f) : (m.onSet f).rep = m.rep := rfl
@[simp] theorem Module.onSet_blt (m : Module) (f) : (m.onSet f).blt = m.blt := rfl
@[simp] theorem Module.onSet_svc (m : Module) (f) : (m.onSet f).svc = m.svc := rfl
@[simp] theorem Module.onSet_upd (m : Module) (f) : (m.onSet f).upd = m.upd := rfl
@[simp] theorem Module.onSet_hk (m : Module) (f) : (m.onSet f).hk = m.hk := rfl
@[simp] theorem Module.onSet_cnt (m : Module) (f) : (m.onSet f).cnt = m.cnt := rfl
@[simp] theorem Module.onSet_out (m : Module) (f) : (m.onSet f).out = m.out := rfl
@[simp] theorem Module.onSet_free (m : Module) (f) : (m.onSet f).free = m.free := rfl
@[simp] theorem Module.onBulk_bulk (m : Module) (f) : (m.onBulk f).bulk = f m.bulk := rfl
@[simp] theorem Module.onBulk_sys (m : Module) (f) : (m.onBulk f).sys = m.sys := rfl
@[simp] theorem Module.onBulk_cmd (m : Module) (f) : (m.onBulk f).cmd = m.cmd := rfl
@[simp] theorem Module.onBulk_set (m : Module) (f) : (m.onBulk f).set = m.set := rfl
@[simp] theorem Module.onBulk_evt (m : Module) (f) : (m.onBulk f).evt = m.evt := rfl
@[simp] theorem Module.onBulk_ang (m : Module) (f) : (m.onBulk f).ang = m.ang := rfl
@[simp] theorem Module.onBulk_pck (m : Module) (f) : (m.onBulk f).pck = m.pck := rfl
@[simp] theorem Module.onBulk_wrp (m : Module) (f) : (m.onBulk f).wrp = m.wrp := rfl
@[simp] theorem Module.onBulk_est (m : Module) (f) : (m.onBulk f).est = m.est := rfl
@[simp] theorem Module.onBulk_lrn (m : Module) (f) : (m.onBulk f).lrn = m.lrn := rfl
@[simp] theorem Module.onBulk_wft (m : Module) (f) : (m.onBulk f).wft = m.wft := rfl
@[simp] theorem Module.onBulk_com (m : Module) (f) : (m.onBulk f).com = m.com := rfl
@[simp] theorem Module.onBulk_slv (m : Module) (f) : (m.onBulk f).slv = m.slv := rfl
@[simp] theorem Module.onBulk_tmp (m : Module) (f) : (m.onBulk f).tmp = m.tmp := rfl
@[simp] theorem Module.onBulk_drf (m : Module) (f) : (m.onBulk f).drf = m.drf := rfl
@[simp] theorem Module.onBulk_can (m : Module) (f) : (m.onBulk f).can = m.can := rfl
@[simp] theorem Module.onBulk_rng (m : Module) (f) : (m.onBulk f).rng = m.rng := rfl
@[simp] theorem Module.onBulk_clo (m : Module) (f) : (m.onBulk f).clo = m.clo := rfl
@[simp] theorem Module.onBulk_rep (m : Module) (f) : (m.onBulk f).rep = m.rep := rfl
@[simp] theorem Module.onBulk_blt (m : Module) (f) : (m.onBulk f).blt = m.blt := rfl
@[simp] theorem Module.onBulk_svc (m : Module) (f) : (m.onBulk f).svc = m.svc := rfl
@[simp] theorem Module.onBulk_upd (m : Module) (f) : (m.onBulk f).upd = m.upd := rfl
@[simp] theorem Module.onBulk_hk (m : Module) (f) : (m.onBulk f).hk = m.hk := rfl
@[simp] theorem Module.onBulk_cnt (m : Module) (f) : (m.onBulk f).cnt = m.cnt := rfl
@[simp] theorem Module.onBulk_out (m : Module) (f) : (m.onBulk f).out = m.out := rfl
@[simp] theorem Module.onBulk_free (m : Module) (f) : (m.onBulk f).free = m.free := rfl
@[simp] theorem Module.onEvt_evt (m : Module) (f) : (m.onEvt f).evt = f m.evt := rfl
@[simp] theorem Module.onEvt_sys (m : Module) (f) : (m.onEvt f).sys = m.sys := rfl
@[simp] theorem Module.onEvt_cmd (m : Module) (f) : (m.onEvt f).cmd = m.cmd := rfl
@[simp] theorem Module.onEvt_set (m : Module) (f) : (m.onEvt f).set = m.set := rfl
@[simp] theorem Module.onEvt_bulk (m : Module) (f) : (m.onEvt f).bulk = m.bulk := rfl
@[simp] theorem Module.onEvt_ang (m : Module) (f) : (m.onEvt f).ang = m.ang := rfl
@[simp] theorem Module.onEvt_pck (m : Module) (f) : (m.onEvt f).pck = m.pck := rfl
@[simp] theorem Module.onEvt_wrp (m : Module) (f) : (m.onEvt f).wrp = m.wrp := rfl
@[simp] theorem Module.onEvt_est (m : Module) (f) : (m.onEvt f).est = m.est := rfl
@[simp] theorem Module.onEvt_lrn (m : Module) (f) : (m.onEvt f).lrn = m.lrn := rfl
@[simp] theorem Module.onEvt_wft (m : Module) (f) : (m.onEvt f).wft = m.wft := rfl
@[simp] theorem Module.onEvt_com (m : Module) (f) : (m.onEvt f).com = m.com := rfl
@[simp] theorem Module.onEvt_slv (m : Module) (f) : (m.onEvt f).slv = m.slv := rfl
@[simp] theorem Module.onEvt_tmp (m : Module) (f) : (m.onEvt f).tmp = m.tmp := rfl
@[simp] theorem Module.onEvt_drf (m : Module) (f) : (m.onEvt f).drf = m.drf := rfl
@[simp] theorem Module.onEvt_can (m : Module) (f) : (m.onEvt f).can = m.can := rfl
@[simp] theorem Module.onEvt_rng (m : Module) (f) : (m.onEvt f).rng = m.rng := rfl
@[simp] theorem Module.onEvt_clo (m : Module) (f) : (m.onEvt f).clo = m.clo := rfl
@[simp] theorem Module.onEvt_rep (m : Module) (f) : (m.onEvt f).rep = m.rep := rfl
@[simp] theorem Module.onEvt_blt (m : Module) (f) : (m.onEvt f).blt = m.blt := rfl
@[simp] theorem Module.onEvt_svc (m : Module) (f) : (m.onEvt f).svc = m.svc := rfl
@[simp] theorem Module.onEvt_upd (m : Module) (f) : (m.onEvt f).upd = m.upd := rfl
@[simp] theorem Module.onEvt_hk (m : Module) (f) : (m.onEvt f).hk = m.hk := rfl
@[simp] theorem Module.onEvt_cnt (m : Module) (f) : (m.onEvt f).cnt = m.cnt := rfl
@[simp] theorem Module.onEvt_out (m : Module) (f) : (m.onEvt f).out = m.out := rfl
@[simp] theorem Module.onEvt_free (m : Module) (f) : (m.onEvt f).free = m.free := rfl
@[simp] theorem Module.onAng_ang (m : Module) (f) : (m.onAng f).ang = f m.ang := rfl
@[simp] theorem Module.onAng_sys (m : Module) (f) : (m.onAng f).sys = m.sys := rfl
@[simp] theorem Module.onAng_cmd (m : Module) (f) : (m.onAng f).cmd = m.cmd := rfl
@[simp] theorem Module.onAng_set (m : Module) (f) : (m.onAng f).set = m.set := rfl
@[simp] theorem Module.onAng_bulk (m : Module) (f) : (m.onAng f).bulk = m.bulk := rfl
@[simp] theorem Module.onAng_evt (m : Module) (f) : (m.onAng f).evt = m.evt := rfl
@[simp] theorem Module.onAng_pck (m : Module) (f) : (m.onAng f).pck = m.pck := rfl
@[simp] theorem Module.onAng_wrp (m : Module) (f) : (m.onAng f).wrp = m.wrp := rfl
@[simp] theorem Module.onAng_est (m : Module) (f) : (m.onAng f).est = m.est := rfl
@[simp] theorem Module.onAng_lrn (m : Module) (f) : (m.onAng f).lrn = m.lrn := rfl
@[simp] theorem Module.onAng_wft (m : Module) (f) : (m.onAng f).wft = m.wft := rfl
@[simp] theorem Module.onAng_com (m : Module) (f) : (m.onAng f).com = m.com := rfl
@[simp] theorem Module.onAng_slv (m : Module) (f) : (m.onAng f).slv = m.slv := rfl
@[simp] theorem Module.onAng_tmp (m : Module) (f) : (m.onAng f).tmp = m.tmp := rfl
@[simp] theorem Module.onAng_drf (m : Module) (f) : (m.onAng f).drf = m.drf := rfl
@[simp] theorem Module.onAng_can (m : Module) (f) : (m.onAng f).can = m.can := rfl
@[simp] theorem Module.onAng_rng (m : Module) (f) : (m.onAng f).rng = m.rng := rfl
@[simp] theorem Module.onAng_clo (m : Module) (f) : (m.onAng f).clo = m.clo := rfl
@[simp] theorem Module.onAng_rep (m : Module) (f) : (m.onAng f).rep = m.rep := rfl
@[simp] theorem Module.onAng_blt (m : Module) (f) : (m.onAng f).blt = m.blt := rfl
@[simp] theorem Module.onAng_svc (m : Module) (f) : (m.onAng f).svc = m.svc := rfl
@[simp] theorem Module.onAng_upd (m : Module) (f) : (m.onAng f).upd = m.upd := rfl
@[simp] theorem Module.onAng_hk (m : Module) (f) : (m.onAng f).hk = m.hk := rfl
@[simp] theorem Module.onAng_cnt (m : Module) (f) : (m.onAng f).cnt = m.cnt := rfl
@[simp] theorem Module.onAng_out (m : Module) (f) : (m.onAng f).out = m.out := rfl
@[simp] theorem Module.onAng_free (m : Module) (f) : (m.onAng f).free = m.free := rfl
@[simp] theorem Module.onPck_pck (m : Module) (f) : (m.onPck f).pck = f m.pck := rfl
@[simp] theorem Module.onPck_sys (m : Module) (f) : (m.onPck f).sys = m.sys := rfl
@[simp] theorem Module.onPck_cmd (m : Module) (f) : (m.onPck f).cmd = m.cmd := rfl
@[simp] theorem Module.onPck_set (m : Module) (f) : (m.onPck f).set = m.set := rfl
@[simp] theorem Module.onPck_bulk (m : Module) (f) : (m.onPck f).bulk = m.bulk := rfl
@[simp] theorem Module.onPck_evt (m : Module) (f) : (m.onPck f).evt = m.evt := rfl
@[simp] theorem Module.onPck_ang (m : Module) (f) : (m.onPck f).ang = m.ang := rfl
@[simp] theorem Module.onPck_wrp (m : Module) (f) : (m.onPck f).wrp = m.wrp := rfl
@[simp] theorem Module.onPck_est (m : Module) (f) : (m.onPck f).est = m.est := rfl
@[simp] theorem Module.onPck_lrn (m : Module) (f) : (m.onPck f).lrn = m.lrn := rfl
@[simp] theorem Module.onPck_wft (m : Module) (f) : (m.onPck f).wft = m.wft := rfl
@[simp] theorem Module.onPck_com (m : Module) (f) : (m.onPck f).com = m.com := rfl
@[simp] theorem Module.onPck_slv (m : Module) (f) : (m.onPck f).slv = m.slv := rfl
@[simp] theorem Module.onPck_tmp (m : Module) (f) : (m.onPck f).tmp = m.tmp := rfl
@[simp] theorem Module.onPck_drf (m : Module) (f) : (m.onPck f).drf = m.drf := rfl
@[simp] theorem Module.onPck_can (m : Module) (f) : (m.onPck f).can = m.can := rfl
@[simp] theorem Module.onPck_rng (m : Module) (f) : (m.onPck f).rng = m.rng := rfl
@[simp] theorem Module.onPck_clo (m : Module) (f) : (m.onPck f).clo = m.clo := rfl
@[simp] theorem Module.onPck_rep (m : Module) (f) : (m.onPck f).rep = m.rep := rfl
@[simp] theorem Module.onPck_blt (m : Module) (f) : (m.onPck f).blt = m.blt := rfl
@[simp] theorem Module.onPck_svc (m : Module) (f) : (m.onPck f).svc = m.svc := rfl
@[simp] theorem Module.onPck_upd (m : Module) (f) : (m.onPck f).upd = m.upd := rfl
@[simp] theorem Module.onPck_hk (m : Module) (f) : (m.onPck f).hk = m.hk := rfl
@[simp] theorem Module.onPck_cnt (m : Module) (f) : (m.onPck f).cnt = m.cnt := rfl
@[simp] theorem Module.onPck_out (m : Module) (f) : (m.onPck f).out = m.out := rfl
@[simp] theorem Module.onPck_free (m : Module) (f) : (m.onPck f).free = m.free := rfl
@[simp] theorem Module.onWrp_wrp (m : Module) (f) : (m.onWrp f).wrp = f m.wrp := rfl
@[simp] theorem Module.onWrp_sys (m : Module) (f) : (m.onWrp f).sys = m.sys := rfl
@[simp] theorem Module.onWrp_cmd (m : Module) (f) : (m.onWrp f).cmd = m.cmd := rfl
@[simp] theorem Module.onWrp_set (m : Module) (f) : (m.onWrp f).set = m.set := rfl
@[simp] theorem Module.onWrp_bulk (m : Module) (f) : (m.onWrp f).bulk = m.bulk := rfl
@[simp] theorem Module.onWrp_evt (m : Module) (f) : (m.onWrp f).evt = m.evt := rfl
@[simp] theorem Module.onWrp_ang (m : Module) (f) : (m.onWrp f).ang = m.ang := rfl
@[simp] theorem Module.onWrp_pck (m : Module) (f) : (m.onWrp f).pck = m.pck := rfl
@[simp] theorem Module.onWrp_est (m : Module) (f) : (m.onWrp f).est = m.est := rfl
@[simp] theorem Module.onWrp_lrn (m : Module) (f) : (m.onWrp f).lrn = m.lrn := rfl
@[simp] theorem Module.onWrp_wft (m : Module) (f) : (m.onWrp f).wft = m.wft := rfl
@[simp] theorem Module.onWrp_com (m : Module) (f) : (m.onWrp f).com = m.com := rfl
@[simp] theorem Module.onWrp_slv (m : Module) (f) : (m.onWrp f).slv = m.slv := rfl
@[simp] theorem Module.onWrp_tmp (m : Module) (f) : (m.onWrp f).tmp = m.tmp := rfl
@[simp] theorem Module.onWrp_drf (m : Module) (f) : (m.onWrp f).drf = m.drf := rfl
@[simp] theorem Module.onWrp_can (m : Module) (f) : (m.onWrp f).can = m.can := rfl
@[simp] theorem Module.onWrp_rng (m : Module) (f) : (m.onWrp f).rng = m.rng := rfl
@[simp] theorem Module.onWrp_clo (m : Module) (f) : (m.onWrp f).clo = m.clo := rfl
@[simp] theorem Module.onWrp_rep (m : Module) (f) : (m.onWrp f).rep = m.rep := rfl
@[simp] theorem Module.onWrp_blt (m : Module) (f) : (m.onWrp f).blt = m.blt := rfl
@[simp] theorem Module.onWrp_svc (m : Module) (f) : (m.onWrp f).svc = m.svc := rfl
@[simp] theorem Module.onWrp_upd (m : Module) (f) : (m.onWrp f).upd = m.upd := rfl
@[simp] theorem Module.onWrp_hk (m : Module) (f) : (m.onWrp f).hk = m.hk := rfl
@[simp] theorem Module.onWrp_cnt (m : Module) (f) : (m.onWrp f).cnt = m.cnt := rfl
@[simp] theorem Module.onWrp_out (m : Module) (f) : (m.onWrp f).out = m.out := rfl
@[simp] theorem Module.onWrp_free (m : Module) (f) : (m.onWrp f).free = m.free := rfl
@[simp] theorem Module.onEst_est (m : Module) (f) : (m.onEst f).est = f m.est := rfl
@[simp] theorem Module.onEst_sys (m : Module) (f) : (m.onEst f).sys = m.sys := rfl
@[simp] theorem Module.onEst_cmd (m : Module) (f) : (m.onEst f).cmd = m.cmd := rfl
@[simp] theorem Module.onEst_set (m : Module) (f) : (m.onEst f).set = m.set := rfl
@[simp] theorem Module.onEst_bulk (m : Module) (f) : (m.onEst f).bulk = m.bulk := rfl
@[simp] theorem Module.onEst_evt (m : Module) (f) : (m.onEst f).evt = m.evt := rfl
@[simp] theorem Module.onEst_ang (m : Module) (f) : (m.onEst f).ang = m.ang := rfl
@[simp] theorem Module.onEst_pck (m : Module) (f) : (m.onEst f).pck = m.pck := rfl
@[simp] theorem Module.onEst_wrp (m : Module) (f) : (m.onEst f).wrp = m.wrp := rfl
@[simp] theorem Module.onEst_lrn (m : Module) (f) : (m.onEst f).lrn = m.lrn := rfl
@[simp] theorem Module.onEst_wft (m : Module) (f) : (m.onEst f).wft = m.wft := rfl
@[simp] theorem Module.onEst_com (m : Module) (f) : (m.onEst f).com = m.com := rfl
@[simp] theorem Module.onEst_slv (m : Module) (f) : (m.onEst f).slv = m.slv := rfl
@[simp] theorem Module.onEst_tmp (m : Module) (f) : (m.onEst f).tmp = m.tmp := rfl
@[simp] theorem Module.onEst_drf (m : Module) (f) : (m.onEst f).drf = m.drf := rfl
@[simp] theorem Module.onEst_can (m : Module) (f) : (m.onEst f).can = m.can := rfl
@[simp] theorem Module.onEst_rng (m : Module) (f) : (m.onEst f).rng = m.rng := rfl
@[simp] theorem Module.onEst_clo (m : Module) (f) : (m.onEst f).clo = m.clo := rfl
@[simp] theorem Module.onEst_rep (m : Module) (f) : (m.onEst f).rep = m.rep := rfl
@[simp] theorem Module.onEst_blt (m : Module) (f) : (m.onEst f).blt = m.blt := rfl
@[simp] theorem Module.onEst_svc (m : Module) (f) : (m.onEst f).svc = m.svc := rfl
@[simp] theorem Module.onEst_upd (m : Module) (f) : (m.onEst f).upd = m.upd := rfl
@[simp] theorem Module.onEst_hk (m : Module) (f) : (m.onEst f).hk = m.hk := rfl
@[simp] theorem Module.onEst_cnt (m : Module) (f) : (m.onEst f).cnt = m.cnt := rfl
@[simp] theorem Module.onEst_out (m : Module) (f) : (m.onEst f).out = m.out := rfl
@[simp] theorem Module.onEst_free (m : Module) (f) : (m.onEst f).free = m.free := rfl
@[simp] theorem Module.onLrn_lrn (m : Module) (f) : (m.onLrn f).lrn = f m.lrn := rfl
@[simp] theorem Module.onLrn_sys (m : Module) (f) : (m.onLrn f).sys = m.sys := rfl
@[simp] theorem Module.onLrn_cmd (m : Module) (f) : (m.onLrn f).cmd = m.cmd := rfl
@[simp] theorem Module.onLrn_set (m : Module) (f) : (m.onLrn f).set = m.set := rfl
@[simp] theorem Module.onLrn_bulk (m : Module) (f) : (m.onLrn f).bulk = m.bulk := rfl
@[simp] theorem Module.onLrn_evt (m : Module) (f) : (m.onLrn f).evt = m.evt := rfl
@[simp] theorem Module.onLrn_ang (m : Module) (f) : (m.onLrn f).ang = m.ang := rfl
@[simp] theorem Module.onLrn_pck (m : Module) (f) : (m.onLrn f).pck = m.pck := rfl
@[simp] theorem Module.onLrn_wrp (m : Module) (f) : (m.onLrn f).wrp = m.wrp := rfl
@[simp] theorem Module.onLrn_est (m : Module) (f) : (m.onLrn f).est = m.est := rfl
@[simp] theorem Module.onLrn_wft (m : Module) (f) : (m.onLrn f).wft = m.wft := rfl
@[simp] theorem Module.onLrn_com (m : Module) (f) : (m.onLrn f).com = m.com := rfl
@[simp] theorem Module.onLrn_slv (m : Module) (f) : (m.onLrn f).slv = m.slv := rfl
@[simp] theorem Module.onLrn_tmp (m : Module) (f) : (m.onLrn f).tmp = m.tmp := rfl
@[simp] theorem Module.onLrn_drf (m : Module) (f) : (m.onLrn f).drf = m.drf := rfl
@[simp] theorem Module.onLrn_can (m : Module) (f) : (m.onLrn f).can = m.can := rfl
@[simp] theorem Module.onLrn_rng (m : Module) (f) : (m.onLrn f).rng = m.rng := rfl
@[simp] theorem Module.onLrn_clo (m : Module) (f) : (m.onLrn f).clo = m.clo := rfl
@[simp] theorem Module.onLrn_rep (m : Module) (f) : (m.onLrn f).rep = m.rep := rfl
@[simp] theorem Module.onLrn_blt (m : Module) (f) : (m.onLrn f).blt = m.blt := rfl
@[simp] theorem Module.onLrn_svc (m : Module) (f) : (m.onLrn f).svc = m.svc := rfl
@[simp] theorem Module.onLrn_upd (m : Module) (f) : (m.onLrn f).upd = m.upd := rfl
@[simp] theorem Module.onLrn_hk (m : Module) (f) : (m.onLrn f).hk = m.hk := rfl
@[simp] theorem Module.onLrn_cnt (m : Module) (f) : (m.onLrn f).cnt = m.cnt := rfl
@[simp] theorem Module.onLrn_out (m : Module) (f) : (m.onLrn f).out = m.out := rfl
@[simp] theorem Module.onLrn_free (m : Module) (f) : (m.onLrn f).free = m.free := rfl
@[simp] theorem Module.onWft_wft (m : Module) (f) : (m.onWft f).wft = f m.wft := rfl
@[simp] theorem Module.onWft_sys (m : Module) (f) : (m.onWft f).sys = m.sys := rfl
@[simp] theorem Module.onWft_cmd (m : Module) (f) : (m.onWft f).cmd = m.cmd := rfl
@[simp] theorem Module.onWft_set (m : Module) (f) : (m.onWft f).set = m.set := rfl
@[simp] theorem Module.onWft_bulk (m : Module) (f) : (m.onWft f).bulk = m.bulk := rfl
@[simp] theorem Module.onWft_evt (m : Module) (f) : (m.onWft f).evt = m.evt := rfl
@[simp] theorem Module.onWft_ang (m : Module) (f) : (m.onWft f).ang = m.ang := rfl
@[simp] theorem Module.onWft_pck (m : Module) (f) : (m.onWft f).pck = m.pck := rfl
@[simp] theorem Module.onWft_wrp (m : Module) (f) : (m.onWft f).wrp = m.wrp := rfl
@[simp] theorem Module.onWft_est (m : Module) (f) : (m.onWft f).est = m.est := rfl
@[simp] theorem Module.onWft_lrn (m : Module) (f) : (m.onWft f).lrn = m.lrn := rfl
@[simp] theorem Module.onWft_com (m : Module) (f) : (m.onWft f).com = m.com := rfl
@[simp] theorem Module.onWft_slv (m : Module) (f) : (m.onWft f).slv = m.slv := rfl
@[simp] theorem Module.onWft_tmp (m : Module) (f) : (m.onWft f).tmp = m.tmp := rfl
@[simp] theorem Module.onWft_drf (m : Module) (f) : (m.onWft f).drf = m.drf := rfl
@[simp] theorem Module.onWft_can (m : Module) (f) : (m.onWft f).can = m.can := rfl
@[simp] theorem Module.onWft_rng (m : Module) (f) : (m.onWft f).rng = m.rng := rfl
@[simp] theorem Module.onWft_clo (m : Module) (f) : (m.onWft f).clo = m.clo := rfl
@[simp] theorem Module.onWft_rep (m : Module) (f) : (m.onWft f).rep = m.rep := rfl
@[simp] theorem Module.onWft_blt (m : Module) (f) : (m.onWft f).blt = m.blt := rfl
@[simp] theorem Module.onWft_svc (m : Module) (f) : (m.onWft f).svc = m.svc := rfl
@[simp] theorem Module.onWft_upd (m : Module) (f) : (m.onWft f).upd = m.upd := rfl
@[simp] theorem Module.onWft_hk (m : Module) (f) : (m.onWft f).hk = m.hk := rfl
@[simp] theorem Module.onWft_cnt (m : Module) (f) : (m.onWft f).cnt = m.cnt := rfl
@[simp] theorem Module.onWft_out (m : Module) (f) : (m.onWft f).out = m.out := rfl
@[simp] theorem Module.onWft_free (m : Module) (f) : (m.onWft f).free = m.free := rfl
@[simp] theorem Module.onCom_com (m : Module) (f) : (m.onCom f).com = f m.com := rfl
@[simp] theorem Module.onCom_sys (m : Module) (f) : (m.onCom f).sys = m.sys := rfl
@[simp] theorem Module.onCom_cmd (m : Module) (f) : (m.onCom f).cmd = m.cmd := rfl
@[simp] theorem Module.onCom_set (m : Module) (f) : (m.onCom f).set = m.set := rfl
@[simp] theorem Module.onCom_bulk (m : Module) (f) : (m.onCom f).bulk = m.bulk := rfl
@[simp] theorem Module.onCom_evt (m : Module) (f) : (m.onCom f).evt = m.evt := rfl
@[simp] theorem Module.onCom_ang (m : Module) (f) : (m.onCom f).ang = m.ang := rfl
@[simp] theorem Module.onCom_pck (m : Module) (f) : (m.onCom f).pck = m.pck := rfl
@[simp] theorem Module.onCom_wrp (m : Module) (f) : (m.onCom f).wrp = m.wrp := rfl
@[simp] theorem Module.onCom_est (m : Module) (f) : (m.onCom f).est = m.est := rfl
@[simp] theorem Module.onCom_lrn (m : Module) (f) : (m.onCom f).lrn = m.lrn := rfl
@[simp] theorem Module.onCom_wft (m : Module) (f) : (m.onCom f).wft = m.wft := rfl
@[simp] theorem Module.onCom_slv (m : Module) (f) : (m.onCom f).slv = m.slv := rfl
@[simp] theorem Module.onCom_tmp (m : Module) (f) : (m.onCom f).tmp = m.tmp := rfl
@[simp] theorem Module.onCom_drf (m : Module) (f) : (m.onCom f).drf = m.drf := rfl
@[simp] theorem Module.onCom_can (m : Module) (f) : (m.onCom f).can = m.can := rfl
@[simp] theorem Module.onCom_rng (m : Module) (f) : (m.onCom f).rng = m.rng := rfl
@[simp] theorem Module.onCom_clo (m : Module) (f) : (m.onCom f).clo = m.clo := rfl
@[simp] theorem Module.onCom_rep (m : Module) (f) : (m.onCom f).rep = m.rep := rfl
@[simp] theorem Module.onCom_blt (m : Module) (f) : (m.onCom f).blt = m.blt := rfl
@[simp] theorem Module.onCom_svc (m : Module) (f) : (m.onCom f).svc = m.svc := rfl
@[simp] theorem Module.onCom_upd (m : Module) (f) : (m.onCom f).upd = m.upd := rfl
@[simp] theorem Module.onCom_hk (m : Module) (f) : (m.onCom f).hk = m.hk := rfl
@[simp] theorem Module.onCom_cnt (m : Module) (f) : (m.onCom f).cnt = m.cnt := rfl
@[simp] theorem Module.onCom_out (m : Module) (f) : (m.onCom f).out = m.out := rfl
@[simp] theorem Module.onCom_free (m : Module) (f) : (m.onCom f).free = m.free := rfl
@[simp] theorem Module.onSlv_slv (m : Module) (f) : (m.onSlv f).slv = f m.slv := rfl
@[simp] theorem Module.onSlv_sys (m : Module) (f) : (m.onSlv f).sys = m.sys := rfl
@[simp] theorem Module.onSlv_cmd (m : Module) (f) : (m.onSlv f).cmd = m.cmd := rfl
@[simp] theorem Module.onSlv_set (m : Module) (f) : (m.onSlv f).set = m.set := rfl
@[simp] theorem Module.onSlv_bulk (m : Module) (f) : (m.onSlv f).bulk = m.bulk := rfl
@[simp] theorem Module.onSlv_evt (m : Module) (f) : (m.onSlv f).evt = m.evt := rfl
@[simp] theorem Module.onSlv_ang (m : Module) (f) : (m.onSlv f).ang = m.ang := rfl
@[simp] theorem Module.onSlv_pck (m : Module) (f) : (m.onSlv f).pck = m.pck := rfl
@[simp] theorem Module.onSlv_wrp (m : Module) (f) : (m.onSlv f).wrp = m.wrp := rfl
@[simp] theorem Module.onSlv_est (m : Module) (f) : (m.onSlv f).est = m.est := rfl
@[simp] theorem Module.onSlv_lrn (m : Module) (f) : (m.onSlv f).lrn = m.lrn := rfl
@[simp] theorem Module.onSlv_wft (m : Module) (f) : (m.onSlv f).wft = m.wft := rfl
@[simp] theorem Module.onSlv_com (m : Module) (f) : (m.onSlv f).com = m.com := rfl
@[simp] theorem Module.onSlv_tmp (m : Module) (f) : (m.onSlv f).tmp = m.tmp := rfl
@[simp] theorem Module.onSlv_drf (m : Module) (f) : (m.onSlv f).drf = m.drf := rfl
@[simp] theorem Module.onSlv_can (m : Module) (f) : (m.onSlv f).can = m.can := rfl
@[simp] theorem Module.onSlv_rng (m : Module) (f) : (m.onSlv f).rng = m.rng := rfl
@[simp] theorem Module.onSlv_clo (m : Module) (f) : (m.onSlv f).clo = m.clo := rfl
@[simp] theorem Module.onSlv_rep (m : Module) (f) : (m.onSlv f).rep = m.rep := rfl
@[simp] theorem Module.onSlv_blt (m : Module) (f) : (m.onSlv f).blt = m.blt := rfl
@[simp] theorem Module.onSlv_svc (m : Module) (f) : (m.onSlv f).svc = m.svc := rfl
@[simp] theorem Module.onSlv_upd (m : Module) (f) : (m.onSlv f).upd = m.upd := rfl
@[simp] theorem Module.onSlv_hk (m : Module) (f) : (m.onSlv f).hk = m.hk := rfl
@[simp] theorem Module.onSlv_cnt (m : Module) (f) : (m.onSlv f).cnt = m.cnt := rfl
@[simp] theorem Module.onSlv_out (m : Module) (f) : (m.onSlv f).out = m.out := rfl
@[simp] theorem Module.onSlv_free (m : Module) (f) : (m.onSlv f).free = m.free := rfl
@[simp] theorem Module.onTmp_tmp (m : Module) (f) : (m.onTmp f).tmp = f m.tmp := rfl
@[simp] theorem Module.onTmp_sys (m : Module) (f) : (m.onTmp f).sys = m.sys := rfl
@[simp] theorem Module.onTmp_cmd (m : Module) (f) : (m.onTmp f).cmd = m.cmd := rfl
@[simp] theorem Module.onTmp_set (m : Module) (f) : (m.onTmp f).set = m.set := rfl
@[simp] theorem Module.onTmp_bulk (m : Module) (f) : (m.onTmp f).bulk = m.bulk := rfl
@[simp] theorem Module.onTmp_evt (m : Module) (f) : (m.onTmp f).evt = m.evt := rfl
@[simp] theorem Module.onTmp_ang (m : Module) (f) : (m.onTmp f).ang = m.ang := rfl
@[simp] theorem Module.onTmp_pck (m : Module) (f) : (m.onTmp f).pck = m.pck := rfl
@[simp] theorem Module.onTmp_wrp (m : Module) (f) : (m.onTmp f).wrp = m.wrp := rfl
@[simp] theorem Module.onTmp_est (m : Module) (f) : (m.onTmp f).est = m.est := rfl
@[simp] theorem Module.onTmp_lrn (m : Module) (f) : (m.onTmp f).lrn = m.lrn := rfl
@[simp] theorem Module.onTmp_wft (m : Module) (f) : (m.onTmp f).wft = m.wft := rfl
@[simp] theorem Module.onTmp_com (m : Module) (f) : (m.onTmp f).com = m.com := rfl
@[simp] theorem Module.onTmp_slv (m : Module) (f) : (m.onTmp f).slv = m.slv := rfl
@[simp] theorem Module.onTmp_drf (m : Module) (f) : (m.onTmp f).drf = m.drf := rfl
@[simp] theorem Module.onTmp_can (m : Module) (f) : (m.onTmp f).can = m.can := rfl
@[simp] theorem Module.onTmp_rng (m : Module) (f) : (m.onTmp f).rng = m.rng := rfl
@[simp] theorem Module.onTmp_clo (m : Module) (f) : (m.onTmp f).clo = m.clo := rfl
@[simp] theorem Module.onTmp_rep (m : Module) (f) : (m.onTmp f).rep = m.rep := rfl
@[simp] theorem Module.onTmp_blt (m : Module) (f) : (m.onTmp f).blt = m.blt := rfl
@[simp] theorem Module.onTmp_svc (m : Module) (f) : (m.onTmp f).svc = m.svc := rfl
@[simp] theorem Module.onTmp_upd (m : Module) (f) : (m.onTmp f).upd = m.upd := rfl
@[simp] theorem Module.onTmp_hk (m : Module) (f) : (m.onTmp f).hk = m.hk := rfl
@[simp] theorem Module.onTmp_cnt (m : Module) (f) : (m.onTmp f).cnt = m.cnt := rfl
@[simp] theorem Module.onTmp_out (m : Module) (f) : (m.onTmp f).out = m.out := rfl
@[simp] theorem Module.onTmp_free (m : Module) (f) : (m.onTmp f).free = m.free := rfl
@[simp] theorem Module.onDrf_drf (m : Module) (f) : (m.onDrf f).drf = f m.drf := rfl
@[simp] theorem Module.onDrf_sys (m : Module) (f) : (m.onDrf f).sys = m.sys := rfl
@[simp] theorem Module.onDrf_cmd (m : Module) (f) : (m.onDrf f).cmd = m.cmd := rfl
@[simp] theorem Module.onDrf_set (m : Module) (f) : (m.onDrf f).set = m.set := rfl
@[simp] theorem Module.onDrf_bulk (m : Module) (f) : (m.onDrf f).bulk = m.bulk := rfl
@[simp] theorem Module.onDrf_evt (m : Module) (f) : (m.onDrf f).evt = m.evt := rfl
@[simp] theorem Module.onDrf_ang (m : Module) (f) : (m.onDrf f).ang = m.ang := rfl
@[simp] theorem Module.onDrf_pck (m : Module) (f) : (m.onDrf f).pck = m.pck := rfl
@[simp] theorem Module.onDrf_wrp (m : Module) (f) : (m.onDrf f).wrp = m.wrp := rfl
@[simp] theorem Module.onDrf_est (m : Module) (f) : (m.onDrf f).est = m.est := rfl
@[simp] theorem Module.onDrf_lrn (m : Module) (f) : (m.onDrf f).lrn = m.lrn := rfl
@[simp] theorem Module.onDrf_wft (m : Module) (f) : (m.onDrf f).wft = m.wft := rfl
@[simp] theorem Module.onDrf_com (m : Module) (f) : (m.onDrf f).com = m.com := rfl
@[simp] theorem Module.onDrf_slv (m : Module) (f) : (m.onDrf f).slv = m.slv := rfl
@[simp] theorem Module.onDrf_tmp (m : Module) (f) : (m.onDrf f).tmp = m.tmp := rfl
@[simp] theorem Module.onDrf_can (m : Module) (f) : (m.onDrf f).can = m.can := rfl
@[simp] theorem Module.onDrf_rng (m : Module) (f) : (m.onDrf f).rng = m.rng := rfl
@[simp] theorem Module.onDrf_clo (m : Module) (f) : (m.onDrf f).clo = m.clo := rfl
@[simp] theorem Module.onDrf_rep (m : Module) (f) : (m.onDrf f).rep = m.rep := rfl
@[simp] theorem Module.onDrf_blt (m : Module) (f) : (m.onDrf f).blt = m.blt := rfl
@[simp] theorem Module.onDrf_svc (m : Module) (f) : (m.onDrf f).svc = m.svc := rfl
@[simp] theorem Module.onDrf_upd (m : Module) (f) : (m.onDrf f).upd = m.upd := rfl
@[simp] theorem Module.onDrf_hk (m : Module) (f) : (m.onDrf f).hk = m.hk := rfl
@[simp] theorem Module.onDrf_cnt (m : Module) (f) : (m.onDrf f).cnt = m.cnt := rfl
@[simp] theorem Module.onDrf_out (m : Module) (f) : (m.onDrf f).out = m.out := rfl
@[simp] theorem Module.onDrf_free (m : Module) (f) : (m.onDrf f).free = m.free := rfl
@[simp] theorem Module.onCan_can (m : Module) (f) : (m.onCan f).can = f m.can := rfl
@[simp] theorem Module.onCan_sys (m : Module) (f) : (m.onCan f).sys = m.sys := rfl
@[simp] theorem Module.onCan_cmd (m : Module) (f) : (m.onCan f).cmd = m.cmd := rfl
@[simp] theorem Module.onCan_set (m : Module) (f) : (m.onCan f).set = m.set := rfl
@[simp] theorem Module.onCan_bulk (m : Module) (f) : (m.onCan f).bulk = m.bulk := rfl
@[simp] theorem Module.onCan_evt (m : Module) (f) : (m.onCan f).evt = m.evt := rfl
@[simp] theorem Module.onCan_ang (m : Module) (f) : (m.onCan f).ang = m.ang := rfl
@[simp] theorem Module.onCan_pck (m : Module) (f) : (m.onCan f).pck = m.pck := rfl
@[simp] theorem Module.onCan_wrp (m : Module) (f) : (m.onCan f).wrp = m.wrp := rfl
@[simp] theorem Module.onCan_est (m : Module) (f) : (m.onCan f).est = m.est := rfl
@[simp] theorem Module.onCan_lrn (m : Module) (f) : (m.onCan f).lrn = m.lrn := rfl
@[simp] theorem Module.onCan_wft (m : Module) (f) : (m.onCan f).wft = m.wft := rfl
@[simp] theorem Module.onCan_com (m : Module) (f) : (m.onCan f).com = m.com := rfl
@[simp] theorem Module.onCan_slv (m : Module) (f) : (m.onCan f).slv = m.slv := rfl
@[simp] theorem Module.onCan_tmp (m : Module) (f) : (m.onCan f).tmp = m.tmp := rfl
@[simp] theorem Module.onCan_drf (m : Module) (f) : (m.onCan f).drf = m.drf := rfl
@[simp] theorem Module.onCan_rng (m : Module) (f) : (m.onCan f).rng = m.rng := rfl
@[simp] theorem Module.onCan_clo (m : Module) (f) : (m.onCan f).clo = m.clo := rfl
@[simp] theorem Module.onCan_rep (m : Module) (f) : (m.onCan f).rep = m.rep := rfl
@[simp] theorem Module.onCan_blt (m : Module) (f) : (m.onCan f).blt = m.blt := rfl
@[simp] theorem Module.onCan_svc (m : Module) (f) : (m.onCan f).svc = m.svc := rfl
@[simp] theorem Module.onCan_upd (m : Module) (f) : (m.onCan f).upd = m.upd := rfl
@[simp] theorem Module.onCan_hk (m : Module) (f) : (m.onCan f).hk = m.hk := rfl
@[simp] theorem Module.onCan_cnt (m : Module) (f) : (m.onCan f).cnt = m.cnt := rfl
@[simp] theorem Module.onCan_out (m : Module) (f) : (m.onCan f).out = m.out := rfl
@[simp] theorem Module.onCan_free (m : Module) (f) : (m.onCan f).free = m.free := rfl
@[simp] theorem Module.onRng_rng (m : Module) (f) : (m.onRng f).rng = f m.rng := rfl
@[simp] theorem Module.onRng_sys (m : Module) (f) : (m.onRng f).sys = m.sys := rfl
@[simp] theorem Module.onRng_cmd (m : Module) (f) : (m.onRng f).cmd = m.cmd := rfl
@[simp] theorem Module.onRng_set (m : Module) (f) : (m.onRng f).set = m.set := rfl
@[simp] theorem Module.onRng_bulk (m : Module) (f) : (m.onRng f).bulk = m.bulk := rfl
@[simp] theorem Module.onRng_evt (m : Module) (f) : (m.onRng f).evt = m.evt := rfl
@[simp] theorem Module.onRng_ang (m : Module) (f) : (m.onRng f).ang = m.ang := rfl
@[simp] theorem Module.onRng_pck (m : Module) (f) : (m.onRng f).pck = m.pck := rfl
@[simp] theorem Module.onRng_wrp (m : Module) (f) : (m.onRng f).wrp = m.wrp := rfl
@[simp] theorem Module.onRng_est (m : Module) (f) : (m.onRng f).est = m.est := rfl
@[simp] theorem Module.onRng_lrn (m : Module) (f) : (m.onRng f).lrn = m.lrn := rfl
@[simp] theorem Module.onRng_wft (m : Module) (f) : (m.onRng f).wft = m.wft := rfl
@[simp] theorem Module.onRng_com (m : Module) (f) : (m.onRng f).com = m.com := rfl
@[simp] theorem Module.onRng_slv (m : Module) (f) : (m.onRng f).slv = m.slv := rfl
@[simp] theorem Module.onRng_tmp (m : Module) (f) : (m.onRng f).tmp = m.tmp := rfl
@[simp] theorem Module.onRng_drf (m : Module) (f) : (m.onRng f).drf = m.drf := rfl
@[simp] theorem Module.onRng_can (m : Module) (f) : (m.onRng f).can = m.can := rfl
@[simp] theorem Module.onRng_clo (m : Module) (f) : (m.onRng f).clo = m.clo := rfl
@[simp] theorem Module.onRng_rep (m : Module) (f) : (m.onRng f).rep = m.rep := rfl
@[simp] theorem Module.onRng_blt (m : Module) (f) : (m.onRng f).blt = m.blt := rfl
@[simp] theorem Module.onRng_svc (m : Module) (f) : (m.onRng f).svc = m.svc := rfl
@[simp] theorem Module.onRng_upd (m : Module) (f) : (m.onRng f).upd = m.upd := rfl
@[simp] theorem Module.onRng_hk (m : Module) (f) : (m.onRng f).hk = m.hk := rfl
@[simp] theorem Module.onRng_cnt (m : Module) (f) : (m.onRng f).cnt = m.cnt := rfl
@[simp] theorem Module.onRng_out (m : Module) (f) : (m.onRng f).out = m.out := rfl
@[simp] theorem Module.onRng_free (m : Module) (f) : (m.onRng f).free = m.free := rfl
@[simp] theorem Module.onClo_clo (m : Module) (f) : (m.onClo f).clo = f m.clo := rfl
@[simp] theorem Module.onClo_sys (m : Module) (f) : (m.onClo f).sys = m.sys := rfl
@[simp] theorem Module.onClo_cmd (m : Module) (f) : (m.onClo f).cmd = m.cmd := rfl
@[simp] theorem Module.onClo_set (m : Module) (f) : (m.onClo f).set = m.set := rfl
@[simp] theorem Module.onClo_bulk (m : Module) (f) : (m.onClo f).bulk = m.bulk := rfl
@[simp] theorem Module.onClo_evt (m : Module) (f) : (m.onClo f).evt = m.evt := rfl
@[simp] theorem Module.onClo_ang (m : Module) (f) : (m.onClo f).ang = m.ang := rfl
@[simp] theorem Module.onClo_pck (m : Module) (f) : (m.onClo f).pck = m.pck := rfl
@[simp] theorem Module.onClo_wrp (m : Module) (f) : (m.onClo f).wrp = m.wrp := rfl
@[simp] theorem Module.onClo_est (m : Module) (f) : (m.onClo f).est = m.est := rfl
@[simp] theorem Module.onClo_lrn (m : Module) (f) : (m.onClo f).lrn = m.lrn := rfl
@[simp] theorem Module.onClo_wft (m : Module) (f) : (m.onClo f).wft = m.wft := rfl
@[simp] theorem Module.onClo_com (m : Module) (f) : (m.onClo f).com = m.com := rfl
@[simp] theorem Module.onClo_slv (m : Module) (f) : (m.onClo f).slv = m.slv := rfl
@[simp] theorem Module.onClo_tmp (m : Module) (f) : (m.onClo f).tmp = m.tmp := rfl
@[simp] theorem Module.onClo_drf (m : Module) (f) : (m.onClo f).drf = m.drf := rfl
@[simp] theorem Module.onClo_can (m : Module) (f) : (m.onClo f).can = m.can := rfl
@[simp] theorem Module.onClo_rng (m : Module) (f) : (m.onClo f).rng = m.rng := rfl
@[simp] theorem Module.onClo_rep (m : Module) (f) : (m.onClo f).rep = m.rep := rfl
@[simp] theorem Module.onClo_blt (m : Module) (f) : (m.onClo f).blt = m.blt := rfl
@[simp] theorem Module.onClo_svc (m : Module) (f) : (m.onClo f).svc = m.svc := rfl
@[simp] theorem Module.onClo_upd (m : Module) (f) : (m.onClo f).upd = m.upd := rfl
@[simp] theorem Module.onClo_hk (m : Module) (f) : (m.onClo f).hk = m.hk := rfl
@[simp] theorem Module.onClo_cnt (m : Module) (f) : (m.onClo f).cnt = m.cnt := rfl
@[simp] theorem Module.onClo_out (m : Module) (f) : (m.onClo f).out = m.out := rfl
@[simp] theorem Module.onClo_free (m : Module) (f) : (m.onClo f).free = m.free := rfl
@[simp] theorem Module.onRep_rep (m : Module) (f) : (m.onRep f).rep = f m.rep := rfl
@[simp] theorem Module.onRep_sys (m : Module) (f) : (m.onRep f).sys = m.sys := rfl
@[simp] theorem Module.onRep_cmd (m : Module) (f) : (m.onRep f).cmd = m.cmd := rfl
@[simp] theorem Module.onRep_set (m : Module) (f) : (m.onRep f).set = m.set := rfl
@[simp] theorem Module.onRep_bulk (m : Module) (f) : (m.onRep f).bulk = m.bulk := rfl
@[simp] theorem Module.onRep_evt (m : Module) (f) : (m.onRep f).evt = m.evt := rfl
@[simp] theorem Module.onRep_ang (m : Module) (f) : (m.onRep f).ang = m.ang := rfl
@[simp] theorem Module.onRep_pck (m : Module) (f) : (m.onRep f).pck = m.pck := rfl
@[simp] theorem Module.onRep_wrp (m : Module) (f) : (m.onRep f).wrp = m.wrp := rfl
@[simp] theorem Module.onRep_est (m : Module) (f) : (m.onRep f).est = m.est := rfl
@[simp] theorem Module.onRep_lrn (m : Module) (f) : (m.onRep f).lrn = m.lrn := rfl
@[simp] theorem Module.onRep_wft (m : Module) (f) : (m.onRep f).wft = m.wft := rfl
@[simp] theorem Module.onRep_com (m : Module) (f) : (m.onRep f).com = m.com := rfl
@[simp] theorem Module.onRep_slv (m : Module) (f) : (m.onRep f).slv = m.slv := rfl
@[simp] theorem Module.onRep_tmp (m : Module) (f) : (m.onRep f).tmp = m.tmp := rfl
@[simp] theorem Module.onRep_drf (m : Module) (f) : (m.onRep f).drf = m.drf := rfl
@[simp] theorem Module.onRep_can (m : Module) (f) : (m.onRep f).can = m.can := rfl
@[simp] theorem Module.onRep_rng (m : Module) (f) : (m.onRep f).rng = m.rng := rfl
@[simp] theorem Module.onRep_clo (m : Module) (f) : (m.onRep f).clo = m.clo := rfl
@[simp] theorem Module.onRep_blt (m : Module) (f) : (m.onRep f).blt = m.blt := rfl
@[simp] theorem Module.onRep_svc (m : Module) (f) : (m.onRep f).svc = m.svc := rfl
@[simp] theorem Module.onRep_upd (m : Module) (f) : (m.onRep f).upd = m.upd := rfl
@[simp] theorem Module.onRep_hk (m : Module) (f) : (m.onRep f).hk = m.hk := rfl
@[simp] theorem Module.onRep_cnt (m : Module) (f) : (m.onRep f).cnt = m.cnt := rfl
@[simp] theorem Module.onRep_out (m : Module) (f) : (m.onRep f).out = m.out := rfl
@[simp] theorem Module.onRep_free (m : Module) (f) : (m.onRep f).free = m.free := rfl
@[simp] theorem Module.onBlt_blt (m : Module) (f) : (m.onBlt f).blt = f m.blt := rfl
@[simp] theorem Module.onBlt_sys (m : Module) (f) : (m.onBlt f).sys = m.sys := rfl
@[simp] theorem Module.onBlt_cmd (m : Module) (f) : (m.onBlt f).cmd = m.cmd := rfl
@[simp] theorem Module.onBlt_set (m : Module) (f) : (m.onBlt f).set = m.set := rfl
@[simp] theorem Module.onBlt_bulk (m : Module) (f) : (m.onBlt f).bulk = m.bulk := rfl
@[simp] theorem Module.onBlt_evt (m : Module) (f) : (m.onBlt f).evt = m.evt := rfl
@[simp] theorem Module.onBlt_ang (m : Module) (f) : (m.onBlt f).ang = m.ang := rfl
@[simp] theorem Module.onBlt_pck (m : Module) (f) : (m.onBlt f).pck = m.pck := rfl
@[simp] theorem Module.onBlt_wrp (m : Module) (f) : (m.onBlt f).wrp = m.wrp := rfl
@[simp] theorem Module.onBlt_est (m : Module) (f) : (m.onBlt f).est = m.est := rfl
@[simp] theorem Module.onBlt_lrn (m : Module) (f) : (m.onBlt f).lrn = m.lrn := rfl
@[simp] theorem Module.onBlt_wft (m : Module) (f) : (m.onBlt f).wft = m.wft := rfl
@[simp] theorem Module.onBlt_com (m : Module) (f) : (m.onBlt f).com = m.com := rfl
@[simp] theorem Module.onBlt_slv (m : Module) (f) : (m.onBlt f).slv = m.slv := rfl
@[simp] theorem Module.onBlt_tmp (m : Module) (f) : (m.onBlt f).tmp = m.tmp := rfl
@[simp] theorem Module.onBlt_drf (m : Module) (f) : (m.onBlt f).drf = m.drf := rfl
@[simp] theorem Module.onBlt_can (m : Module) (f) : (m.onBlt f).can = m.can := rfl
@[simp] theorem Module.onBlt_rng (m : Module) (f) : (m.onBlt f).rng = m.rng := rfl
@[simp] theorem Module.onBlt_clo (m : Module) (f) : (m.onBlt f).clo = m.clo := rfl
@[simp] theorem Module.onBlt_rep (m : Module) (f) : (m.onBlt f).rep = m.rep := rfl
@[simp] theorem Module.onBlt_svc (m : Module) (f) : (m.onBlt f).svc = m.svc := rfl
@[simp] theorem Module.onBlt_upd (m : Module) (f) : (m.onBlt f).upd = m.upd := rfl
@[simp] theorem Module.onBlt_hk (m : Module) (f) : (m.onBlt f).hk = m.hk := rfl
@[simp] theorem Module.onBlt_cnt (m : Module) (f) : (m.onBlt f).cnt = m.cnt := rfl
@[simp] theorem Module.onBlt_out (m : Module) (f) : (m.onBlt f).out = m.out := rfl
@[simp] theorem Module.onBlt_free (m : Module) (f) : (m.onBlt f).free = m.free := rfl
@[simp] theorem Module.onSvc_svc (m : Module) (f) : (m.onSvc f).svc = f m.svc := rfl
@[simp] theorem Module.onSvc_sys (m : Module) (f) : (m.onSvc f).sys = m.sys := rfl
@[simp] theorem Module.onSvc_cmd (m : Module) (f) : (m.onSvc f).cmd = m.cmd := rfl
@[simp] theorem Module.onSvc_set (m : Module) (f) : (m.onSvc f).set = m.set := rfl
@[simp] theorem Module.onSvc_bulk (m : Module) (f) : (m.onSvc f).bulk = m.bulk := rfl
@[simp] theorem Module.onSvc_evt (m : Module) (f) : (m.onSvc f).evt = m.evt := rfl
@[simp] theorem Module.onSvc_ang (m : Module) (f) : (m.onSvc f).ang = m.ang := rfl
@[simp] theorem Module.onSvc_pck (m : Module) (f) : (m.onSvc f).pck = m.pck := rfl
@[simp] theorem Module.onSvc_wrp (m : Module) (f) : (m.onSvc f).wrp = m.wrp := rfl
@[simp] theorem Module.onSvc_est (m : Module) (f) : (m.onSvc f).est = m.est := rfl
@[simp] theorem Module.onSvc_lrn (m : Module) (f) : (m.onSvc f).lrn = m.lrn := rfl
@[simp] theorem Module.onSvc_wft (m : Module) (f) : (m.onSvc f).wft = m.wft := rfl
@[simp] theorem Module.onSvc_com (m : Module) (f) : (m.onSvc f).com = m.com := rfl
@[simp] theorem Module.onSvc_slv (m : Module) (f) : (m.onSvc f).slv = m.slv := rfl
@[simp] theorem Module.onSvc_tmp (m : Module) (f) : (m.onSvc f).tmp = m.tmp := rfl
@[simp] theorem Module.onSvc_drf (m : Module) (f) : (m.onSvc f).drf = m.drf := rfl
@[simp] theorem Module.onSvc_can (m : Module) (f) : (m.onSvc f).can = m.can := rfl
@[simp] theorem Module.onSvc_rng (m : Module) (f) : (m.onSvc f).rng = m.rng := rfl
@[simp] theorem Module.onSvc_clo (m : Module) (f) : (m.onSvc f).clo = m.clo := rfl
@[simp] theorem Module.onSvc_rep (m : Module) (f) : (m.onSvc f).rep = m.rep := rfl
@[simp] theorem Module.onSvc_blt (m : Module) (f) : (m.onSvc f).blt = m.blt := rfl
@[simp] theorem Module.onSvc_upd (m : Module) (f) : (m.onSvc f).upd = m.upd := rfl
@[simp] theorem Module.onSvc_hk (m : Module) (f) : (m.onSvc f).hk = m.hk := rfl
@[simp] theorem Module.onSvc_cnt (m : Module) (f) : (m.onSvc f).cnt = m.cnt := rfl
@[simp] theorem Module.onSvc_out (m : Module) (f) : (m.onSvc f).out = m.out := rfl
@[simp] theorem Module.onSvc_free (m : Module) (f) : (m.onSvc f).free = m.free := rfl
@[simp] theorem Module.onUpd_upd (m : Module) (f) : (m.onUpd f).upd = f m.upd := rfl
@[simp] theorem Module.onUpd_sys (m : Module) (f) : (m.onUpd f).sys = m.sys := rfl
@[simp] theorem Module.onUpd_cmd (m : Module) (f) : (m.onUpd f).cmd = m.cmd := rfl
@[simp] theorem Module.onUpd_set (m : Module) (f) : (m.onUpd f).set = m.set := rfl
@[simp] theorem Module.onUpd_bulk (m : Module) (f) : (m.onUpd f).bulk = m.bulk := rfl
@[simp] theorem Module.onUpd_evt (m : Module) (f) : (m.onUpd f).evt = m.evt := rfl
@[simp] theorem Module.onUpd_ang (m : Module) (f) : (m.onUpd f).ang = m.ang := rfl
@[simp] theorem Module.onUpd_pck (m : Module) (f) : (m.onUpd f).pck = m.pck := rfl
@[simp] theorem Module.onUpd_wrp (m : Module) (f) : (m.onUpd f).wrp = m.wrp := rfl
@[simp] theorem Module.onUpd_est (m : Module) (f) : (m.onUpd f).est = m.est := rfl
@[simp] theorem Module.onUpd_lrn (m : Module) (f) : (m.onUpd f).lrn = m.lrn := rfl
@[simp] theorem Module.onUpd_wft (m : Module) (f) : (m.onUpd f).wft = m.wft := rfl
@[simp] theorem Module.onUpd_com (m : Module) (f) : (m.onUpd f).com = m.com := rfl
@[simp] theorem Module.onUpd_slv (m : Module) (f) : (m.onUpd f).slv = m.slv := rfl
@[simp] theorem Module.onUpd_tmp (m : Module) (f) : (m.onUpd f).tmp = m.tmp := rfl
@[simp] theorem Module.onUpd_drf (m : Module) (f) : (m.onUpd f).drf = m.drf := rfl
@[simp] theorem Module.onUpd_can (m : Module) (f) : (m.onUpd f).can = m.can := rfl
@[simp] theorem Module.onUpd_rng (m : Module) (f) : (m.onUpd f).rng = m.rng := rfl
@[simp] theorem Module.onUpd_clo (m : Module) (f) : (m.onUpd f).clo = m.clo := rfl
@[simp] theorem Module.onUpd_rep (m : Module) (f) : (m.onUpd f).rep = m.rep := rfl
@[simp] theorem Module.onUpd_blt (m : Module) (f) : (m.onUpd f).blt = m.blt := rfl
@[simp] theorem Module.onUpd_svc (m : Module) (f) : (m.onUpd f).svc = m.svc := rfl
@[simp] theorem Module.onUpd_hk (m : Module) (f) : (m.onUpd f).hk = m.hk := rfl
@[simp] theorem Module.onUpd_cnt (m : Module) (f) : (m.onUpd f).cnt = m.cnt := rfl
@[simp] theorem Module.onUpd_out (m : Module) (f) : (m.onUpd f).out = m.out := rfl
@[simp] theorem Module.onUpd_free (m : Module) (f) : (m.onUpd f).free = m.free := rfl
@[simp] theorem Module.onHk_hk (m : Module) (f) : (m.onHk f).hk = f m.hk := rfl
@[simp] theorem Module.onHk_sys (m : Module) (f) : (m.onHk f).sys = m.sys := rfl
@[simp] theorem Module.onHk_cmd (m : Module) (f) : (m.onHk f).cmd = m.cmd := rfl
@[simp] theorem Module.onHk_set (m : Module) (f) : (m.onHk f).set = m.set := rfl
@[simp] theorem Module.onHk_bulk (m : Module) (f) : (m.onHk f).bulk = m.bulk := rfl
@[simp] theorem Module.onHk_evt (m : Module) (f) : (m.onHk f).evt = m.evt := rfl
@[simp] theorem Module.onHk_ang (m : Module) (f) : (m.onHk f).ang = m.ang := rfl
@[simp] theorem Module.onHk_pck (m : Module) (f) : (m.onHk f).pck = m.pck := rfl
@[simp] theorem Module.onHk_wrp (m : Module) (f) : (m.onHk f).wrp = m.wrp := rfl
@[simp] theorem Module.onHk_est (m : Module) (f) : (m.onHk f).est = m.est := rfl
@[simp] theorem Module.onHk_lrn (m : Module) (f) : (m.onHk f).lrn = m.lrn := rfl
@[simp] theorem Module.onHk_wft (m : Module) (f) : (m.onHk f).wft = m.wft := rfl
@[simp] theorem Module.onHk_com (m : Module) (f) : (m.onHk f).com = m.com := rfl
@[simp] theorem Module.onHk_slv (m : Module) (f) : (m.onHk f).slv = m.slv := rfl
@[simp] theorem Module.onHk_tmp (m : Module) (f) : (m.onHk f).tmp = m.tmp := rfl
@[simp] theorem Module.onHk_drf (m : Module) (f) : (m.onHk f).drf = m.drf := rfl
@[simp] theorem Module.onHk_can (m : Module) (f) : (m.onHk f).can = m.can := rfl
@[simp] theorem Module.onHk_rng (m : Module) (f) : (m.onHk f).rng = m.rng := rfl
@[simp] theorem Module.onHk_clo (m : Module) (f) : (m.onHk f).clo = m.clo := rfl
@[simp] theorem Module.onHk_rep (m : Module) (f) : (m.onHk f).rep = m.rep := rfl
@[simp] theorem Module.onHk_blt (m : Module) (f) : (m.onHk f).blt = m.blt := rfl
@[simp] theorem Module.onHk_svc (m : Module) (f) : (m.onHk f).svc = m.svc := rfl
@[simp] theorem Module.onHk_upd (m : Module) (f) : (m.onHk f).upd = m.upd := rfl
@[simp] theorem Module.onHk_cnt (m : Module) (f) : (m.onHk f).cnt = m.cnt := rfl
@[simp] theorem Module.onHk_out (m : Module) (f) : (m.onHk f).out = m.out := rfl
@[simp] theorem Module.onHk_free (m : Module) (f) : (m.onHk f).free = m.free := rfl
@[simp] theorem Module.onCnt_cnt (m : Module) (f) : (m.onCnt f).cnt = f m.cnt := rfl
@[simp] theorem Module.onCnt_sys (m : Module) (f) : (m.onCnt f).sys = m.sys := rfl
@[simp] theorem Module.onCnt_cmd (m : Module) (f) : (m.onCnt f).cmd = m.cmd := rfl
@[simp] theorem Module.onCnt_set (m : Module) (f) : (m.onCnt f).set = m.set := rfl
@[simp] theorem Module.onCnt_bulk (m : Module) (f) : (m.onCnt f).bulk = m.bulk := rfl
@[simp] theorem Module.onCnt_evt (m : Module) (f) : (m.onCnt f).evt = m.evt := rfl
@[simp] theorem Module.onCnt_ang (m : Module) (f) : (m.onCnt f).ang = m.ang := rfl
@[simp] theorem Module.onCnt_pck (m : Module) (f) : (m.onCnt f).pck = m.pck := rfl
@[simp] theorem Module.onCnt_wrp (m : Module) (f) : (m.onCnt f).wrp = m.wrp := rfl
@[simp] theorem Module.onCnt_est (m : Module) (f) : (m.onCnt f).est = m.est := rfl
@[simp] theorem Module.onCnt_lrn (m : Module) (f) : (m.onCnt f).lrn = m.lrn := rfl
@[simp] theorem Module.onCnt_wft (m : Module) (f) : (m.onCnt f).wft = m.wft := rfl
@[simp] theorem Module.onCnt_com (m : Module) (f) : (m.onCnt f).com = m.com := rfl
@[simp] theorem Module.onCnt_slv (m : Module) (f) : (m.onCnt f).slv = m.slv := rfl
@[simp] theorem Module.onCnt_tmp (m : Module) (f) : (m.onCnt f).tmp = m.tmp := rfl
@[simp] theorem Module.onCnt_drf (m : Module) (f) : (m.onCnt f).drf = m.drf := rfl
@[simp] theorem Module.onCnt_can (m : Module) (f) : (m.onCnt f).can = m.can := rfl
@[simp] theorem Module.onCnt_rng (m : Module) (f) : (m.onCnt f).rng = m.rng := rfl
@[simp] theorem Module.onCnt_clo (m : Module) (f) : (m.onCnt f).clo = m.clo := rfl
@[simp] theorem Module.onCnt_rep (m : Module) (f) : (m.onCnt f).rep = m.rep := rfl
@[simp] theorem Module.onCnt_blt (m : Module) (f) : (m.onCnt f).blt = m.blt := rfl
@[simp] theorem Module.onCnt_svc (m : Module) (f) : (m.onCnt f).svc = m.svc := rfl
@[simp] theorem Module.onCnt_upd (m : Module) (f) : (m.onCnt f).upd = m.upd := rfl
@[simp] theorem Module.onCnt_hk (m : Module) (f) : (m.onCnt f).hk = m.hk := rfl
@[simp] theorem Module.onCnt_out (m : Module) (f) : (m.onCnt f).out = m.out := rfl
@[simp] theorem Module.onCnt_free (m : Module) (f) : (m.onCnt f).free = m.free := rfl
@[simp] theorem Module.onOut_out (m : Module) (f) : (m.onOut f).out = f m.out := rfl
@[simp] theorem Module.onOut_sys (m : Module) (f) : (m.onOut f).sys = m.sys := rfl
@[simp] theorem Module.onOut_cmd (m : Module) (f) : (m.onOut f).cmd = m.cmd := rfl
@[simp] theorem Module.onOut_set (m : Module) (f) : (m.onOut f).set = m.set := rfl
@[simp] theorem Module.onOut_bulk (m : Module) (f) : (m.onOut f).bulk = m.bulk := rfl
@[simp] theorem Module.onOut_evt (m : Module) (f) : (m.onOut f).evt = m.evt := rfl
@[simp] theorem Module.onOut_ang (m : Module) (f) : (m.onOut f).ang = m.ang := rfl
@[simp] theorem Module.onOut_pck (m : Module) (f) : (m.onOut f).pck = m.pck := rfl
@[simp] theorem Module.onOut_wrp (m : Module) (f) : (m.onOut f).wrp = m.wrp := rfl
@[simp] theorem Module.onOut_est (m : Module) (f) : (m.onOut f).est = m.est := rfl
@[simp] theorem Module.onOut_lrn (m : Module) (f) : (m.onOut f).lrn = m.lrn := rfl
@[simp] theorem Module.onOut_wft (m : Module) (f) : (m.onOut f).wft = m.wft := rfl
@[simp] theorem Module.onOut_com (m : Module) (f) : (m.onOut f).com = m.com := rfl
@[simp] theorem Module.onOut_slv (m : Module) (f) : (m.onOut f).slv = m.slv := rfl
@[simp] theorem Module.onOut_tmp (m : Module) (f) : (m.onOut f).tmp = m.tmp := rfl
@[simp] theorem Module.onOut_drf (m : Module) (f) : (m.onOut f).drf = m.drf := rfl
@[simp] theorem Module.onOut_can (m : Module) (f) : (m.onOut f).can = m.can := rfl
@[simp] theorem Module.onOut_rng (m : Module) (f) : (m.onOut f).rng = m.rng := rfl
@[simp] theorem Module.onOut_clo (m : Module) (f) : (m.onOut f).clo = m.clo := rfl
@[simp] theorem Module.onOut_rep (m : Module) (f) : (m.onOut f).rep = m.rep := rfl
@[simp] theorem Module.onOut_blt (m : Module) (f) : (m.onOut f).blt = m.blt := rfl
@[simp] theorem Module.onOut_svc (m : Module) (f) : (m.onOut f).svc = m.svc := rfl
@[simp] theorem Module.onOut_upd (m : Module) (f) : (m.onOut f).upd = m.upd := rfl
@[simp] theorem Module.onOut_hk (m : Module) (f) : (m.onOut f).hk = m.hk := rfl
@[simp] theorem Module.onOut_cnt (m : Module) (f) : (m.onOut f).cnt = m.cnt := rfl
@[simp] theorem Module.onOut_free (m : Module) (f) : (m.onOut f).free = m.free := rfl
@[simp] theorem Module.onFree_free (m : Module) (f) : (m.onFree f).free = f m.free := rfl
@[simp] theorem Module.onFree_sys (m : Module) (f) : (m.onFree f).sys = m.sys := rfl
@[simp] theorem Module.onFree_cmd (m : Module) (f) : (m.onFree f).cmd = m.cmd := rfl
@[simp] theorem Module.onFree_set (m : Module) (f) : (m.onFree f).set = m.set := rfl
@[simp] theorem Module.onFree_bulk (m : Module) (f) : (m.onFree f).bulk = m.bulk := rfl
@[simp] theorem Module.onFree_evt (m : Module) (f) : (m.onFree f).evt = m.evt := rfl
@[simp] theorem Module.onFree_ang (m : Module) (f) : (m.onFree f).ang = m.ang := rfl
@[simp] theorem Module.onFree_pck (m : Module) (f) : (m.onFree f).pck = m.pck := rfl
@[simp] theorem Module.onFree_wrp (m : Module) (f) : (m.onFree f).wrp = m.wrp := rfl
@[simp] theorem Module.onFree_est (m : Module) (f) : (m.onFree f).est = m.est := rfl
@[simp] theorem Module.onFree_lrn (m : Module) (f) : (m.onFree f).lrn = m.lrn := rfl
@[simp] theorem Module.onFree_wft (m : Module) (f) : (m.onFree f).wft = m.wft := rfl
@[simp] theorem Module.onFree_com (m : Module) (f) : (m.onFree f).com = m.com := rfl
@[simp] theorem Module.onFree_slv (m : Module) (f) : (m.onFree f).slv = m.slv := rfl
@[simp] theorem Module.onFree_tmp (m : Module) (f) : (m.onFree f).tmp = m.tmp := rfl
@[simp] theorem Module.onFree_drf (m : Module) (f) : (m.onFree f).drf = m.drf := rfl
@[simp] theorem Module.onFree_can (m : Module) (f) : (m.onFree f).can = m.can := rfl
@[simp] theorem Module.onFree_rng (m : Module) (f) : (m.onFree f).rng = m.rng := rfl
@[simp] theorem Module.onFree_clo (m : Module) (f) : (m.onFree f).clo = m.clo := rfl
@[simp] theorem Module.onFree_rep (m : Module) (f) : (m.onFree f).rep = m.rep := rfl
@[simp] theorem Module.onFree_blt (m : Module) (f) : (m.onFree f).blt = m.blt := rfl
@[simp] theorem Module.onFree_svc (m : Module) (f) : (m.onFree f).svc = m.svc := rfl
@[simp] theorem Module.onFree_upd (m : Module) (f) : (m.onFree f).upd = m.upd := rfl
@[simp] theorem Module.onFree_hk (m : Module) (f) : (m.onFree f).hk = m.hk := rfl
@[simp] theorem Module.onFree_cnt (m : Module) (f) : (m.onFree f).cnt = m.cnt := rfl
@[simp] theorem Module.onFree_out (m : Module) (f) : (m.onFree f).out = m.out := rfl
@[simp] theorem State.go_eq (s : State) (f) : s.go f = .next { s with m := f s.m } := rfl

end Sys2Proof.Machine
end

