-- ==== Sys2Proof/Laws/Tab.lean ====
section
/-! SUPPORT. Laws/Tab.lean: what a sparse table does (Machine/Tab.lean): a read after a write, and the canonical form that
every write keeps. -/
namespace Sys2Proof.Machine

variable {α : Type}

theorem tabGet_erase_same (d : α) (t : Tab α) (i : Nat) : tabGet d (tabErase t i) i = d := by
  induction t with
  | nil => rfl
  | cons p t ih =>
    obtain ⟨k, v⟩ := p
    by_cases h : k = i
    · simpa [tabErase, h] using ih
    · simpa [tabErase, tabGet, h] using ih

theorem tabGet_erase_other (d : α) (t : Tab α) {i j : Nat} (h : j ≠ i) : tabGet d (tabErase t i) j = tabGet d t j := by
  induction t with
  | nil => rfl
  | cons p t ih =>
    obtain ⟨k, v⟩ := p
    by_cases hk : k = i
    · have hj : i ≠ j := fun e => h e.symm
      simpa [tabErase, tabGet, hk, hj] using ih
    · by_cases hj : k = j
      · simp [tabErase, tabGet, hj, h]
      · simpa [tabErase, tabGet, hk, hj] using ih

theorem tabGet_insert_same (d : α) (i : Nat) (v : α) (t : Tab α) (h : ∀ p ∈ t, p.1 ≠ i) :
    tabGet d (tabInsert i v t) i = v := by
  induction t with
  | nil => simp [tabInsert, tabGet]
  | cons p t ih =>
    obtain ⟨k, w⟩ := p
    have hk : k ≠ i := h (k, w) (by simp)
    by_cases hlt : i < k
    · simp [tabInsert, hlt, tabGet]
    · simpa [tabInsert, hlt, tabGet, hk] using ih fun q hq => h q (by simp [hq])

theorem tabGet_insert_other (d : α) {i j : Nat} (v : α) (t : Tab α) (h : j ≠ i) :
    tabGet d (tabInsert i v t) j = tabGet d t j := by
  induction t with
  | nil => simp [tabInsert, tabGet, Ne.symm h]
  | cons p t ih =>
    obtain ⟨k, w⟩ := p
    by_cases hlt : i < k
    · simp [tabInsert, hlt, tabGet, Ne.symm h]
    · simp only [tabInsert, hlt, if_false, tabGet, ih]

theorem tabErase_ne (t : Tab α) (i : Nat) : ∀ p ∈ tabErase t i, p.1 ≠ i := by
  intro p hp
  simpa [tabErase] using (List.mem_filter.mp hp).2

section Writes
variable [DecidableEq α]

/-- A read of the index written gives the value written. -/
@[simp] theorem tabGet_put_same (d : α) (t : Tab α) (i : Nat) (v : α) : tabGet d (tabPut d t i v) i = v := by
  unfold tabPut
  split
  · rename_i h
    rw [tabGet_erase_same, h]
  · exact tabGet_insert_same d i v _ (tabErase_ne t i)

/-- A write leaves every other index alone. -/
theorem tabGet_put_other (d : α) (t : Tab α) {i j : Nat} (v : α) (h : j ≠ i) :
    tabGet d (tabPut d t i v) j = tabGet d t j := by
  unfold tabPut
  split
  · exact tabGet_erase_other d t h
  · rw [tabGet_insert_other d v _ h, tabGet_erase_other d t h]

@[simp] theorem tabGet_upd_same (d : α) (t : Tab α) (i : Nat) (f : α → α) :
    tabGet d (tabUpd d t i f) i = f (tabGet d t i) := by simp [tabUpd]

theorem tabGet_upd_other (d : α) (t : Tab α) {i j : Nat} (f : α → α) (h : j ≠ i) :
    tabGet d (tabUpd d t i f) j = tabGet d t j := tabGet_put_other d t _ h

end Writes

/-! ### The canonical form -/

theorem tabSorted_cons {k : Nat} {v : α} {t : Tab α} :
    tabSorted ((k, v) :: t) = true ↔ (∀ p ∈ t, k < p.1) ∧ tabSorted t = true := by
  induction t generalizing k v with
  | nil => simp [tabSorted]
  | cons p t ih =>
    obtain ⟨l, w⟩ := p
    simp only [tabSorted, Bool.and_eq_true, decide_eq_true_eq, List.mem_cons, forall_eq_or_imp]
    constructor
    · rintro ⟨h, hs⟩
      exact ⟨⟨h, fun q hq => Nat.lt_trans h ((ih.mp hs).1 q hq)⟩, hs⟩
    · rintro ⟨⟨h, -⟩, hs⟩
      exact ⟨h, hs⟩

theorem tabSorted_erase {t : Tab α} (i : Nat) (h : tabSorted t = true) : tabSorted (tabErase t i) = true := by
  induction t with
  | nil => rfl
  | cons p t ih =>
    obtain ⟨k, v⟩ := p
    rw [tabSorted_cons] at h
    by_cases hk : k = i
    · simpa [tabErase, hk] using ih h.2
    · have e : tabErase ((k, v) :: t) i = (k, v) :: tabErase t i := by simp [tabErase, hk]
      rw [e, tabSorted_cons]
      exact ⟨fun q hq => h.1 q ((List.mem_filter.mp hq).1), ih h.2⟩

theorem mem_tabInsert {i : Nat} {v : α} {t : Tab α} {p : Nat × α} : p ∈ tabInsert i v t ↔ p = (i, v) ∨ p ∈ t := by
  induction t with
  | nil => simp [tabInsert]
  | cons q t ih =>
    obtain ⟨k, w⟩ := q
    by_cases h : i < k
    · simp [tabInsert, h]
    · simp only [tabInsert, h, if_false, List.mem_cons, ih]
      exact or_left_comm

theorem tabSorted_insert {i : Nat} (v : α) {t : Tab α} (h : tabSorted t = true) (hn : ∀ p ∈ t, p.1 ≠ i) :
    tabSorted (tabInsert i v t) = true := by
  induction t with
  | nil => rfl
  | cons q t ih =>
    obtain ⟨k, w⟩ := q
    rw [tabSorted_cons] at h
    by_cases hlt : i < k
    · have e : tabInsert i v ((k, w) :: t) = (i, v) :: (k, w) :: t := by simp [tabInsert, hlt]
      rw [e, tabSorted_cons]
      refine ⟨fun p hp => ?_, tabSorted_cons.mpr h⟩
      rcases List.mem_cons.mp hp with rfl | hp
      · exact hlt
      · exact Nat.lt_trans hlt (h.1 p hp)
    · have hk : k < i := Nat.lt_of_le_of_ne (Nat.le_of_not_lt hlt) (hn (k, w) (by simp))
      have e : tabInsert i v ((k, w) :: t) = (k, w) :: tabInsert i v t := by simp [tabInsert, hlt]
      rw [e, tabSorted_cons]
      refine ⟨fun p hp => ?_, ih h.2 fun p hp => hn p (by simp [hp])⟩
      rcases mem_tabInsert.mp hp with rfl | hp
      · exact hk
      · exact h.1 p hp

section Canonical
variable [DecidableEq α]

/-- A write keeps the canonical form. -/
theorem tabWf_put {d : α} {t : Tab α} (i : Nat) (v : α) (h : tabWf d t = true) : tabWf d (tabPut d t i v) = true := by
  simp only [tabWf, Bool.and_eq_true, List.all_eq_true, decide_eq_true_eq] at h ⊢
  obtain ⟨hs, hd⟩ := h
  have he : ∀ p ∈ tabErase t i, p.2 ≠ d := fun p hp => hd p ((List.mem_filter.mp hp).1)
  unfold tabPut
  split
  · exact ⟨tabSorted_erase i hs, he⟩
  · rename_i hv
    refine ⟨tabSorted_insert v (tabSorted_erase i hs) (tabErase_ne t i), fun p hp => ?_⟩
    rcases mem_tabInsert.mp hp with rfl | hp
    · exact hv
    · exact he p hp

theorem tabWf_upd {d : α} {t : Tab α} (i : Nat) (f : α → α) (h : tabWf d t = true) :
    tabWf d (tabUpd d t i f) = true := tabWf_put i _ h

/-- Two tables in canonical form that read alike are equal. -/
theorem tab_ext {d : α} {t u : Tab α} (ht : tabWf d t = true) (hu : tabWf d u = true)
    (h : ∀ i, tabGet d t i = tabGet d u i) : t = u := by
  have below : ∀ {t : Tab α} {i : Nat}, (∀ p ∈ t, i < p.1) → tabGet d t i = d := by
    intro t i hi
    induction t with
    | nil => rfl
    | cons p t ih =>
      obtain ⟨k, v⟩ := p
      have : k ≠ i := Nat.ne_of_gt (hi (k, v) (by simp))
      simpa [tabGet, this] using ih fun q hq => hi q (by simp [hq])
  induction t generalizing u with
  | nil =>
    cases u with
    | nil => rfl
    | cons q u =>
      obtain ⟨k, v⟩ := q
      have hv : v ≠ d := by
        simp only [tabWf, Bool.and_eq_true, List.all_eq_true, decide_eq_true_eq] at hu
        exact hu.2 (k, v) (by simp)
      exact absurd (by simpa [tabGet] using (h k).symm) hv
  | cons p t ih =>
    obtain ⟨k, v⟩ := p
    simp only [tabWf, Bool.and_eq_true, List.all_eq_true, decide_eq_true_eq, tabSorted_cons, List.mem_cons,
      forall_eq_or_imp] at ht
    cases u with
    | nil => exact absurd (by simpa [tabGet] using h k) ht.2.1
    | cons q u =>
      obtain ⟨l, w⟩ := q
      simp only [tabWf, Bool.and_eq_true, List.all_eq_true, decide_eq_true_eq, tabSorted_cons, List.mem_cons,
        forall_eq_or_imp] at hu
      have hkl : k = l := by
        rcases Nat.lt_trichotomy k l with hlt | rfl | hlt
        · have e := h k
          rw [below (t := (l, w) :: u)] at e
          · exact absurd (by simpa [tabGet] using e) ht.2.1
          · intro p hp
            rcases List.mem_cons.mp hp with rfl | hp
            · exact hlt
            · exact Nat.lt_trans hlt (hu.1.1 p hp)
        · rfl
        · have e := h l
          rw [below (t := (k, v) :: t)] at e
          · exact absurd (by simpa [tabGet] using e.symm) hu.2.1
          · intro p hp
            rcases List.mem_cons.mp hp with rfl | hp
            · exact hlt
            · exact Nat.lt_trans hlt (ht.1.1 p hp)
      subst hkl
      have hv : v = w := by simpa [tabGet] using h k
      subst hv
      congr 1
      apply ih
      · simp only [tabWf, Bool.and_eq_true, List.all_eq_true, decide_eq_true_eq]
        exact ⟨ht.1.2, ht.2.2⟩
      · simp only [tabWf, Bool.and_eq_true, List.all_eq_true, decide_eq_true_eq]
        exact ⟨hu.1.2, hu.2.2⟩
      · intro i
        by_cases hi : k = i
        · subst hi
          rw [below ht.1.1, below hu.1.1]
        · simpa [tabGet, hi] using h i

end Canonical

end Sys2Proof.Machine
end

