-- ==== Sys2Proof/Laws/Ops.lean ====
section
/-! SUPPORT. Laws/Ops.lean: what each shared operation of Machine/Ops.lean changes and what it leaves alone: counters,
events, bolt counters, what leaves the module. -/
namespace Sys2Proof.Machine

/-! ### Frames in general -/

theorem OnlyIn.refl (bs : List Block) (m : Module) : OnlyIn bs m m := by
  intro b _
  cases b <;> rfl

theorem Module.Same.trans {b : Block} {m₁ m₂ m₃ : Module} (h : m₁.Same m₂ b) (k : m₂.Same m₃ b) : m₁.Same m₃ b := by
  cases b <;> exact Eq.trans k h

/-- A frame holds of two changes in a row. -/
theorem OnlyIn.trans {bs : List Block} {m₁ m₂ m₃ : Module} (h : OnlyIn bs m₁ m₂) (k : OnlyIn bs m₂ m₃) :
    OnlyIn bs m₁ m₃ := fun b hb => (h b hb).trans (k b hb)

/-- A frame may name more parts. -/
theorem OnlyIn.mono {as bs : List Block} {m m' : Module} (h : OnlyIn as m m') (s : ∀ b ∈ as, b ∈ bs) :
    OnlyIn bs m m' := fun b hb => h b fun k => hb (s b k)

theorem OnlyIn.onSys {bs : List Block} {m m' : Module} (f) (h : OnlyIn bs m m') (k : Block.sys ∈ bs) : OnlyIn bs m (m'.onSys f) :=
  h.trans fun b hb => by cases b <;> first | rfl | exact absurd k hb
theorem OnlyIn.onCmd {bs : List Block} {m m' : Module} (f) (h : OnlyIn bs m m') (k : Block.cmd ∈ bs) : OnlyIn bs m (m'.onCmd f) :=
  h.trans fun b hb => by cases b <;> first | rfl | exact absurd k hb
theorem OnlyIn.onSet {bs : List Block} {m m' : Module} (f) (h : OnlyIn bs m m') (k : Block.set ∈ bs) : OnlyIn bs m (m'.onSet f) :=
  h.trans fun b hb => by cases b <;> first | rfl | exact absurd k hb
theorem OnlyIn.onBulk {bs : List Block} {m m' : Module} (f) (h : OnlyIn bs m m') (k : Block.bulk ∈ bs) : OnlyIn bs m (m'.onBulk f) :=
  h.trans fun b hb => by cases b <;> first | rfl | exact absurd k hb
theorem OnlyIn.onEvt {bs : List Block} {m m' : Module} (f) (h : OnlyIn bs m m') (k : Block.evt ∈ bs) : OnlyIn bs m (m'.onEvt f) :=
  h.trans fun b hb => by cases b <;> first | rfl | exact absurd k hb
theorem OnlyIn.onAng {bs : List Block} {m m' : Module} (f) (h : OnlyIn bs m m') (k : Block.ang ∈ bs) : OnlyIn bs m (m'.onAng f) :=
  h.trans fun b hb => by cases b <;> first | rfl | exact absurd k hb
theorem OnlyIn.onPck {bs : List Block} {m m' : Module} (f) (h : OnlyIn bs m m') (k : Block.pck ∈ bs) : OnlyIn bs m (m'.onPck f) :=
  h.trans fun b hb => by cases b <;> first | rfl | exact absurd k hb
theorem OnlyIn.onWrp {bs : List Block} {m m' : Module} (f) (h : OnlyIn bs m m') (k : Block.wrp ∈ bs) : OnlyIn bs m (m'.onWrp f) :=
  h.trans fun b hb => by cases b <;> first | rfl | exact absurd k hb
theorem OnlyIn.onEst {bs : List Block} {m m' : Module} (f) (h : OnlyIn bs m m') (k : Block.est ∈ bs) : OnlyIn bs m (m'.onEst f) :=
  h.trans fun b hb => by cases b <;> first | rfl | exact absurd k hb
theorem OnlyIn.onLrn {bs : List Block} {m m' : Module} (f) (h : OnlyIn bs m m') (k : Block.lrn ∈ bs) : OnlyIn bs m (m'.onLrn f) :=
  h.trans fun b hb => by cases b <;> first | rfl | exact absurd k hb
theorem OnlyIn.onWft {bs : List Block} {m m' : Module} (f) (h : OnlyIn bs m m') (k : Block.wft ∈ bs) : OnlyIn bs m (m'.onWft f) :=
  h.trans fun b hb => by cases b <;> first | rfl | exact absurd k hb
theorem OnlyIn.onCom {bs : List Block} {m m' : Module} (f) (h : OnlyIn bs m m') (k : Block.com ∈ bs) : OnlyIn bs m (m'.onCom f) :=
  h.trans fun b hb => by cases b <;> first | rfl | exact absurd k hb
theorem OnlyIn.onSlv {bs : List Block} {m m' : Module} (f) (h : OnlyIn bs m m') (k : Block.slv ∈ bs) : OnlyIn bs m (m'.onSlv f) :=
  h.trans fun b hb => by cases b <;> first | rfl | exact absurd k hb
theorem OnlyIn.onTmp {bs : List Block} {m m' : Module} (f) (h : OnlyIn bs m m') (k : Block.tmp ∈ bs) : OnlyIn bs m (m'.onTmp f) :=
  h.trans fun b hb => by cases b <;> first | rfl | exact absurd k hb
theorem OnlyIn.onDrf {bs : List Block} {m m' : Module} (f) (h : OnlyIn bs m m') (k : Block.drf ∈ bs) : OnlyIn bs m (m'.onDrf f) :=
  h.trans fun b hb => by cases b <;> first | rfl | exact absurd k hb
theorem OnlyIn.onCan {bs : List Block} {m m' : Module} (f) (h : OnlyIn bs m m') (k : Block.can ∈ bs) : OnlyIn bs m (m'.onCan f) :=
  h.trans fun b hb => by cases b <;> first | rfl | exact absurd k hb
theorem OnlyIn.onRng {bs : List Block} {m m' : Module} (f) (h : OnlyIn bs m m') (k : Block.rng ∈ bs) : OnlyIn bs m (m'.onRng f) :=
  h.trans fun b hb => by cases b <;> first | rfl | exact absurd k hb
theorem OnlyIn.onClo {bs : List Block} {m m' : Module} (f) (h : OnlyIn bs m m') (k : Block.clo ∈ bs) : OnlyIn bs m (m'.onClo f) :=
  h.trans fun b hb => by cases b <;> first | rfl | exact absurd k hb
theorem OnlyIn.onRep {bs : List Block} {m m' : Module} (f) (h : OnlyIn bs m m') (k : Block.rep ∈ bs) : OnlyIn bs m (m'.onRep f) :=
  h.trans fun b hb => by cases b <;> first | rfl | exact absurd k hb
theorem OnlyIn.onBlt {bs : List Block} {m m' : Module} (f) (h : OnlyIn bs m m') (k : Block.blt ∈ bs) : OnlyIn bs m (m'.onBlt f) :=
  h.trans fun b hb => by cases b <;> first | rfl | exact absurd k hb
theorem OnlyIn.onSvc {bs : List Block} {m m' : Module} (f) (h : OnlyIn bs m m') (k : Block.svc ∈ bs) : OnlyIn bs m (m'.onSvc f) :=
  h.trans fun b hb => by cases b <;> first | rfl | exact absurd k hb
theorem OnlyIn.onUpd {bs : List Block} {m m' : Module} (f) (h : OnlyIn bs m m') (k : Block.upd ∈ bs) : OnlyIn bs m (m'.onUpd f) :=
  h.trans fun b hb => by cases b <;> first | rfl | exact absurd k hb
theorem OnlyIn.onHk {bs : List Block} {m m' : Module} (f) (h : OnlyIn bs m m') (k : Block.hk ∈ bs) : OnlyIn bs m (m'.onHk f) :=
  h.trans fun b hb => by cases b <;> first | rfl | exact absurd k hb
theorem OnlyIn.onCnt {bs : List Block} {m m' : Module} (f) (h : OnlyIn bs m m') (k : Block.cnt ∈ bs) : OnlyIn bs m (m'.onCnt f) :=
  h.trans fun b hb => by cases b <;> first | rfl | exact absurd k hb
theorem OnlyIn.onOut {bs : List Block} {m m' : Module} (f) (h : OnlyIn bs m m') (k : Block.out ∈ bs) : OnlyIn bs m (m'.onOut f) :=
  h.trans fun b hb => by cases b <;> first | rfl | exact absurd k hb
theorem OnlyIn.onFree {bs : List Block} {m m' : Module} (f) (h : OnlyIn bs m m') (k : Block.free ∈ bs) : OnlyIn bs m (m'.onFree f) :=
  h.trans fun b hb => by cases b <;> first | rfl | exact absurd k hb

/-! ### Counters -/

@[simp] theorem Module.bumpBy_sys (m : Module) (off n) : (m.bumpBy off n).sys = m.sys := rfl
@[simp] theorem Module.bumpBy_cmd (m : Module) (off n) : (m.bumpBy off n).cmd = m.cmd := rfl
@[simp] theorem Module.bumpBy_set (m : Module) (off n) : (m.bumpBy off n).set = m.set := rfl
@[simp] theorem Module.bumpBy_bulk (m : Module) (off n) : (m.bumpBy off n).bulk = m.bulk := rfl
@[simp] theorem Module.bumpBy_evt (m : Module) (off n) : (m.bumpBy off n).evt = m.evt := rfl
@[simp] theorem Module.bumpBy_ang (m : Module) (off n) : (m.bumpBy off n).ang = m.ang := rfl
@[simp] theorem Module.bumpBy_pck (m : Module) (off n) : (m.bumpBy off n).pck = m.pck := rfl
@[simp] theorem Module.bumpBy_wrp (m : Module) (off n) : (m.bumpBy off n).wrp = m.wrp := rfl
@[simp] theorem Module.bumpBy_est (m : Module) (off n) : (m.bumpBy off n).est = m.est := rfl
@[simp] theorem Module.bumpBy_lrn (m : Module) (off n) : (m.bumpBy off n).lrn = m.lrn := rfl
@[simp] theorem Module.bumpBy_wft (m : Module) (off n) : (m.bumpBy off n).wft = m.wft := rfl
@[simp] theorem Module.bumpBy_com (m : Module) (off n) : (m.bumpBy off n).com = m.com := rfl
@[simp] theorem Module.bumpBy_slv (m : Module) (off n) : (m.bumpBy off n).slv = m.slv := rfl
@[simp] theorem Module.bumpBy_tmp (m : Module) (off n) : (m.bumpBy off n).tmp = m.tmp := rfl
@[simp] theorem Module.bumpBy_drf (m : Module) (off n) : (m.bumpBy off n).drf = m.drf := rfl
@[simp] theorem Module.bumpBy_can (m : Module) (off n) : (m.bumpBy off n).can = m.can := rfl
@[simp] theorem Module.bumpBy_rng (m : Module) (off n) : (m.bumpBy off n).rng = m.rng := rfl
@[simp] theorem Module.bumpBy_clo (m : Module) (off n) : (m.bumpBy off n).clo = m.clo := rfl
@[simp] theorem Module.bumpBy_rep (m : Module) (off n) : (m.bumpBy off n).rep = m.rep := rfl
@[simp] theorem Module.bumpBy_blt (m : Module) (off n) : (m.bumpBy off n).blt = m.blt := rfl
@[simp] theorem Module.bumpBy_svc (m : Module) (off n) : (m.bumpBy off n).svc = m.svc := rfl
@[simp] theorem Module.bumpBy_upd (m : Module) (off n) : (m.bumpBy off n).upd = m.upd := rfl
@[simp] theorem Module.bumpBy_hk (m : Module) (off n) : (m.bumpBy off n).hk = m.hk := rfl
@[simp] theorem Module.bumpBy_out (m : Module) (off n) : (m.bumpBy off n).out = m.out := rfl
@[simp] theorem Module.bumpBy_free (m : Module) (off n) : (m.bumpBy off n).free = m.free := rfl
@[simp] theorem Module.bump_sys (m : Module) (off) : (m.bump off).sys = m.sys := rfl
@[simp] theorem Module.bump_cmd (m : Module) (off) : (m.bump off).cmd = m.cmd := rfl
@[simp] theorem Module.bump_set (m : Module) (off) : (m.bump off).set = m.set := rfl
@[simp] theorem Module.bump_bulk (m : Module) (off) : (m.bump off).bulk = m.bulk := rfl
@[simp] theorem Module.bump_evt (m : Module) (off) : (m.bump off).evt = m.evt := rfl
@[simp] theorem Module.bump_ang (m : Module) (off) : (m.bump off).ang = m.ang := rfl
@[simp] theorem Module.bump_pck (m : Module) (off) : (m.bump off).pck = m.pck := rfl
@[simp] theorem Module.bump_wrp (m : Module) (off) : (m.bump off).wrp = m.wrp := rfl
@[simp] theorem Module.bump_est (m : Module) (off) : (m.bump off).est = m.est := rfl
@[simp] theorem Module.bump_lrn (m : Module) (off) : (m.bump off).lrn = m.lrn := rfl
@[simp] theorem Module.bump_wft (m : Module) (off) : (m.bump off).wft = m.wft := rfl
@[simp] theorem Module.bump_com (m : Module) (off) : (m.bump off).com = m.com := rfl
@[simp] theorem Module.bump_slv (m : Module) (off) : (m.bump off).slv = m.slv := rfl
@[simp] theorem Module.bump_tmp (m : Module) (off) : (m.bump off).tmp = m.tmp := rfl
@[simp] theorem Module.bump_drf (m : Module) (off) : (m.bump off).drf = m.drf := rfl
@[simp] theorem Module.bump_can (m : Module) (off) : (m.bump off).can = m.can := rfl
@[simp] theorem Module.bump_rng (m : Module) (off) : (m.bump off).rng = m.rng := rfl
@[simp] theorem Module.bump_clo (m : Module) (off) : (m.bump off).clo = m.clo := rfl
@[simp] theorem Module.bump_rep (m : Module) (off) : (m.bump off).rep = m.rep := rfl
@[simp] theorem Module.bump_blt (m : Module) (off) : (m.bump off).blt = m.blt := rfl
@[simp] theorem Module.bump_svc (m : Module) (off) : (m.bump off).svc = m.svc := rfl
@[simp] theorem Module.bump_upd (m : Module) (off) : (m.bump off).upd = m.upd := rfl
@[simp] theorem Module.bump_hk (m : Module) (off) : (m.bump off).hk = m.hk := rfl
@[simp] theorem Module.bump_out (m : Module) (off) : (m.bump off).out = m.out := rfl
@[simp] theorem Module.bump_free (m : Module) (off) : (m.bump off).free = m.free := rfl
@[simp] theorem Module.clearCounter_sys (m : Module) (off) : (m.clearCounter off).sys = m.sys := rfl
@[simp] theorem Module.clearCounter_cmd (m : Module) (off) : (m.clearCounter off).cmd = m.cmd := rfl
@[simp] theorem Module.clearCounter_set (m : Module) (off) : (m.clearCounter off).set = m.set := rfl
@[simp] theorem Module.clearCounter_bulk (m : Module) (off) : (m.clearCounter off).bulk = m.bulk := rfl
@[simp] theorem Module.clearCounter_evt (m : Module) (off) : (m.clearCounter off).evt = m.evt := rfl
@[simp] theorem Module.clearCounter_ang (m : Module) (off) : (m.clearCounter off).ang = m.ang := rfl
@[simp] theorem Module.clearCounter_pck (m : Module) (off) : (m.clearCounter off).pck = m.pck := rfl
@[simp] theorem Module.clearCounter_wrp (m : Module) (off) : (m.clearCounter off).wrp = m.wrp := rfl
@[simp] theorem Module.clearCounter_est (m : Module) (off) : (m.clearCounter off).est = m.est := rfl
@[simp] theorem Module.clearCounter_lrn (m : Module) (off) : (m.clearCounter off).lrn = m.lrn := rfl
@[simp] theorem Module.clearCounter_wft (m : Module) (off) : (m.clearCounter off).wft = m.wft := rfl
@[simp] theorem Module.clearCounter_com (m : Module) (off) : (m.clearCounter off).com = m.com := rfl
@[simp] theorem Module.clearCounter_slv (m : Module) (off) : (m.clearCounter off).slv = m.slv := rfl
@[simp] theorem Module.clearCounter_tmp (m : Module) (off) : (m.clearCounter off).tmp = m.tmp := rfl
@[simp] theorem Module.clearCounter_drf (m : Module) (off) : (m.clearCounter off).drf = m.drf := rfl
@[simp] theorem Module.clearCounter_can (m : Module) (off) : (m.clearCounter off).can = m.can := rfl
@[simp] theorem Module.clearCounter_rng (m : Module) (off) : (m.clearCounter off).rng = m.rng := rfl
@[simp] theorem Module.clearCounter_clo (m : Module) (off) : (m.clearCounter off).clo = m.clo := rfl
@[simp] theorem Module.clearCounter_rep (m : Module) (off) : (m.clearCounter off).rep = m.rep := rfl
@[simp] theorem Module.clearCounter_blt (m : Module) (off) : (m.clearCounter off).blt = m.blt := rfl
@[simp] theorem Module.clearCounter_svc (m : Module) (off) : (m.clearCounter off).svc = m.svc := rfl
@[simp] theorem Module.clearCounter_upd (m : Module) (off) : (m.clearCounter off).upd = m.upd := rfl
@[simp] theorem Module.clearCounter_hk (m : Module) (off) : (m.clearCounter off).hk = m.hk := rfl
@[simp] theorem Module.clearCounter_out (m : Module) (off) : (m.clearCounter off).out = m.out := rfl
@[simp] theorem Module.clearCounter_free (m : Module) (off) : (m.clearCounter off).free = m.free := rfl
@[simp] theorem Module.emit_sys (m : Module) (o) : (m.emit o).sys = m.sys := rfl
@[simp] theorem Module.emit_cmd (m : Module) (o) : (m.emit o).cmd = m.cmd := rfl
@[simp] theorem Module.emit_set (m : Module) (o) : (m.emit o).set = m.set := rfl
@[simp] theorem Module.emit_bulk (m : Module) (o) : (m.emit o).bulk = m.bulk := rfl
@[simp] theorem Module.emit_evt (m : Module) (o) : (m.emit o).evt = m.evt := rfl
@[simp] theorem Module.emit_ang (m : Module) (o) : (m.emit o).ang = m.ang := rfl
@[simp] theorem Module.emit_pck (m : Module) (o) : (m.emit o).pck = m.pck := rfl
@[simp] theorem Module.emit_wrp (m : Module) (o) : (m.emit o).wrp = m.wrp := rfl
@[simp] theorem Module.emit_est (m : Module) (o) : (m.emit o).est = m.est := rfl
@[simp] theorem Module.emit_lrn (m : Module) (o) : (m.emit o).lrn = m.lrn := rfl
@[simp] theorem Module.emit_wft (m : Module) (o) : (m.emit o).wft = m.wft := rfl
@[simp] theorem Module.emit_com (m : Module) (o) : (m.emit o).com = m.com := rfl
@[simp] theorem Module.emit_slv (m : Module) (o) : (m.emit o).slv = m.slv := rfl
@[simp] theorem Module.emit_tmp (m : Module) (o) : (m.emit o).tmp = m.tmp := rfl
@[simp] theorem Module.emit_drf (m : Module) (o) : (m.emit o).drf = m.drf := rfl
@[simp] theorem Module.emit_can (m : Module) (o) : (m.emit o).can = m.can := rfl
@[simp] theorem Module.emit_rng (m : Module) (o) : (m.emit o).rng = m.rng := rfl
@[simp] theorem Module.emit_clo (m : Module) (o) : (m.emit o).clo = m.clo := rfl
@[simp] theorem Module.emit_rep (m : Module) (o) : (m.emit o).rep = m.rep := rfl
@[simp] theorem Module.emit_blt (m : Module) (o) : (m.emit o).blt = m.blt := rfl
@[simp] theorem Module.emit_svc (m : Module) (o) : (m.emit o).svc = m.svc := rfl
@[simp] theorem Module.emit_upd (m : Module) (o) : (m.emit o).upd = m.upd := rfl
@[simp] theorem Module.emit_hk (m : Module) (o) : (m.emit o).hk = m.hk := rfl
@[simp] theorem Module.emit_cnt (m : Module) (o) : (m.emit o).cnt = m.cnt := rfl
@[simp] theorem Module.emit_free (m : Module) (o) : (m.emit o).free = m.free := rfl
@[simp] theorem Module.useFree_sys (m : Module) : (m.useFree).sys = m.sys := rfl
@[simp] theorem Module.useFree_cmd (m : Module) : (m.useFree).cmd = m.cmd := rfl
@[simp] theorem Module.useFree_set (m : Module) : (m.useFree).set = m.set := rfl
@[simp] theorem Module.useFree_bulk (m : Module) : (m.useFree).bulk = m.bulk := rfl
@[simp] theorem Module.useFree_evt (m : Module) : (m.useFree).evt = m.evt := rfl
@[simp] theorem Module.useFree_ang (m : Module) : (m.useFree).ang = m.ang := rfl
@[simp] theorem Module.useFree_pck (m : Module) : (m.useFree).pck = m.pck := rfl
@[simp] theorem Module.useFree_wrp (m : Module) : (m.useFree).wrp = m.wrp := rfl
@[simp] theorem Module.useFree_est (m : Module) : (m.useFree).est = m.est := rfl
@[simp] theorem Module.useFree_lrn (m : Module) : (m.useFree).lrn = m.lrn := rfl
@[simp] theorem Module.useFree_wft (m : Module) : (m.useFree).wft = m.wft := rfl
@[simp] theorem Module.useFree_com (m : Module) : (m.useFree).com = m.com := rfl
@[simp] theorem Module.useFree_slv (m : Module) : (m.useFree).slv = m.slv := rfl
@[simp] theorem Module.useFree_tmp (m : Module) : (m.useFree).tmp = m.tmp := rfl
@[simp] theorem Module.useFree_drf (m : Module) : (m.useFree).drf = m.drf := rfl
@[simp] theorem Module.useFree_can (m : Module) : (m.useFree).can = m.can := rfl
@[simp] theorem Module.useFree_rng (m : Module) : (m.useFree).rng = m.rng := rfl
@[simp] theorem Module.useFree_clo (m : Module) : (m.useFree).clo = m.clo := rfl
@[simp] theorem Module.useFree_rep (m : Module) : (m.useFree).rep = m.rep := rfl
@[simp] theorem Module.useFree_blt (m : Module) : (m.useFree).blt = m.blt := rfl
@[simp] theorem Module.useFree_svc (m : Module) : (m.useFree).svc = m.svc := rfl
@[simp] theorem Module.useFree_upd (m : Module) : (m.useFree).upd = m.upd := rfl
@[simp] theorem Module.useFree_hk (m : Module) : (m.useFree).hk = m.hk := rfl
@[simp] theorem Module.useFree_cnt (m : Module) : (m.useFree).cnt = m.cnt := rfl
@[simp] theorem Module.useFree_out (m : Module) : (m.useFree).out = m.out := rfl
@[simp] theorem Module.tick_cmd (m : Module) (t) : (m.tick t).cmd = m.cmd := rfl
@[simp] theorem Module.tick_set (m : Module) (t) : (m.tick t).set = m.set := rfl
@[simp] theorem Module.tick_bulk (m : Module) (t) : (m.tick t).bulk = m.bulk := rfl
@[simp] theorem Module.tick_evt (m : Module) (t) : (m.tick t).evt = m.evt := rfl
@[simp] theorem Module.tick_ang (m : Module) (t) : (m.tick t).ang = m.ang := rfl
@[simp] theorem Module.tick_pck (m : Module) (t) : (m.tick t).pck = m.pck := rfl
@[simp] theorem Module.tick_wrp (m : Module) (t) : (m.tick t).wrp = m.wrp := rfl
@[simp] theorem Module.tick_est (m : Module) (t) : (m.tick t).est = m.est := rfl
@[simp] theorem Module.tick_lrn (m : Module) (t) : (m.tick t).lrn = m.lrn := rfl
@[simp] theorem Module.tick_wft (m : Module) (t) : (m.tick t).wft = m.wft := rfl
@[simp] theorem Module.tick_com (m : Module) (t) : (m.tick t).com = m.com := rfl
@[simp] theorem Module.tick_slv (m : Module) (t) : (m.tick t).slv = m.slv := rfl
@[simp] theorem Module.tick_tmp (m : Module) (t) : (m.tick t).tmp = m.tmp := rfl
@[simp] theorem Module.tick_drf (m : Module) (t) : (m.tick t).drf = m.drf := rfl
@[simp] theorem Module.tick_can (m : Module) (t) : (m.tick t).can = m.can := rfl
@[simp] theorem Module.tick_rng (m : Module) (t) : (m.tick t).rng = m.rng := rfl
@[simp] theorem Module.tick_clo (m : Module) (t) : (m.tick t).clo = m.clo := rfl
@[simp] theorem Module.tick_rep (m : Module) (t) : (m.tick t).rep = m.rep := rfl
@[simp] theorem Module.tick_blt (m : Module) (t) : (m.tick t).blt = m.blt := rfl
@[simp] theorem Module.tick_svc (m : Module) (t) : (m.tick t).svc = m.svc := rfl
@[simp] theorem Module.tick_upd (m : Module) (t) : (m.tick t).upd = m.upd := rfl
@[simp] theorem Module.tick_hk (m : Module) (t) : (m.tick t).hk = m.hk := rfl
@[simp] theorem Module.tick_cnt (m : Module) (t) : (m.tick t).cnt = m.cnt := rfl
@[simp] theorem Module.tick_out (m : Module) (t) : (m.tick t).out = m.out := rfl
@[simp] theorem Module.tick_free (m : Module) (t) : (m.tick t).free = m.free := rfl
@[simp] theorem Module.emit_out (m : Module) (o) : (m.emit o).out = o :: m.out := rfl
@[simp] theorem Module.useFree_free (m : Module) : m.useFree.free = m.free + 1 := rfl
/-- The clock never runs backward, and nothing else of the modes changes with it. -/
theorem Module.tick_sys (m : Module) (t) : (m.tick t).sys = { m.sys with clock := max m.sys.clock t } := rfl

theorem Module.counter_bumpBy (m : Module) (off n k : Nat) :
    (m.bumpBy off n).counter k = if k = off then satU32 (m.counter k + n) else m.counter k := by
  unfold Module.counter Module.bumpBy
  split
  · subst k; simp
  · simp [tabGet_upd_other _ _ _ ‹_›]

theorem Module.counter_bump (m : Module) (off k : Nat) :
    (m.bump off).counter k = if k = off then satU32 (m.counter k + 1) else m.counter k := m.counter_bumpBy off 1 k

theorem Module.counter_clearCounter (m : Module) (off k : Nat) :
    (m.clearCounter off).counter k = if k = off then 0 else m.counter k := by
  unfold Module.counter Module.clearCounter
  split
  · subst k; simp
  · simp [tabGet_put_other _ _ _ ‹_›]

/-- A counter is what the counter table holds. -/
theorem Module.counter_of_cnt {m m' : Module} (h : m'.cnt = m.cnt) (k : Nat) : m'.counter k = m.counter k := by
  unfold Module.counter
  rw [h]

/-! ### Bolt counters, notify causes, events -/

@[simp] theorem Module.notifyCause_sys (m : Module) (b) : (m.notifyCause b).sys = m.sys := rfl
@[simp] theorem Module.notifyCause_cmd (m : Module) (b) : (m.notifyCause b).cmd = m.cmd := rfl
@[simp] theorem Module.notifyCause_set (m : Module) (b) : (m.notifyCause b).set = m.set := rfl
@[simp] theorem Module.notifyCause_bulk (m : Module) (b) : (m.notifyCause b).bulk = m.bulk := rfl
@[simp] theorem Module.notifyCause_evt (m : Module) (b) : (m.notifyCause b).evt = m.evt := rfl
@[simp] theorem Module.notifyCause_ang (m : Module) (b) : (m.notifyCause b).ang = m.ang := rfl
@[simp] theorem Module.notifyCause_pck (m : Module) (b) : (m.notifyCause b).pck = m.pck := rfl
@[simp] theorem Module.notifyCause_wrp (m : Module) (b) : (m.notifyCause b).wrp = m.wrp := rfl
@[simp] theorem Module.notifyCause_est (m : Module) (b) : (m.notifyCause b).est = m.est := rfl
@[simp] theorem Module.notifyCause_lrn (m : Module) (b) : (m.notifyCause b).lrn = m.lrn := rfl
@[simp] theorem Module.notifyCause_wft (m : Module) (b) : (m.notifyCause b).wft = m.wft := rfl
@[simp] theorem Module.notifyCause_com (m : Module) (b) : (m.notifyCause b).com = m.com := rfl
@[simp] theorem Module.notifyCause_slv (m : Module) (b) : (m.notifyCause b).slv = m.slv := rfl
@[simp] theorem Module.notifyCause_tmp (m : Module) (b) : (m.notifyCause b).tmp = m.tmp := rfl
@[simp] theorem Module.notifyCause_drf (m : Module) (b) : (m.notifyCause b).drf = m.drf := rfl
@[simp] theorem Module.notifyCause_can (m : Module) (b) : (m.notifyCause b).can = m.can := rfl
@[simp] theorem Module.notifyCause_rng (m : Module) (b) : (m.notifyCause b).rng = m.rng := rfl
@[simp] theorem Module.notifyCause_clo (m : Module) (b) : (m.notifyCause b).clo = m.clo := rfl
@[simp] theorem Module.notifyCause_rep (m : Module) (b) : (m.notifyCause b).rep = m.rep := rfl
@[simp] theorem Module.notifyCause_blt (m : Module) (b) : (m.notifyCause b).blt = m.blt := rfl
@[simp] theorem Module.notifyCause_upd (m : Module) (b) : (m.notifyCause b).upd = m.upd := rfl
@[simp] theorem Module.notifyCause_hk (m : Module) (b) : (m.notifyCause b).hk = m.hk := rfl
@[simp] theorem Module.notifyCause_cnt (m : Module) (b) : (m.notifyCause b).cnt = m.cnt := rfl
@[simp] theorem Module.notifyCause_out (m : Module) (b) : (m.notifyCause b).out = m.out := rfl
@[simp] theorem Module.notifyCause_free (m : Module) (b) : (m.notifyCause b).free = m.free := rfl
@[simp] theorem Module.boltCount_sys (m : Module) (c) : (m.boltCount c).sys = m.sys := by
  unfold Module.boltCount; dsimp only; split <;> rfl
@[simp] theorem Module.boltCount_cmd (m : Module) (c) : (m.boltCount c).cmd = m.cmd := by
  unfold Module.boltCount; dsimp only; split <;> rfl
@[simp] theorem Module.boltCount_set (m : Module) (c) : (m.boltCount c).set = m.set := by
  unfold Module.boltCount; dsimp only; split <;> rfl
@[simp] theorem Module.boltCount_bulk (m : Module) (c) : (m.boltCount c).bulk = m.bulk := by
  unfold Module.boltCount; dsimp only; split <;> rfl
@[simp] theorem Module.boltCount_evt (m : Module) (c) : (m.boltCount c).evt = m.evt := by
  unfold Module.boltCount; dsimp only; split <;> rfl
@[simp] theorem Module.boltCount_ang (m : Module) (c) : (m.boltCount c).ang = m.ang := by
  unfold Module.boltCount; dsimp only; split <;> rfl
@[simp] theorem Module.boltCount_pck (m : Module) (c) : (m.boltCount c).pck = m.pck := by
  unfold Module.boltCount; dsimp only; split <;> rfl
@[simp] theorem Module.boltCount_wrp (m : Module) (c) : (m.boltCount c).wrp = m.wrp := by
  unfold Module.boltCount; dsimp only; split <;> rfl
@[simp] theorem Module.boltCount_est (m : Module) (c) : (m.boltCount c).est = m.est := by
  unfold Module.boltCount; dsimp only; split <;> rfl
@[simp] theorem Module.boltCount_lrn (m : Module) (c) : (m.boltCount c).lrn = m.lrn := by
  unfold Module.boltCount; dsimp only; split <;> rfl
@[simp] theorem Module.boltCount_wft (m : Module) (c) : (m.boltCount c).wft = m.wft := by
  unfold Module.boltCount; dsimp only; split <;> rfl
@[simp] theorem Module.boltCount_com (m : Module) (c) : (m.boltCount c).com = m.com := by
  unfold Module.boltCount; dsimp only; split <;> rfl
@[simp] theorem Module.boltCount_slv (m : Module) (c) : (m.boltCount c).slv = m.slv := by
  unfold Module.boltCount; dsimp only; split <;> rfl
@[simp] theorem Module.boltCount_tmp (m : Module) (c) : (m.boltCount c).tmp = m.tmp := by
  unfold Module.boltCount; dsimp only; split <;> rfl
@[simp] theorem Module.boltCount_drf (m : Module) (c) : (m.boltCount c).drf = m.drf := by
  unfold Module.boltCount; dsimp only; split <;> rfl
@[simp] theorem Module.boltCount_can (m : Module) (c) : (m.boltCount c).can = m.can := by
  unfold Module.boltCount; dsimp only; split <;> rfl
@[simp] theorem Module.boltCount_rng (m : Module) (c) : (m.boltCount c).rng = m.rng := by
  unfold Module.boltCount; dsimp only; split <;> rfl
@[simp] theorem Module.boltCount_clo (m : Module) (c) : (m.boltCount c).clo = m.clo := by
  unfold Module.boltCount; dsimp only; split <;> rfl
@[simp] theorem Module.boltCount_rep (m : Module) (c) : (m.boltCount c).rep = m.rep := by
  unfold Module.boltCount; dsimp only; split <;> rfl
@[simp] theorem Module.boltCount_svc (m : Module) (c) : (m.boltCount c).svc = m.svc := by
  unfold Module.boltCount; dsimp only; split <;> rfl
@[simp] theorem Module.boltCount_upd (m : Module) (c) : (m.boltCount c).upd = m.upd := by
  unfold Module.boltCount; dsimp only; split <;> rfl
@[simp] theorem Module.boltCount_hk (m : Module) (c) : (m.boltCount c).hk = m.hk := by
  unfold Module.boltCount; dsimp only; split <;> rfl
@[simp] theorem Module.boltCount_out (m : Module) (c) : (m.boltCount c).out = m.out := by
  unfold Module.boltCount; dsimp only; split <;> rfl
@[simp] theorem Module.boltCount_free (m : Module) (c) : (m.boltCount c).free = m.free := by
  unfold Module.boltCount; dsimp only; split <;> rfl

theorem Module.counter_boltCount (m : Module) (c k : Nat) (h : k ≠ 0x0C002C) : (m.boltCount c).counter k = m.counter k := by
  unfold Module.boltCount
  dsimp only
  split
  · rw [Module.counter_bump, if_neg h]; rfl
  · rfl

@[simp] theorem Module.raise_sys (m : Module) (e) : (m.raise e).sys = m.sys := by
  unfold Module.raise; dsimp only
  cases notifyBit e <;> simp
@[simp] theorem Module.raise_set (m : Module) (e) : (m.raise e).set = m.set := by
  unfold Module.raise; dsimp only
  cases notifyBit e <;> simp
@[simp] theorem Module.raise_bulk (m : Module) (e) : (m.raise e).bulk = m.bulk := by
  unfold Module.raise; dsimp only
  cases notifyBit e <;> simp
@[simp] theorem Module.raise_ang (m : Module) (e) : (m.raise e).ang = m.ang := by
  unfold Module.raise; dsimp only
  cases notifyBit e <;> simp
@[simp] theorem Module.raise_pck (m : Module) (e) : (m.raise e).pck = m.pck := by
  unfold Module.raise; dsimp only
  cases notifyBit e <;> simp
@[simp] theorem Module.raise_wrp (m : Module) (e) : (m.raise e).wrp = m.wrp := by
  unfold Module.raise; dsimp only
  cases notifyBit e <;> simp
@[simp] theorem Module.raise_est (m : Module) (e) : (m.raise e).est = m.est := by
  unfold Module.raise; dsimp only
  cases notifyBit e <;> simp
@[simp] theorem Module.raise_lrn (m : Module) (e) : (m.raise e).lrn = m.lrn := by
  unfold Module.raise; dsimp only
  cases notifyBit e <;> simp
@[simp] theorem Module.raise_wft (m : Module) (e) : (m.raise e).wft = m.wft := by
  unfold Module.raise; dsimp only
  cases notifyBit e <;> simp
@[simp] theorem Module.raise_com (m : Module) (e) : (m.raise e).com = m.com := by
  unfold Module.raise; dsimp only
  cases notifyBit e <;> simp
@[simp] theorem Module.raise_slv (m : Module) (e) : (m.raise e).slv = m.slv := by
  unfold Module.raise; dsimp only
  cases notifyBit e <;> simp
@[simp] theorem Module.raise_tmp (m : Module) (e) : (m.raise e).tmp = m.tmp := by
  unfold Module.raise; dsimp only
  cases notifyBit e <;> simp
@[simp] theorem Module.raise_drf (m : Module) (e) : (m.raise e).drf = m.drf := by
  unfold Module.raise; dsimp only
  cases notifyBit e <;> simp
@[simp] theorem Module.raise_can (m : Module) (e) : (m.raise e).can = m.can := by
  unfold Module.raise; dsimp only
  cases notifyBit e <;> simp
@[simp] theorem Module.raise_rng (m : Module) (e) : (m.raise e).rng = m.rng := by
  unfold Module.raise; dsimp only
  cases notifyBit e <;> simp
@[simp] theorem Module.raise_clo (m : Module) (e) : (m.raise e).clo = m.clo := by
  unfold Module.raise; dsimp only
  cases notifyBit e <;> simp
@[simp] theorem Module.raise_rep (m : Module) (e) : (m.raise e).rep = m.rep := by
  unfold Module.raise; dsimp only
  cases notifyBit e <;> simp
@[simp] theorem Module.raise_upd (m : Module) (e) : (m.raise e).upd = m.upd := by
  unfold Module.raise; dsimp only
  cases notifyBit e <;> simp
@[simp] theorem Module.raise_hk (m : Module) (e) : (m.raise e).hk = m.hk := by
  unfold Module.raise; dsimp only
  cases notifyBit e <;> simp
@[simp] theorem Module.raise_out (m : Module) (e) : (m.raise e).out = m.out := by
  unfold Module.raise; dsimp only
  cases notifyBit e <;> simp
@[simp] theorem Module.raise_free (m : Module) (e) : (m.raise e).free = m.free := by
  unfold Module.raise; dsimp only
  cases notifyBit e <;> simp

/-- Raising an event changes only the parts that show events. -/
theorem OnlyIn.raise {bs : List Block} {m m' : Module} (e : Nat) (h : OnlyIn bs m m')
    (s : ∀ b ∈ evtBlocks, b ∈ bs) : OnlyIn bs m (m'.raise e) := by
  refine h.trans (OnlyIn.mono (as := evtBlocks) (fun b hb => ?_) s)
  cases b <;> first | exact absurd (by decide) hb | simp [Module.Same]

@[simp] theorem Module.raise_evt (m : Module) (e) :
    (m.raise e).evt = { m.evt with raised := m.evt.raised ||| 2 ^ e, last := e } := by
  unfold Module.raise; dsimp only
  cases notifyBit e <;> simp

@[simp] theorem Module.raise_cmd (m : Module) (e) :
    (m.raise e).cmd = { m.cmd with ctxs := m.cmd.ctxs.map fun p => (p.1, ctxEvent e m.pck.index m.plantNow p.2) } := by
  unfold Module.raise; dsimp only
  cases notifyBit e <;> simp

theorem Module.counter_raise (m : Module) (e k : Nat) (h : k ≠ 0x0C002C) :
    (m.raise e).counter k = if k = evtCnt e then satU32 (m.counter k + 1) else m.counter k := by
  unfold Module.raise
  dsimp only
  rw [Module.counter_boltCount _ _ _ h]
  refine Eq.trans (Module.counter_of_cnt (m := m.bump (evtCnt e)) ?_ k) (m.counter_bump _ k)
  cases notifyBit e <;> rfl

/-- The service port's own registers are not the event's business: only the notify cause and its pending attempt change. -/
theorem Module.raise_svc (m : Module) (e) :
    (m.raise e).svc = { m.svc with cause := (m.raise e).svc.cause, pending := (m.raise e).svc.pending,
                                   attempts := (m.raise e).svc.attempts } := by
  unfold Module.raise; dsimp only
  cases notifyBit e <;> simp [Module.notifyCause]

/-! ### The events raised -/

theorem satU32_satU32 (v n : Nat) : satU32 (satU32 v + n) = satU32 (v + n) := by
  unfold satU32
  omega

theorem Raises.nil (m : Module) : Raises [] m m := ⟨fun _ _ => by simp, rfl, rfl⟩

/-- Raising one event more. -/
theorem Raises.raise {es : List Nat} {m m' : Module} (e : Nat) (he : e < 512) (h : Raises es m m') :
    Raises (es ++ [e]) m (m'.raise e) := by
  obtain ⟨hc, hr, -⟩ := h
  refine ⟨fun k hk => ?_, by simp [hr], by simp⟩
  rw [Module.counter_raise _ _ _ (by unfold evtCnt; omega), hc k hk]
  by_cases hke : k = e
  · subst hke
    by_cases hm : k ∈ es
    · simp [hm, satU32_satU32, List.count_append, Nat.add_assoc]
    · simp [hm, List.count_append, List.count_eq_zero_of_not_mem hm]
  · have hn : evtCnt k ≠ evtCnt e := by unfold evtCnt; omega
    simp [hn, hke, List.count_append, List.count_eq_zero_of_not_mem]

/-- A change elsewhere raises nothing. -/
theorem Raises.of_eq {es : List Nat} {m m₁ m₂ : Module} (h : Raises es m m₁) (hc : m₂.cnt = m₁.cnt)
    (he : m₂.evt.raised = m₁.evt.raised) (hl : m₂.evt.last = m₁.evt.last) : Raises es m m₂ := by
  obtain ⟨h1, h2, h3⟩ := h
  exact ⟨fun e k => (Module.counter_of_cnt hc _).trans (h1 e k), he.trans h2, hl.trans h3⟩

/-- Counting another counter raises nothing. -/
theorem Raises.bumpBy {es : List Nat} {m m' : Module} (off n : Nat) (ho : off < 0x031000 ∨ 0x031800 ≤ off)
    (h : Raises es m m') : Raises es m (m'.bumpBy off n) := by
  refine ⟨fun e k => ?_, h.2.1, h.2.2⟩
  rw [Module.counter_bumpBy, if_neg (by unfold evtCnt; omega)]
  exact h.1 e k

/-- An event counts on no other counter. -/
theorem CountsOnly.raise {offs : List Nat} {m m' : Module} (e : Nat) (he : e < 512) (h : CountsOnly offs m m') :
    CountsOnly offs m (m'.raise e) := by
  intro off ho hr hb
  rw [Module.counter_raise _ _ _ hb, if_neg (by unfold evtCnt; omega)]
  exact h off ho hr hb

theorem CountsOnly.of_eq {offs : List Nat} {m m₁ m₂ : Module} (h : CountsOnly offs m m₁) (hc : m₂.cnt = m₁.cnt) :
    CountsOnly offs m m₂ := fun off ho hr hb => (Module.counter_of_cnt hc off).trans (h off ho hr hb)

end Sys2Proof.Machine
end

