-- ==== Sys2Proof/Laws/Request.lean ====
section
/-! SUPPORT. Laws/Request.lean: how a request is taken up and answered (Machine/Ops.lean). -/
namespace Sys2Proof.Machine

/-! ### Contexts -/

theorem tabErase_insert {α : Type} (t : Tab α) (i : Nat) (v : α) :
    tabErase (tabInsert i v (tabErase t i)) i = tabErase t i := by
  have key : ∀ u : Tab α, (∀ p ∈ u, p.1 ≠ i) → tabErase (tabInsert i v u) i = u := by
    intro u hu
    induction u with
    | nil => simp [tabInsert, tabErase]
    | cons p u ih =>
      obtain ⟨k, w⟩ := p
      have hk : k ≠ i := hu (k, w) (by simp)
      have hr : ∀ q ∈ u, q.1 ≠ i := fun q hq => hu q (by simp [hq])
      by_cases hlt : i < k
      · have hf : u.filter (fun q => decide (q.1 ≠ i)) = u := by
          rw [List.filter_eq_self]; intro q hq; simpa using hr q hq
        simpa [tabInsert, hlt, tabErase, hk] using hf
      · simpa [tabInsert, hlt, tabErase, hk] using ih hr
  exact key _ (tabErase_ne t i)

/-- Of two writes at one index the second stays. -/
theorem tabPut_put {α : Type} [DecidableEq α] (d : α) (t : Tab α) (i : Nat) (a b : α) :
    tabPut d (tabPut d t i a) i b = tabPut d t i b := by
  have e : tabErase (tabPut d t i a) i = tabErase t i := by
    unfold tabPut
    split
    · simp [tabErase]
    · exact tabErase_insert t i a
  unfold tabPut at e ⊢
  rw [e]

@[simp] theorem Module.ctx_putCtx_same (m : Module) (c : Nat) (x) : (m.putCtx c x).ctx? c = x := by
  simp [Module.ctx?, Module.putCtx]

theorem Module.ctx_putCtx_other (m : Module) {c d : Nat} (x) (h : d ≠ c) : (m.putCtx c x).ctx? d = m.ctx? d := by
  simp [Module.ctx?, Module.putCtx, tabGet_put_other _ _ _ h]

@[simp] theorem Module.ctx_updCtx_same (m : Module) (c : Nat) (f) : (m.updCtx c f).ctx? c = (m.ctx? c).map f :=
  m.ctx_putCtx_same c _

theorem Module.ctx_updCtx_other (m : Module) {c d : Nat} (f) (h : d ≠ c) : (m.updCtx c f).ctx? d = m.ctx? d :=
  m.ctx_putCtx_other _ h

theorem Module.putCtx_putCtx (m : Module) (c : Nat) (x y) : (m.putCtx c x).putCtx c y = m.putCtx c y := by
  simp [Module.putCtx, Module.onCmd, tabPut_put]

theorem Module.ctx_of_cmd {m m' : Module} (h : m'.cmd.ctxs = m.cmd.ctxs) (c : Nat) : m'.ctx? c = m.ctx? c := by
  unfold Module.ctx?
  rw [h]

@[simp] theorem Module.ctx_tick (m : Module) (t c : Nat) : (m.tick t).ctx? c = m.ctx? c := rfl

/-! ### Taking a request up -/

/-- The packet checks let an admitted request through, and change the clock and the context's numbers alone. -/
theorem Module.gate_admitted {op : Nat} {r : Req} {m : Module} (h : Admitted op r m) :
    m.gate op r =
      (match m.ctx? r.ctx with
        | some c => (m.tick r.t).putCtx r.ctx (some (c.taken (max m.sys.clock r.t) r.seq))
        | none => m.tick r.t, true) := by
  have hd : (m.tick r.t).deaf = false := h.hears
  have hm : (m.tick r.t).wantTrailer op r = r.trailer := h.mac
  have ht : ((m.tick r.t).cmd.outst.any fun o => o.ctx = r.ctx && o.tag = r.tag && o.live) = false := by
    rw [List.any_eq_false]
    intro o ho
    have := h.tag o ho
    simp only [Bool.and_eq_true, decide_eq_true_eq]
    exact fun k => this ⟨k.1.1, k.1.2, k.2⟩
  unfold Module.gate
  simp only [hd, hm, ht, Module.ctx_tick]
  cases hc : m.ctx? r.ctx with
  | none => simp
  | some c =>
    have hs : ¬ r.seq ≤ c.highSeq := by
      have := h.seq c hc
      omega
    simp [hs, Module.updCtx, Module.putCtx_putCtx, hc, Ctx.taken, Module.tick_sys]

/-- An admitted request meets its command's own rules, and is answered as they say. -/
theorem Module.request_admitted {op : Nat} {body : Req → Module → Resp} {r : Req} {m : Module}
    (h : Admitted op r m) :
    m.request op body r = answerResp { id := m.cmd.nextId, ctx := r.ctx, tag := r.tag, opcode := op, seq := r.seq,
                                       urgent := r.urgent, payload := r.payload } (body r (m.taken r)) := by
  have hq : ∀ x : Module, x.cmd.outst = m.cmd.outst → x.queueRefusal op r = none := by
    intro x hx
    have := h.queue
    unfold Module.queueRefusal at this ⊢
    rw [hx]
    exact this
  have hu : (m.taken r).upd = m.upd := by
    unfold Module.taken
    cases m.ctx? r.ctx <;> rfl
  have hq1 := hq (m.taken r) (by unfold Module.taken; cases m.ctx? r.ctx <;> rfl)
  unfold Module.request
  rw [Module.gate_admitted h]
  unfold Module.taken at hu hq1 ⊢
  cases hc : m.ctx? r.ctx <;> simp only [hc] at hu hq1 ⊢ <;> simp only [hq1, hu, h.running, ne_eq,
    not_false_eq_true, if_true] <;> rfl

/-! ### What is taken up -/

theorem Module.taken_same (r : Req) (m : Module) : OnlyIn [.sys, .cmd] m (m.taken r) := by
  intro b hb
  unfold Module.taken
  cases m.ctx? r.ctx <;> cases b <;> first | rfl | exact absurd (by decide) hb

@[simp] theorem Module.taken_set (r : Req) (m : Module) : (m.taken r).set = m.set := m.taken_same r .set (by decide)
@[simp] theorem Module.taken_bulk (r : Req) (m : Module) : (m.taken r).bulk = m.bulk := m.taken_same r .bulk (by decide)
@[simp] theorem Module.taken_evt (r : Req) (m : Module) : (m.taken r).evt = m.evt := m.taken_same r .evt (by decide)
@[simp] theorem Module.taken_ang (r : Req) (m : Module) : (m.taken r).ang = m.ang := m.taken_same r .ang (by decide)
@[simp] theorem Module.taken_pck (r : Req) (m : Module) : (m.taken r).pck = m.pck := m.taken_same r .pck (by decide)
@[simp] theorem Module.taken_wrp (r : Req) (m : Module) : (m.taken r).wrp = m.wrp := m.taken_same r .wrp (by decide)
@[simp] theorem Module.taken_est (r : Req) (m : Module) : (m.taken r).est = m.est := m.taken_same r .est (by decide)
@[simp] theorem Module.taken_lrn (r : Req) (m : Module) : (m.taken r).lrn = m.lrn := m.taken_same r .lrn (by decide)
@[simp] theorem Module.taken_wft (r : Req) (m : Module) : (m.taken r).wft = m.wft := m.taken_same r .wft (by decide)
@[simp] theorem Module.taken_com (r : Req) (m : Module) : (m.taken r).com = m.com := m.taken_same r .com (by decide)
@[simp] theorem Module.taken_slv (r : Req) (m : Module) : (m.taken r).slv = m.slv := m.taken_same r .slv (by decide)
@[simp] theorem Module.taken_tmp (r : Req) (m : Module) : (m.taken r).tmp = m.tmp := m.taken_same r .tmp (by decide)
@[simp] theorem Module.taken_drf (r : Req) (m : Module) : (m.taken r).drf = m.drf := m.taken_same r .drf (by decide)
@[simp] theorem Module.taken_can (r : Req) (m : Module) : (m.taken r).can = m.can := m.taken_same r .can (by decide)
@[simp] theorem Module.taken_rng (r : Req) (m : Module) : (m.taken r).rng = m.rng := m.taken_same r .rng (by decide)
@[simp] theorem Module.taken_clo (r : Req) (m : Module) : (m.taken r).clo = m.clo := m.taken_same r .clo (by decide)
@[simp] theorem Module.taken_rep (r : Req) (m : Module) : (m.taken r).rep = m.rep := m.taken_same r .rep (by decide)
@[simp] theorem Module.taken_blt (r : Req) (m : Module) : (m.taken r).blt = m.blt := m.taken_same r .blt (by decide)
@[simp] theorem Module.taken_svc (r : Req) (m : Module) : (m.taken r).svc = m.svc := m.taken_same r .svc (by decide)
@[simp] theorem Module.taken_upd (r : Req) (m : Module) : (m.taken r).upd = m.upd := m.taken_same r .upd (by decide)
@[simp] theorem Module.taken_hk (r : Req) (m : Module) : (m.taken r).hk = m.hk := m.taken_same r .hk (by decide)
@[simp] theorem Module.taken_cnt (r : Req) (m : Module) : (m.taken r).cnt = m.cnt := m.taken_same r .cnt (by decide)
@[simp] theorem Module.taken_out (r : Req) (m : Module) : (m.taken r).out = m.out := m.taken_same r .out (by decide)
@[simp] theorem Module.taken_free (r : Req) (m : Module) : (m.taken r).free = m.free := m.taken_same r .free (by decide)

@[simp] theorem Module.taken_sys (r : Req) (m : Module) :
    (m.taken r).sys = { m.sys with clock := max m.sys.clock r.t } := by
  unfold Module.taken
  cases m.ctx? r.ctx <;> rfl

@[simp] theorem Module.taken_outst (r : Req) (m : Module) : (m.taken r).cmd.outst = m.cmd.outst := by
  unfold Module.taken
  cases m.ctx? r.ctx <;> rfl

@[simp] theorem Module.taken_bulkOut (r : Req) (m : Module) : (m.taken r).cmd.bulkOut = m.cmd.bulkOut := by
  unfold Module.taken
  cases m.ctx? r.ctx <;> rfl

@[simp] theorem Module.taken_nextId (r : Req) (m : Module) : (m.taken r).cmd.nextId = m.cmd.nextId + 1 := by
  unfold Module.taken
  cases m.ctx? r.ctx <;> rfl

@[simp] theorem Module.taken_thisId (r : Req) (m : Module) : (m.taken r).thisId = m.cmd.nextId := by
  simp [Module.thisId]

@[simp] theorem Module.taken_inBoot (r : Req) (m : Module) : (m.taken r).inBoot = m.inBoot := by simp [Module.inBoot]

theorem Module.taken_ctx_same (r : Req) (m : Module) :
    (m.taken r).ctx? r.ctx = (m.ctx? r.ctx).map (Ctx.taken (max m.sys.clock r.t) r.seq) := by
  unfold Module.taken
  cases h : m.ctx? r.ctx
  · exact h
  · simp [Module.ctx?, Module.putCtx]

theorem Module.taken_ctx_other (r : Req) (m : Module) {c : Nat} (hc : c ≠ r.ctx) : (m.taken r).ctx? c = m.ctx? c := by
  unfold Module.taken
  cases h : m.ctx? r.ctx
  · rfl
  · simp [Module.ctx?, Module.putCtx, tabGet_put_other _ _ _ hc]

@[simp] theorem Module.taken_privOf (r : Req) (m : Module) (c : Nat) : (m.taken r).privOf c = m.privOf c := by
  unfold Module.privOf
  by_cases hc : c = r.ctx
  · subst hc
    rw [Module.taken_ctx_same]
    cases m.ctx? r.ctx <;> rfl
  · rw [Module.taken_ctx_other r m hc]

@[simp] theorem Module.taken_lacks (r : Req) (m : Module) (c : Nat) (p) : (m.taken r).lacks c p = m.lacks c p := by
  simp [Module.lacks]

@[simp] theorem Module.taken_replyRoom (r : Req) (m : Module) (c : Nat) : (m.taken r).replyRoom c = m.replyRoom c := by
  unfold Module.replyRoom
  by_cases hc : c = r.ctx
  · subst hc
    rw [Module.taken_ctx_same]
    cases m.ctx? r.ctx <;> rfl
  · rw [Module.taken_ctx_other r m hc]

@[simp] theorem Module.taken_fuse (r : Req) (m : Module) (g : Nat) : (m.taken r).fuse? g = m.fuse? g := by
  simp [Module.fuse?]

@[simp] theorem Module.taken_settingDflt (r : Req) (m : Module) (i : Nat) : (m.taken r).settingDflt i = m.settingDflt i := by
  simp [Module.settingDflt, Module.headCapable]

@[simp] theorem Module.taken_setting (r : Req) (m : Module) (i : Nat) : (m.taken r).setting i = m.setting i := by
  simp [Module.setting]

@[simp] theorem Module.taken_flashOk (r : Req) (m : Module) : (m.taken r).flashOk = m.flashOk := by simp [Module.flashOk]

@[simp] theorem Module.taken_isHead (r : Req) (m : Module) : (m.taken r).isHead = m.isHead := by simp [Module.isHead]

@[simp] theorem Module.taken_counter (r : Req) (m : Module) (k : Nat) : (m.taken r).counter k = m.counter k := by
  simp [Module.counter]

@[simp] theorem Module.taken_pageOwner (r : Req) (m : Module) (p : Nat) : (m.taken r).pageOwner p = m.pageOwner p := by
  simp [Module.pageOwner]

@[simp] theorem Module.taken_winRead (r : Req) (m : Module) (a n : Nat) : (m.taken r).winRead a n = m.winRead a n := by
  simp [Module.winRead, Module.winByte]

/-- The checks of a request with a fixed payload length, all met. -/
theorem Module.basic_ok {r : Req} {len : Nat} {p : Priv} {m : Module} {k : Resp} (hl : r.payload.length = len)
    (hp : m.lacks r.ctx p = false) (hb : m.inBoot = false) : Module.basic r len p m k = k := by
  simp [Module.basic, hl, hp, hb]

/-- The checks in the order of R216, all met. -/
theorem Module.checks_ok {r : Req} {len : Nat} {ok : Bool} {p : Priv} {m : Module} {k : Resp} (hl : r.payload.length = len)
    (ho : ok = true) (hp : m.lacks r.ctx p = false) (hb : m.inBoot = false) : Module.checks r len ok p m k = k := by
  simp [Module.checks, hl, ho, hp, hb]

/-! ### Answering -/

/-- The command as the interpreter holds an admitted request. -/
def newCmd (op : Nat) (r : Req) (m : Module) : Outst :=
  { id := m.cmd.nextId, ctx := r.ctx, tag := r.tag, opcode := op, seq := r.seq, urgent := r.urgent, payload := r.payload }

/-- A reply of a live command: one packet leaves, and only the context's numbering (or a free number) moves. -/
theorem Module.sendReply_live (m : Module) {o : Outst} (h : o.live = true) (st more pl) :
    ∃ rep : Reply, rep.tag = o.tag ∧ rep.opcode = o.opcode ∧ rep.status = st ∧ rep.more = more ∧ rep.payload = pl ∧
      (m.sendReply o st more pl).1 = { o with replies := o.replies ++ [rep] } ∧
      (m.sendReply o st more pl).2.out = .reply o.ctx rep :: m.out ∧
      OnlyIn [.cmd, .out, .free] m (m.sendReply o st more pl).2 ∧
      (m.sendReply o st more pl).2.cmd.outst = m.cmd.outst ∧
      (m.sendReply o st more pl).2.cmd.bulkOut = m.cmd.bulkOut ∧
      (m.sendReply o st more pl).2.cmd.nextId = m.cmd.nextId ∧
      (∀ c, c ≠ o.ctx → (m.sendReply o st more pl).2.ctx? c = m.ctx? c) ∧
      (m.sendReply o st more pl).2.privOf o.ctx = m.privOf o.ctx := by
  unfold Module.sendReply
  simp only [h, Bool.not_true, Bool.false_eq_true, if_false]
  cases hc : m.ctx? o.ctx with
  | none =>
    refine ⟨_, rfl, rfl, rfl, rfl, rfl, rfl, rfl, ?_, rfl, rfl, rfl, fun _ _ => rfl, rfl⟩
    intro b hb
    cases b <;> first | rfl | exact absurd (by decide) hb
  | some x =>
    refine ⟨_, rfl, rfl, rfl, rfl, rfl, rfl, rfl, ?_, rfl, rfl, rfl, fun c k => ?_, ?_⟩
    · intro b hb
      cases b <;> first | rfl | exact absurd (by decide) hb
    · exact (Module.ctx_of_cmd (m := m.updCtx o.ctx _) rfl c).trans (Module.ctx_updCtx_other m _ k)
    · unfold Module.privOf
      rw [show ∀ e (y : Module), (y.emit e).ctx? o.ctx = y.ctx? o.ctx from fun _ _ => rfl, Module.ctx_updCtx_same, hc]
      rfl

/-- Keeping a completed command touches its own context's list alone. -/
theorem Module.keepDone_frame (m : Module) (o : Outst) :
    OnlyIn [.cmd] m (m.keepDone o) ∧ (m.keepDone o).cmd.outst = m.cmd.outst ∧
      (m.keepDone o).cmd.bulkOut = m.cmd.bulkOut ∧ (m.keepDone o).cmd.nextId = m.cmd.nextId ∧
      (∀ c, c ≠ o.ctx → (m.keepDone o).ctx? c = m.ctx? c) ∧ (m.keepDone o).privOf o.ctx = m.privOf o.ctx := by
  unfold Module.keepDone
  split
  · refine ⟨?_, rfl, rfl, rfl, fun c k => Module.ctx_updCtx_other m _ k, ?_⟩
    · intro b hb
      cases b <;> first | rfl | exact absurd (by decide) hb
    · unfold Module.privOf
      rw [Module.ctx_updCtx_same]
      cases m.ctx? o.ctx <;> rfl
  · exact ⟨OnlyIn.refl _ _, rfl, rfl, rfl, fun _ _ => rfl, rfl⟩

/-- The final reply of a command that completes as it is taken. -/
theorem Module.reply_live (m : Module) {o : Outst} (h : o.live = true) (st pl) :
    ∃ rep : Reply, rep.tag = o.tag ∧ rep.opcode = o.opcode ∧ rep.status = st ∧ rep.more = false ∧ rep.payload = pl ∧
      (m.reply o st pl).out = .reply o.ctx rep :: m.out ∧ OnlyIn [.cmd, .out, .free] m (m.reply o st pl) ∧
      (m.reply o st pl).cmd.outst = m.cmd.outst ∧ (m.reply o st pl).cmd.bulkOut = m.cmd.bulkOut ∧
      (m.reply o st pl).cmd.nextId = m.cmd.nextId ∧
      (∀ c, c ≠ o.ctx → (m.reply o st pl).ctx? c = m.ctx? c) ∧ (m.reply o st pl).privOf o.ctx = m.privOf o.ctx := by
  obtain ⟨rep, h1, h2, h3, h4, h5, h6, h7, h8, h9, h10, h11, h12, h13⟩ := m.sendReply_live h st false pl
  obtain ⟨k1, k2, k3, k4, k5, k6⟩ := Module.keepDone_frame (m.sendReply o st false pl).2 (m.sendReply o st false pl).1
  have e : m.reply o st pl = (m.sendReply o st false pl).2.keepDone (m.sendReply o st false pl).1 := rfl
  have hctx : (m.sendReply o st false pl).1.ctx = o.ctx := by rw [h6]
  rw [hctx] at k5 k6
  refine ⟨rep, h1, h2, h3, h4, h5, ?_, ?_, ?_, ?_, ?_, ?_, ?_⟩ <;> rw [e]
  · rw [← h7]; exact k1 .out (by decide)
  · exact h8.trans (k1.mono (by decide))
  · rw [k2, h9]
  · rw [k3, h10]
  · rw [k4, h11]
  · intro c hc
    rw [k5 c hc, h12 c hc]
  · rw [k6, h13]

/-- A command that completes as it is taken, by an admitted request: its own effect `m'`, then the reply. -/
theorem Module.request_done {op : Nat} {body : Req → Module → Resp} {r : Req} {m m' : Module} {p : Bytes}
    (h : Admitted op r m) (hb : body r (m.taken r) = .done p m') (hp : p.length ≤ m'.replyRoom r.ctx) :
    m.request op body r = m'.reply (newCmd op r m) .done p := by
  rw [Module.request_admitted h, hb]
  show m'.completeNow _ _ _ = _
  unfold Module.completeNow
  rw [if_neg (by simpa using hp)]
  rfl

theorem Module.request_fail {op : Nat} {body : Req → Module → Resp} {r : Req} {m m' : Module} {st : Status}
    (h : Admitted op r m) (hb : body r (m.taken r) = .fail st m') :
    m.request op body r = m'.reply (newCmd op r m) st [] := by
  rw [Module.request_admitted h, hb]
  rfl

/-- A reader's request: one DONE, and nothing of the module moves but the clock and the context's numbers. -/
theorem Module.request_reads {op : Nat} {body : Req → Module → Resp} {r : Req} {m : Module} {p : Bytes}
    (h : Admitted op r m) (hb : body r (m.taken r) = .done p (m.taken r)) (hp : p.length ≤ m.replyRoom r.ctx) :
    Replies op r .done p m (m.request op body r) ∧ ReadOnly r m (m.request op body r) := by
  have e := Module.request_done h hb (by simpa using hp)
  obtain ⟨rep, h1, h2, h3, h4, h5, h6, h7, h8, h9, h10, h11, h12⟩ :=
    (m.taken r).reply_live (o := newCmd op r m) rfl .done p
  rw [e]
  refine ⟨⟨rep, ?_, h1, h2, h3, h4, h5⟩, ?_, ?_, ?_, ?_, ?_, ?_⟩
  · rw [h6, Module.taken_out]; rfl
  · exact ((m.taken_same r).mono (by decide)).trans (h7.mono (by decide))
  · exact Eq.trans (h7 .sys (by decide)) (Module.taken_sys r m)
  · rw [h8, Module.taken_outst]
  · rw [h9, Module.taken_bulkOut]
  · intro c hc
    rw [h11 c hc, Module.taken_ctx_other r m hc]
  · exact h12.trans (Module.taken_privOf r m _)

end Sys2Proof.Machine
end

