-- ==== Sys2Proof/Laws/Window.lean ====
section
/-! SUPPORT. Laws/Window.lean: the memory of the bulk window (R522): a read after a write, and the canonical form that every
write keeps and that reset has. -/
namespace Sys2Proof.Machine

/-- Reset's window lists nothing, which is canonical. -/
theorem reset_memWf : memWf State.reset.m.bulk.mem = true := rfl

/-- A write of any length keeps the canonical form. -/
theorem memWf_memWrite (d : Bytes) : ∀ (mem : List Host.Cell) (a : Nat), memWf mem = true → memWf (memWrite mem a d) = true := by
  induction d with
  | nil => exact fun _ _ h => h
  | cons b d ih => exact fun mem a h => ih _ _ (tabWf_put a b h)

/-- A write of the window keeps the canonical form. -/
theorem Module.winWrite_memWf (a : Nat) (d : Bytes) (m : Module) (h : memWf m.bulk.mem = true) :
    memWf (m.winWrite a d).bulk.mem = true := memWf_memWrite d m.bulk.mem a h

/-- Addresses outside the bytes written read as before. -/
theorem memWrite_other (d : Bytes) : ∀ (mem : List Host.Cell) (a x : Nat), x < a ∨ a + d.length ≤ x →
    tabGet 0 (memWrite mem a d) x = tabGet 0 mem x := by
  induction d with
  | nil => intros; rfl
  | cons b d ih =>
    intro mem a x h
    simp only [List.length_cons] at h
    rw [memWrite, ih _ _ _ (by omega), tabGet_put_other 0 mem b (by omega)]

/-- The bytes written read back. -/
theorem memWrite_same (d : Bytes) : ∀ (mem : List Host.Cell) (a i : Nat), i < d.length →
    tabGet 0 (memWrite mem a d) (a + i) = d.getD i 0 := by
  induction d with
  | nil => intro _ _ _ h; exact absurd h (Nat.not_lt_zero _)
  | cons b d ih =>
    intro mem a i h
    cases i with
    | zero => rw [memWrite, memWrite_other _ _ _ _ (by omega)]; simp
    | succ i =>
      rw [memWrite, show a + (i + 1) = a + 1 + i by omega, ih _ _ _ (by simpa using h)]
      rfl

end Sys2Proof.Machine
end

