-- ==== Sys2Proof/Machine/Banks.lean ====
section
/-! DEFINITION. Machine/Banks.lean: what the bobbin and exchange banks hold, byte by byte (R280 to R288). The state keeps these
contents as the cells, learned copies, output buffers, packs and pick data they stand for; what a bank reads as is formed here. -/
namespace Sys2Proof.Machine

/-- Bytes cut or filled up with zeros to a region's size. -/
def region (n : Nat) (b : Bytes) : Bytes := b.take n ++ zeros (n - b.length)

/-- Bank 2t of a live tile: the cell record of slot s at 1,024 × s (R280). -/
def Module.recordBank (t : Nat) (m : Module) : Bytes :=
  region 262144 ((m.tileCells t).flatMap fun c => m.recordOf c (m.cell c))

/-- An output buffer of a live tile: 32 bytes per slot (R208, R281). -/
def Module.outBytes (t : Nat) (b : OutBuf) (m : Module) : Bytes :=
  (m.tileCells t).flatMap fun c => ((tabGet none b.cells c).getD {}).outRecord

/-- Tile status and fault record (R281, R282): the number of the complete output buffer, the tile's state and its fault cause. The
layout is the model's (DESIGN CHOICE: the manual gives none). -/
def Module.statusBytes (t : Nat) (m : Module) : Bytes :=
  leBytes 1 (m.est.stepPick.getD 0 % 2) ++ leBytes 1 (tileCode (m.tile t).state) ++ leBytes 1 (m.tile t).cause

/-- Bank 2t + 1 of a live tile (R281); its scratch is undefined between steps, so free. -/
def Module.learnBank (t : Nat) (m : Module) : Bytes :=
  region 0x20000 ((m.tileCells t).flatMap fun c => m.learnBytes c)
    ++ region 0x2000 (m.outBytes t m.est.even) ++ region 0x2000 (m.outBytes t m.est.odd)
    ++ (List.range 4).flatMap (fun k => region 2048 ((m.slotPack k).getD []))
    ++ region 2048 m.strWork ++ region 2048 (m.statusBytes t)
    ++ (List.range 102400).map fun i => BitVec.ofNat 8 (Config.freeNat (m.free + i))

/-- A pick-data bank (R285). -/
def PickBank.bytes (p : PickBank) : Bytes :=
  region 24 p.stamp ++ zeros 8 ++ region 32 (p.dci.flatMap fun c => leBytes 2 c) ++ region 128 (p.masks.flatMap fun v => leBytes 8 v)
    ++ zeros 64 ++ (List.range 16).flatMap (fun n => region 32 (tabGet [] p.heads n)) ++ zeros 256
    ++ (List.range 512).flatMap (fun k => region 112 (tabGet [] p.mons k)) ++ zeros 7168

/-- One of the two buffers of X2 (R286): the pick index of its step, and the string aggregate records. -/
def OutBuf.x2Bytes (b : OutBuf) : Bytes := region 0x400 (leBytes 8 (b.pick.getD 0) ++ zeros 8 ++ b.aggBytes)

/-- What a bank reads as; none where the manual gives no layout: X3 (R287), and the home banks of a tile that is not LIVE. -/
def Module.bankBytes (n : Nat) (m : Module) : Option Bytes :=
  if n < 64 then
    if (m.tile (n / 2)).state = .live then some (if n % 2 = 0 then m.recordBank (n / 2) else m.learnBank (n / 2)) else none
  else if n = 64 then some m.wft.x0.bytes
  else if n = 65 then some m.wft.x1.bytes
  else if n = 66 then some (m.est.even.x2Bytes ++ m.est.odd.x2Bytes)
  else none

end Sys2Proof.Machine
end

