-- ==== Sys2Proof/Tests/Slice0.lean ====
section
/-! SUPPORT. Tests/Slice0.lean: small checks of the model. The ill-formed terms that WellFormed refuses; single steps whose
results are the chapters' own; and, for every claim with hypotheses, a state and operands that meet them. -/
namespace Sys2Proof.Tests
open Sys2Proof Sys2Proof.Machine
set_option Elab.async false

/-- A module in STANDBY at ring address 0, with context 1 open for every privilege. -/
def tm : Module :=
  { sys := { mode := .standby }, rng := { addr := 0 }, cmd := { ctxs := [(1, some { priv := .safety })] } }
/-- A request in that context. -/
def rq (p : List Nat) : Req := { ctx := 1, tag := 1, seq := 1, payload := p.map (BitVec.ofNat 8) }
def st (m : Module) : State := { m := m, pending := [] }
def mode (x : Mode) (m : Module) : Module := m.onSys fun y => { y with mode := x }
def at_ (t : Nat) (m : Module) : Module := m.onSys fun y => { y with clock := t }

theorem admitted_iff (op : Nat) (r : Req) (m : Module) : Admitted op r m ↔
    (m.deaf = false ∧ m.wantTrailer op r = r.trailer ∧ (m.ctx? r.ctx).all (fun c => decide (c.highSeq < r.seq)) = true ∧
      (∀ o ∈ m.cmd.outst, ¬ (o.ctx = r.ctx ∧ o.tag = r.tag ∧ o.live = true)) ∧ m.queueRefusal op r = none ∧
      m.upd.state ≠ .activating) := by
  constructor
  · rintro ⟨a, b, c, d, e, f⟩
    refine ⟨a, b, ?_, d, e, f⟩
    cases h : m.ctx? r.ctx <;> simp_all
  · rintro ⟨a, b, c, d, e, f⟩
    exact ⟨a, b, fun x hx => by simpa [hx] using c, d, e, f⟩

theorem may_iff (op : Nat) (r : Req) (m : Module) (p : Priv) : May op r m p ↔
    (Admitted op r m ∧ m.lacks r.ctx p = false ∧ m.inBoot = false) :=
  ⟨fun ⟨a, b, c⟩ => ⟨a, b, c⟩, fun ⟨a, b, c⟩ => ⟨a, b, c⟩⟩

theorem hears_iff (ty : Nat) (f : RFrame) (m : Module) : Hears ty f m ↔
    (f.hcrcOk = true ∧ f.crcOk = true ∧ f.type = ty ∧ f.flags % 2 = 0 ∧ f.serial ≠ m.sys.serial ∧ f.epoch = m.rng.epoch ∧
      (f.dst = m.rng.addr ∨ f.dst = 0xFF) ∧ m.portShut f = false) :=
  ⟨fun ⟨a, b, c, d, e, g, h, i⟩ => ⟨a, b, c, d, e, g, h, i⟩, fun ⟨a, b, c, d, e, g, h, i⟩ => ⟨a, b, c, d, e, g, h, i⟩⟩

/-! ### A state for every hypothesis of the claims -/

def set (id v : Nat) (m : Module) : Module := m.onSet fun x => { x with scalars := tabPut none x.scalars id (some v) }
/-- Chain 0 is enabled with one monitor, its cells on tile 0, whose bank groups are powered. -/
def cm : Module :=
  (set 0x0210 1 (set 0x0200 1 tm)).onWft fun w => { w with
    tiles := [(0, { state := .live, groups := [0] })], doms := [(32, { state := 1 })] }
def room (n : Nat) (m : Module) : Module := m.putCtx 1 (some { priv := .safety, replyMax := n })
/-- A command that waits in context 1. -/
def wt (op : Nat) (p : List Nat) : Outst :=
  { id := 7, ctx := 1, tag := 9, opcode := op, seq := 1, urgent := false, payload := p.map (BitVec.ofNat 8) }
def waits (op : Nat) (p : List Nat) (m : Module) : Module := m.onCmd fun c => { c with outst := [wt op p], nextId := 8 }
/-- Flash may be written. -/
def okm (m : Module) : Module := m.onHk fun h => { h with windowOpen := true, holdup := false }
/-- A pick that has been taken and not released. -/
def inPick (m : Module) : Module := m.onPck fun p => { p with running := true, released := false }

theorem wit_DroppedRequests :
    reqOf (.modeGet (rq [])) = some (0x0010, rq []) ∧ tm.outst? tm.cmd.nextId = none ∧ tm.deaf = false ∧
    (tm.onRng fun r => { r with addr := 64 }).deaf = true ∧ (tm.onUpd fun u => { u with dead := true }).deaf = true ∧
    tm.wantTrailer 0x0010 { rq [] with trailer := some (zeros 16) } ≠ some (zeros 16) ∧
    (∀ c, tm.ctx? 1 = some c → c.macFails < 7) ∧ tm.wantTrailer 0x0010 (rq []) = (rq []).trailer ∧
    (∀ c, (tm.putCtx 1 (some { highSeq := 1 })).ctx? 1 = some c → (rq []).seq ≤ c.highSeq) ∧
    (∀ c, tm.ctx? 1 = some c → c.highSeq < (rq []).seq) ∧
    (tm.onCmd fun c => { c with outst := (List.range 64).map fun k => { wt 0x0010 [] with id := k, tag := k + 2 } }).queueRefusal
      0x0010 (rq []) = some .queueFull := by
  refine ⟨rfl, rfl, rfl, rfl, rfl, by decide, ?_, rfl, ?_, ?_, by decide⟩ <;>
    (intro c h; cases h; decide)

theorem wit_ModesExcludeEachOther :
    (mode .dispatch tm).sys.mode = .dispatch ∧ Admitted 0x0011 (rq [4, 0, 0, 0]) (mode .dispatch tm) ∧
    modeOf (byteAt (rq [4, 0, 0, 0]).payload 0) = some .formation ∧ modeOf (byteAt (rq [3, 0, 0, 0]).payload 0) = some .dispatch ∧
    (mode .dispatch tm).lacks 1 .operate = false ∧ (mode .dispatch tm).sys.pending = none := by
  simp only [admitted_iff]
  and_intros <;> decide +kernel

theorem wit_OutstandingTagsDropped :
    let m := waits 0x0011 [] tm
    let r := { rq [] with tag := 9 }
    reqOf (.modeGet r) = some (0x0010, r) ∧ m.outst? m.cmd.nextId = none ∧ m.deaf = false ∧ m.wantTrailer 0x0010 r = r.trailer ∧
    (m.ctx? 1).all (fun c => decide (c.highSeq < r.seq)) = true ∧ ∃ o ∈ m.cmd.outst, o.ctx = r.ctx ∧ o.tag = r.tag ∧ o.live = true := by
  decide

theorem wit_ServiceBusRecovery :
    (tm.onSvc fun v => { v with state := .target }).svc.state = .target ∧
    (tm.onSvc fun v => { v with state := .recovering }).svc.state = .recovering ∧
    tm.svc.state ≠ .target ∧ tm.svc.state ≠ .controller ∧ tm.svc.state ≠ .recovering := by decide

theorem wit_SystemAngleWarpReaders :
    -- SYS_IDENT_GET, and SET_READ of a scalar, of a bulk setting and of the shadow
    Admitted 0x0000 (rq []) tm ∧ 24 ≤ tm.replyRoom 1 ∧
    May 0x0100 (rq [5, 2, 0, 0]) tm .observe ∧ (setSpec? 0x0205).any (fun p => p.bulk = 0) = true ∧
    May 0x0100 (rq [0xF0, 3, 0, 0]) (room 4096 tm) .observe ∧
    (setSpec? 0x03F0).any (fun p => decide (p.bulk ≠ 0 ∧ 4 + (bulkBytes p none).length ≤ (room 4096 tm).replyRoom 1)) = true ∧
    (tm.onSet fun s => { s with txn := some { owner := 1, gen0 := 1 } }).set.txn = some { owner := 1, gen0 := 1 } ∧
    -- TXN_STATUS_GET, BULK_STATUS_GET, BULK_READ
    May 0x0113 (rq []) tm .observe ∧ tm.set.txn = none ∧ (tm.ctx? 1).isSome ∧
    May 0x0A11 (rq [0, 0, 0, 0, 0, 0, 0, 0, 4, 0, 0, 0]) tm .observe ∧ 0 < tm.bulk.pages ∧ tm.pageOwner 0 = .host ∧
    -- the readers of the angle unit; the cycle of GRID_INDEX_AT from treadle angle 0 on, and one from within a cycle
    May 0x0010 (rq []) tm .observe ∧ May 0x0900 (rq []) tm .observe ∧ May 0x0904 (rq []) tm .observe ∧
    May 0x0902 (rq []) tm .observe ∧ 28 ≤ tm.replyRoom 1 ∧
    (let m := (tm.onRng fun r => { r with plant := some (0, 0) }).onAng fun a => { a with cycle := 80000000 };
      May 0x0903 (rq [1, 0, 0, 0, 0, 0, 0, 0]) m .observe ∧ m.rng.plant.isSome ∧ 0 < m.runCycle ∧ m.angNow.treadle = 0 ∧
        (m.taken (rq [])).plantNow ≤ 1 ∧ 4 * (1 - 0) ≤ 1 * m.runCycle ∧ ∀ j < 1, j * m.runCycle < 4 * (1 - 0)) ∧
    (let m := (tm.onRng fun r => { r with plant := some (0, 0) }).onAng fun a => { a with cycle := 80000000, treadle := 5 };
      0 < m.runCycle ∧ m.angNow.treadle ≠ 0) ∧
    -- the chain readers
    May 0x0200 (rq [15, 0, 0, 0]) tm .observe ∧ May 0x0201 (rq [0, 0, 0, 0]) tm .observe ∧
    May 0x0205 (rq [15, 0, 0, 0]) tm .observe ∧ May 0x0206 (rq []) tm .observe ∧ 528 ≤ tm.replyRoom 1 := by
  simp only [may_iff, admitted_iff]
  and_intros <;> decide +kernel

theorem wit_EstimatorLoopReaders :
    May 0x0300 (rq []) cm .observe ∧ May 0x0301 (rq [15, 0, 1, 0]) cm .observe ∧ cm.cellRange 15 1 = true ∧
    (∀ p ∈ cm.cellTiles, cm.bankUp (2 * p.2 + 1) ∧ cm.bankUp (2 * p.2)) ∧
    (cm.cellTiles.find? (·.1 = 15)) = some (15, 0) ∧
    ((cm.onWft fun w => { w with doms := [(32, { state := 0 })] }).dom 32).state = 0 ∧ 32 ≤ cm.replyRoom 1 ∧
    May 0x0302 (rq [1, 0, 0, 0]) cm .observe ∧ May 0x0303 (rq [0, 0, 0, 0]) cm .engineer ∧
    (cm.cellRecord 0).length ≤ cm.replyRoom 1 ∧ May 0x0307 (rq [3, 0, 0, 0]) (room 4096 cm) .observe ∧
    May 0x0310 (rq []) cm .observe ∧ May 0x0311 (rq [0, 0, 16, 0]) cm .observe ∧ cm.cellRange 0 16 = true ∧
    May 0x0312 (rq [0, 0, 0, 0]) cm .observe ∧ May 0x0313 (rq [0, 0, 16, 0]) cm .observe ∧
    May 0x0314 (rq [1, 0, 0, 0]) cm .observe ∧ May 0x0320 (rq []) cm .observe ∧ May 0x0400 (rq []) cm .observe ∧
    May 0x0402 (rq [1, 15, 0, 0]) cm .observe ∧ (cm.onCom fun c => { c with staged := some (zeros 512) }).com.staged = some (zeros 512) ∧
    May 0x0407 (rq [7, 0, 0, 0]) cm .observe ∧ May 0x0501 (rq []) cm .observe ∧ May 0x0503 (rq [255, 0, 0, 0]) cm .observe ∧
    May 0x0505 (rq []) (room 65507 cm) .observe ∧ May 0x0507 (rq [15, 0, 0, 0]) (room 4096 cm) .observe ∧
    May 0x050C (rq [1, 0, 0, 0]) cm .observe ∧ (∀ n ∈ maskList 16 1, cm.chainEnabled n = true) ∧
    May 0x0600 (rq []) cm .observe ∧ May 0x0608 (rq []) cm .observe ∧ May 0x0609 (rq [254, 0, 2, 0]) cm .observe := by
  simp only [may_iff, admitted_iff, Module.bankUp]
  and_intros <;> decide +kernel

theorem wit_PeripheralReaders :
    May 0x0D00 (rq []) tm .observe ∧ May 0x0D01 (rq []) tm .observe ∧ May 0x0D04 (rq []) tm .observe ∧
    May 0x0B00 (rq [1, 0, 0, 0]) tm .observe ∧ May 0x0B02 (rq []) (room 65507 tm) .observe ∧
    May 0x0B03 (rq [1, 254, 2, 0]) tm .observe ∧ May 0x0B07 (rq []) tm .observe ∧ May 0x0700 (rq []) tm .observe ∧
    May 0x0702 (rq []) tm .observe ∧ May 0x0711 (rq []) tm .observe ∧ May 0x0800 (rq []) tm .observe ∧
    May 0x0720 (rq [0, 0, 0, 0, 1, 0, 0, 0]) tm .observe ∧ (tm.boltSection 0 0 1).isSome ∧
    May 0x0803 (rq [0, 0, 0, 0]) tm .observe ∧ May 0x0C00 (rq []) tm .observe ∧ May 0x0C01 (rq []) tm .observe ∧
    May 0x0C02 (rq []) tm .observe ∧ May 0x0C04 (rq []) tm .observe ∧
    May 0x0713 (rq [0, 0, 1, 0]) (cm.onRep fun r => { r with ended := true }) .observe ∧ cm.cellRange 0 1 = true := by
  simp only [may_iff, admitted_iff]
  and_intros <;> decide +kernel

theorem wit_RegisterAccess :
    -- a register, the first and the last; a low half, its high half fresh, at 1 ms and stale
    May 0x0120 (rq [0, 0, 0, 0, 1, 0, 0, 0]) tm .observe ∧ 8 ≤ tm.replyRoom 1 ∧ 0x11FFFC % 4 = 0 ∧ 0x11FFFC < 0x120000 ∧
    (∃ off, lowHalf off = true ∧ off % 4 = 0 ∧ off < 0x120000 ∧ lowHalf (off + 4) = false ∧ isCounter (off + 4) = false) ∧
    (∃ off, isCounter off = true ∧ off % 4 = 0 ∧ ¬(4 ≤ off ∧ lowHalf (off - 4) = true)) ∧
    max tm.sys.clock 4000000 ≤ 0 + 4000000 ∧ 0 + 4000000 < max tm.sys.clock 4000001 ∧
    May 0x0122 (rq [0, 0, 4, 0]) tm .observe ∧ 0x040000 % 0x10000 + 8 ≤ 0x10000 ∧ isCounter 0x040000 = false ∧
    isCounter 0x040004 = false ∧ ((tm.taken (rq [])).regRest 0x040000) = tm.taken (rq []) ∧
    May 0x0121 (rq [0, 0, 1, 0, 0, 0, 0, 0]) tm .engineer ∧ 0x080000 / 0x10000 = 8 ∧
    ¬(0x010000 ≤ 0x0100D0 ∧ 0x0100D0 < 0x0100D0) ∧ ¬(0x020000 ≤ 0x020110 ∧ 0x020110 < 0x020110) := by
  simp only [may_iff, admitted_iff]
  refine ⟨by decide, by decide, by decide, by decide, ⟨0x040038, by decide⟩, ⟨0x040050, by decide⟩, ?_⟩
  decide

theorem wit_ContextLifecycle :
    (let m := tm.onCom fun c => { c with keys := [(0, { key := some [1] })] };
      Admitted 0x0001 (rq ([0, 0, 0xC0, 5] ++ List.replicate 20 0)) m ∧ (m.roleKey 0).isSome ∧ m.roleKey 3 = none) ∧
    field (rq [0, 0, 0xC0, 5]).payload 2 2 = 1472 ∧ field (rq [0, 0, 0xE3, 0xFF]).payload 2 2 = 65507 ∧
    byteAt (rq [0xFF, 0, 0, 0]).payload 0 = 0xFF ∧ Admitted 0x0002 (rq (List.replicate 16 0)) tm ∧ Admitted 0x0003 (rq []) tm ∧
    (let m := (tm.putCtx 1 (some { role := some 0 })).onCom fun c => { c with keys := [(0, { key := some [1] })] };
      Admitted 0x0002 (rq (List.replicate 16 0)) m ∧
      (m.ctx? 1).all (fun c => c.role = some 0 && !c.authed && decide (1472 ≤ c.replyMax)) = true ∧ (m.roleKey 0).isSome) := by
  simp only [admitted_iff]
  and_intros <;> decide +kernel
/-- A proof that is right, and one that is wrong, of CTX_AUTH: `p` is either. -/
theorem wit_authProof (x : Bytes) (h : x.length = 16) : ∃ p : Bytes, p.length = 16 ∧ p ≠ x := by
  refine ⟨x.map (· + 1), by simpa using h, fun e => ?_⟩
  cases x with
  | nil => simp at h
  | cons a l => simp at e

theorem wit_AbortsEventsAndRefusals :
    (let m := waits 0x0011 [4, 0, 0, 0] tm;
      Admitted 0x0004 (rq [9, 0, 0, 0]) m ∧ m.inBoot = false ∧ 4 ≤ m.replyRoom 1 ∧
      (m.cmd.outst.find? fun o => o.ctx = 1 && o.tag = 9 && o.live) = some (wt 0x0011 [4, 0, 0, 0]) ∧
      m.executing (wt 0x0011 [4, 0, 0, 0]) = false ∧ m.executing { wt 0x0111 [] with fixed := true } = true) ∧
    (tm.cmd.outst.find? fun o => o.ctx = 1 && o.tag = 9 && o.live) = none ∧ Admitted 0xFFFF (rq []) tm ∧
    malformed [] false = true ∧ malformed (zeros 1473) false = true ∧ malformed [] true = true ∧
    May 0x0005 (rq (List.replicate 64 0)) tm .observe ∧ (tm.ctx? 1).isSome ∧
    ((tm.putCtx 1 (some { waiting := [{ event := 1, count := 1, time := 0, pick := 0 }] })).ctx? 1).any (fun c => decide (c.waiting ≠ [])) = true ∧
    (tm.ctx? 1).all (fun c => decide (c.waiting = [])) = true := by
  simp only [may_iff, admitted_iff]
  and_intros <;> decide +kernel

theorem wit_BulkWindow :
    May 0x0A10 (rq ([255, 0, 0, 0, 0xFC, 0xFF, 0, 0, 4, 0, 0, 0] ++ List.replicate 4 1)) tm .operate ∧
    255 < tm.bulk.pages ∧ 0xFFFC + 4 ≤ 65536 ∧ tm.pageOwner 255 = .host ∧
    (tm.ownPages [255] (.command 3)).pageOwner 255 ≠ .host ∧
    May 0x0A01 (rq [254, 0, 0, 0, 2, 0, 0, 0]) tm .observe ∧ 254 + 2 ≤ tm.bulk.pages ∧
    (∀ i < 2, tm.pageOwner (254 + i) = .host) ∧ May 0x0A02 (rq []) tm .observe ∧ (tm.ctx? 1).isSome ∧ 2 ≤ tm.replyRoom 1 ∧
    (let b : BulkOut := { id := 7, ctx := 1, status := .done, data := zeros 4, needed := true };
      let m := (waits 0x0721 [] (tm.putCtx 1 (some { given := [3, 4] }))).onCmd fun c => { c with bulkOut := [b] };
      (m.cmd.outst.find? fun o => o.ctx = 1 && o.tag = 9 && o.live) = some (wt 0x0721 []) ∧
      (m.cmd.bulkOut.find? fun x => x.id = 7) = some b ∧ b.needed = true ∧ (m.ctx? 1).any (fun c => decide (c.given ≠ [])) = true) := by
  simp only [may_iff, admitted_iff]
  and_intros <;> decide +kernel

/-- What is written into the window is read from it, so the loads find their bytes. -/
theorem readPages_back (d : Bytes) (h : ceilDiv d.length 65536 ≤ 256) : (tm.winWrite 0 d).readPages 0 d.length = .ok d := by
  have hp : ∀ p, (tm.winWrite 0 d).pageOwner p = .host := fun _ => rfl
  have h1 : ¬(0 + (pageRange 0 d.length).length > (tm.winWrite 0 d).bulk.pages) := by
    have : (tm.winWrite 0 d).bulk.pages = 256 := rfl
    simp [pageRange, this]; exact h
  have h2 : ((pageRange 0 d.length).any fun p => decide ((tm.winWrite 0 d).pageOwner p ≠ .host)) = false := by simp [hp]
  simp only [Module.readPages, if_neg h1, h2, Bool.false_eq_true, if_false]
  congr 1
  apply List.ext_getElem (by simp [Module.winRead])
  intro i hi hd
  have := memWrite_same d tm.bulk.mem 0 i hd
  simp only [Module.winRead, List.getElem_map, List.getElem_range, Nat.zero_mul, Nat.zero_add] at *
  rw [List.getD_eq_getElem?_getD, List.getElem?_eq_getElem hd] at this
  exact this

/-- Chain 0 enabled, as every commit needs. -/
def em : Module := set 0x0210 1 (set 0x0200 1 tm)

theorem wit_SettingsAndTransactions :
    May 0x0101 (rq [5, 2, 0, 0, 1, 0, 0, 0]) em .engineer ∧ setInRange 0x0205 1 = true ∧
    May 0x0306 (rq [3, 0, 0, 0, 0, 0, 0, 0]) em .engineer ∧ May 0x0504 (rq (List.replicate 8 0)) em .engineer ∧
    May 0x0506 (rq [15, 0, 0, 0, 0, 0, 0, 0]) em .engineer ∧ May 0x0B01 (rq (List.replicate 8 0)) em .engineer ∧
    May 0x0C03 (rq []) (mode .commission em) .engineer ∧ em.set.txn = none ∧
    (em.taken (rq [])).commitRefusal { owner := 1, single := true, gen0 := 1, writes := [(0x0205, some 1)] } = none ∧
    ((em.taken (rq [])).commitRefusal { owner := 1, single := true, gen0 := 1, writes := [(0x0200, some 0)] }).isSome ∧
    May 0x0110 (rq []) em .engineer ∧ May 0x0111 (rq []) em .engineer ∧ May 0x0112 (rq []) em .engineer ∧
    (let t : Txn := { owner := 1, gen0 := 1, writes := [(0x0205, some 1)] };
      let m := em.onSet fun s => { s with txn := some t };
      m.set.txn = some t ∧ t.owner = 1 ∧ t.committing = none ∧ t.ids ≠ [] ∧
      ((m.taken (rq [])).touchTxn 1).commitRefusal { t with last := 0 } = none ∧
      (((m.taken (rq [])).touchTxn 1).commitRefusal { t with writes := [(0x0200, some 0)] }).isSome) ∧
    em.saved = false ∧ (em.onHk fun h => { h with windowOpen := true }).flashOk = true ∧
    (em.onHk fun h => { h with windowOpen := false }).flashOk = false ∧ em.set.unsaved = false ∧
    (let t : Txn := { owner := 1, gen0 := 1, writes := [(0x0205, some 1)], committing := some 7 };
      let m := inPick (em.onSet fun s => { s with txn := some t });
      m.atBoundary = true ∧ m.txnDue = true ∧ m.modeFails t = [] ∧ (em.onSet fun s => { s with txn := some t }).atBoundary = false ∧
      (mode .dispatch m).modeFails { t with writes := [(0x0200, some 1)] } ≠ []) := by
  simp only [may_iff, admitted_iff]
  and_intros <;> decide +kernel

theorem wit_ResetsAndBoot :
    State.reset.m.inBoot = true ∧ State.reset.m.upd.dead = false ∧ State.reset.m.com.held = none ∧ State.reset.m.com.armed = none ∧
    State.reset.m.upd.settingsReset = false ∧ State.reset.m.upd.trial = false ∧
    (tm.onHk fun h => { h with holdup := true }).hk.holdup = true ∧ tm.hk.holdup = false ∧ tm.inBoot = false ∧
    (tm.onUpd fun u => { u with state := .activating }).upd.state = .activating ∧ tm.upd.state ≠ .activating ∧
    2 ≤ ([3, 6, 0].filter (· ≠ 0)).length ∧ ¬(2 ≤ ([3, 0, 0].filter (· ≠ 0)).length) := by
  and_intros <;> decide +kernel

theorem wit_ModeRequestsAndTransitions :
    Admitted 0x0011 (rq [1, 0, 0, 0]) tm ∧ modeOf 1 = some .commission ∧
    (tm.taken (rq [])).modeRow .commission = some (.safety, true) ∧ tm.lacks 1 .safety = false ∧ tm.sys.pending = none ∧
    ((mode .commission tm).taken (rq [])).modeRow .dispatch = none ∧
    ((mode .commission tm).taken (rq [])).modeRow .standby = some (.safety, false) ∧
    (let p : PendMode := { target := .commission, cmd := some 7, ctx := 1, reset := false };
      let m := (waits 0x0011 [1, 0, 0, 0] tm).onSys fun y => { y with pending := some p };
      m.sys.pending = some p ∧ m.outst? 7 = some (wt 0x0011 [1, 0, 0, 0]) ∧ (wt 0x0011 [1, 0, 0, 0]).live = true ∧
      m.safeCause = none ∧ m.sys.sealSeen = false ∧ m.seenClear.modeRow p.target = some (.safety, true) ∧
      (mode .dispatch m).seenClear.modeRow p.target = none ∧
      (m.onSys fun y => { y with tripSeen := true }).safeCause = some 2 ∧
      (mode .dispatch m).sys.mode ≠ .safeHold) ∧
    (let m := mode .safeHold (tm.onHk fun h => { h with dieLast := some 0 });
      Admitted 0x0012 (rq []) m ∧ m.sys.mode = .safeHold ∧ m.causeCleared = true) ∧ State.reset.m.inBoot = true := by
  simp only [admitted_iff]
  and_intros <;> decide +kernel

theorem wit_BoundaryCommands :
    May 0x0304 (rq [0, 0, 16, 0, 0x80, 3, 0, 0]) cm .engineer ∧ cm.cellRange 0 16 = true ∧ 0x0380 &&& 0x0380 = 0x0380 ∧
    May 0x0315 (rq [0, 0, 1, 0, 15, 0, 0, 0]) cm .engineer ∧ May 0x0316 (rq [15, 0, 1, 0]) cm .operate ∧ cm.cellRange 15 1 = true ∧
    May 0x0317 (rq []) cm .operate ∧ May 0x0305 (rq [0, 0, 16, 0]) cm .engineer ∧
    cm.sys.mode ∈ [Mode.commission, .standby, .safeHold] ∧
    (let m := inPick (waits 0x0500 [1, 0, 0, 0] (mode .dispatch tm));
      (m.cmd.outst.find? fun o => decide (o.ctx = 1 ∧ o.tag = 9 ∧ o.opcode ∈ boundaryOps)) = some (wt 0x0500 [1, 0, 0, 0]) ∧
      m.drf.stepTask = none ∧ m.outst? 7 = some (wt 0x0500 [1, 0, 0, 0]) ∧ m.atBoundary = true ∧
      m.rankFree (boundaryRank 0x0500) = true ∧ m.sys.mode = .dispatch ∧ m.inBoot = false ∧ (mode .boot m).inBoot = true) ∧
    (waits 0x0500 [] tm).atBoundary = false ∧ (inPick tm).rankFree 1 = true ∧
    (let t : Txn := { owner := 1, gen0 := 1, committing := some 3 };
      (inPick (tm.onSet fun s => { s with txn := some t })).rankFree (boundaryRank 0x0304) = false) := by
  simp only [may_iff, admitted_iff]
  and_intros <;> decide +kernel

theorem leNat_leBytes : ∀ (n v : Nat), leNat (leBytes n v) = v % 256 ^ n
  | 0, v => by simp [leBytes, leNat, Nat.mod_one]
  | n + 1, v => by
    rw [leBytes, leNat, leNat_leBytes n, Nat.pow_succ, Nat.mul_comm (256 ^ n), Nat.mod_mul]; simp
theorem leNat_le4 (v : Nat) (h : v < 2 ^ 32) : leNat (leBytes 4 v) = v := by
  rw [leNat_leBytes]; exact Nat.mod_eq_of_lt (Nat.lt_of_lt_of_eq h (by decide))
theorem leBytes_length : ∀ (n v : Nat), (leBytes n v).length = n
  | 0, _ => rfl
  | n + 1, v => by simp [leBytes, leBytes_length n]
theorem crcBit_lt (c : Nat) (h : c < 2 ^ 32) : crcBit 0x82F63B78 c < 2 ^ 32 := by
  unfold crcBit
  split
  · exact Nat.xor_lt_two_pow (by omega) (by decide)
  · omega
theorem crc32c_lt (b : Bytes) : crc32c b < 2 ^ 32 := by
  refine Nat.xor_lt_two_pow ?_ (by decide)
  generalize hc : (0xFFFFFFFF : Nat) = c
  have : c < 2 ^ 32 := by omega
  clear hc
  induction b generalizing c with
  | nil => exact this
  | cons x l ih =>
    refine ih _ ?_
    have hx := x.isLt
    unfold crcByte
    iterate 8 refine crcBit_lt _ ?_
    exact Nat.xor_lt_two_pow this (by omega)
/-- A body that carries its own CRC is intact. -/
theorem crcOk_withCrc (b : Bytes) : crcOk (withCrc b) = true := by
  have hl := leBytes_length 4 (crc32c b)
  simp [crcOk, withCrc, field, hl]
  rw [List.take_of_length_le (by omega), leNat_le4 _ (crc32c_lt b)]
/-- The CRC of a loop table, a recipe or a map at its bytes 28 to 31. -/
def sealed (b : Bytes) : Bytes := b.take 28 ++ leBytes 4 (crc32c (b.take 28 ++ b.drop 32)) ++ b.drop 32
theorem sealed_crc (b : Bytes) (h : 32 ≤ b.length) :
    field (sealed b) 28 4 = crc32c ((sealed b).take 28 ++ (sealed b).drop 32) := by
  have hl := leBytes_length 4 (crc32c (b.take 28 ++ b.drop 32))
  have ht : (b.take 28).length = 28 := by simp; omega
  have h1 : (sealed b).take 28 = b.take 28 := by simp [sealed, ht]
  have h2 : (sealed b).drop 32 = b.drop 32 := by simp [sealed, List.drop_append, ht, hl]
  rw [h1, h2]
  have h3 : ((sealed b).drop 28).take 4 = leBytes 4 (crc32c (b.take 28 ++ b.drop 32)) := by
    simp [sealed, ht, hl]
  rw [field, h3, leNat_le4 _ (crc32c_lt _)]

/-- A valid pack and recipe. -/
def pack : Bytes :=
  let f := [100, 1, 1, 100, 10, 1, 1, 1, 0, 4, 2, 100, 100, 0, 60, 0, 60, 1, 1, 100, 1, 1000].flatMap fun q => fBytes (fOfNat q)
  withCrc ([0x43, 0x50, 0x4B, 1] ++ zeros 20 ++ (List.range 5).flatMap (fun t => leBytes 2 (t * 100)) ++ zeros 2
    ++ ((List.range 5).flatMap (fun _ => (List.range 101).flatMap fun s => leBytes 3 (3000000 + 5000 * s)) ++ [0])
    ++ (List.range 101).flatMap (fun s => leBytes 2 (500 - s)) ++ zeros 2 ++ f ++ zeros 200)
def recipe1 : Bytes := sealed ([0x52, 0x43, 0x50, 1] ++ leBytes 4 1 ++ zeros 2072)

theorem pack_ocv (t : Fin 5) : ((List.range 100).all fun s => decide (packOcv pack t s < packOcv pack t (s + 1))) = true :=
  match t with
  | 0 => by decide +kernel
  | 1 => by decide +kernel
  | 2 => by decide +kernel
  | 3 => by decide +kernel
  | 4 => by decide +kernel
theorem pack_anode : ((List.range 100).all fun s => decide (packAnode pack (s + 1) ≤ packAnode pack s)) = true := by decide +kernel
theorem pack_finite : ((List.range 22).all fun i => fFinite (packF pack i)) = true := by decide +kernel
theorem wit_pack : packOk pack = true := by
  simp only [packOk, Bool.and_eq_true, and_assoc]
  refine ⟨by decide +kernel, by decide +kernel, crcOk_withCrc _, by decide +kernel,
    List.all_eq_true.2 fun t h => pack_ocv ⟨t, List.mem_range.1 h⟩, pack_anode, pack_finite, ?_⟩
  and_intros <;> decide +kernel
theorem recipe1_crc : field recipe1 28 4 = crc32c (recipe1.take 28 ++ recipe1.drop 32) := by
  unfold recipe1; exact sealed_crc _ (by rw [zeros, List.length_append, List.length_replicate]; omega)
theorem recipe1_head : recipe1.length = 2080 ∧ recipe1.take 4 = [0x52, 0x43, 0x50, 0x01] := by decide +kernel
theorem recipe1_steps : (decide (1 ≤ recipeSteps recipe1 ∧ recipeSteps recipe1 ≤ 64)
    && (List.range (recipeSteps recipe1)).all (fun k => stepOk recipe1 k) && stType (stepOf recipe1 (recipeSteps recipe1 - 1)) = 0) = true := by
  decide +kernel
theorem wit_recipe : recipeOk true recipe1 = true := by
  have h := recipe1_steps
  rw [Bool.and_eq_true, Bool.and_eq_true] at h
  rw [recipeOk, decide_eq_true (⟨recipe1_head.1, recipe1_head.2, recipe1_crc⟩ : _ ∧ _ ∧ _), h.1.1, h.1.2, h.2, Bool.true_or]; rfl

/-- A table with its header and CRC alone. -/
def blank (h : Bytes) (k : Nat) : Bytes := sealed (h ++ zeros k)
theorem blank_crc (h : Bytes) (k : Nat) (hk : 28 ≤ k) (h4 : h.length = 4) :
    field (blank h k) 28 4 = crc32c ((blank h k).take 28 ++ (blank h k).drop 32) :=
  sealed_crc _ (by rw [zeros, List.length_append, List.length_replicate]; omega)
theorem blank_length (h : Bytes) (k : Nat) (hk : 28 ≤ k) (h4 : h.length = 4) : (blank h k).length = k + 4 := by
  rw [blank, sealed, List.length_append, List.length_append, List.length_take, List.length_drop, leBytes_length, List.length_append,
    zeros, List.length_replicate]; omega
theorem blank_drop (h : Bytes) (k o : Nat) (hk : 28 ≤ k) (h4 : h.length = 4) (ho : 32 ≤ o) :
    (blank h k).drop o = List.replicate (k - 28 - (o - 32)) 0 := by
  have ht : ((h ++ zeros k).take 28).length = 28 := by
    rw [List.length_take, zeros, List.length_append, List.length_replicate]; omega
  have hl : ((h ++ zeros k).take 28 ++ leBytes 4 (crc32c ((h ++ zeros k).take 28 ++ (h ++ zeros k).drop 32))).length = 32 := by
    rw [List.length_append, ht, leBytes_length]
  have h2 : (blank h k).drop 32 = List.replicate (k - 28) 0 := by
    rw [blank, sealed, List.drop_append, List.drop_of_length_le (by omega), hl, List.nil_append, Nat.sub_self, List.drop_zero,
      List.drop_append, List.drop_of_length_le (by omega), List.nil_append, h4, zeros, List.drop_replicate]
  rw [← List.drop_replicate, ← h2, List.drop_drop]; congr 1; omega
theorem blank_byte (h : Bytes) (k o n i : Nat) (hk : 28 ≤ k) (h4 : h.length = 4) (ho : 32 ≤ o) :
    byteAt (((blank h k).drop o).take n) i = 0 := by
  rw [blank_drop h k o hk h4 ho, List.take_replicate, byteAt, List.getD_eq_getElem?_getD, List.getElem?_replicate]
  split <;> rfl
theorem wit_map : canMapOk (blank [0x43, 0x4D, 0x50, 1] 11292) = true := by
  have hb := fun o n i ho => blank_byte [0x43, 0x4D, 0x50, 1] 11292 o n i (by decide) rfl ho
  have h1 : (blank [0x43, 0x4D, 0x50, 1] 11292).take 4 = [0x43, 0x4D, 0x50, 0x01] := by decide +kernel
  have hh : mapHeaderOk (blank [0x43, 0x4D, 0x50, 1] 11292) = true :=
    decide_eq_true ⟨blank_length _ _ (by decide) rfl, h1, blank_crc _ _ (by decide) rfl⟩
  generalize blank [0x43, 0x4D, 0x50, 1] 11292 = b at *
  have h2 : mapFiltersOk b = true := by
    simp only [mapFiltersOk, List.all_eq_true]
    intro n _ f _
    rw [mapFilter, hb _ _ _ (by omega)]; rfl
  have h3 : ((List.range 256).filter fun s => decide (byteAt (mapTx b s) 0 = 1)) = [] := by
    rw [List.filter_eq_nil_iff]
    intro s _
    rw [mapTx, hb _ _ _ (by omega)]; decide
  have h4 : mapSignalsOk b = true := by
    unfold mapSignalsOk
    simp only [h3, List.all_nil, Bool.and_true]
    rw [List.all_eq_true]
    intro s _
    rw [mapRx, hb _ _ _ (by omega)]; rfl
  rw [canMapOk, hh, h2, h4]; rfl
theorem loops_of (b : Bytes) (h0 : b.length = 32800) (h1 : b.take 4 = [0x4C, 0x54, 0x42, 0x01])
    (h2 : field b 28 4 = crc32c (b.take 28 ++ b.drop 32)) (hb : ∀ o n i, 32 ≤ o → byteAt ((b.drop o).take n) i = 0) :
    loopTableOk b = true := by
  have hh : loopHeaderOk (some b) = true := decide_eq_true ⟨h0, h1, h2⟩
  rw [loopTableOk, hh, Bool.true_and, List.all_eq_true]
  intro l _
  have : byteAt (loopRec (some b) l) 0 = 0 := hb _ _ _ (by omega)
  simp [rowOn, this]
theorem wit_loops : loopTableOk (blank [0x4C, 0x54, 0x42, 1] 32796) = true := by
  have h0 := blank_length [0x4C, 0x54, 0x42, 1] 32796 (by decide) rfl
  have h2 := blank_crc [0x4C, 0x54, 0x42, 1] 32796 (by decide) rfl
  have h1 : (blank [0x4C, 0x54, 0x42, 1] 32796).take 4 = [0x4C, 0x54, 0x42, 0x01] := by decide +kernel
  exact loops_of _ h0 h1 h2 fun o n i ho => blank_byte _ _ o n i (by decide) rfl ho

/-- A tooth source with an estimate, its last tooth at 0, that does not drive the angles. -/
def ang1 (m : Module) : Module := m.onAng fun a => { a with
  state := .locked, active := 3, tooth := { cycle := some 80000000, pred := 80000000, last := some 0, ref := true } }

theorem wit_AngleEdges :
    (tm.ang.state = .acquiring ∧ (ang1 tm).ang.state ≠ .acquiring ∧ (ang1 tm).ang.state ≠ .holdover ∧ (ang1 tm).ang.waitForce = none) ∧
    (let m := set 0x0904 60 (set 0x0905 1 (ang1 tm));
      m.ang.tooth.cycle = some 80000000 ∧ m.ang.tooth.last = some 0 ∧ m.ang.tooth.idxWait = [] ∧ m.ang.active ≠ 1 ∧
      m.setting 0x0905 = 1 ∧ m.setting 0x0904 = 60 ∧ m.toothInterval 1 = 1333333 ∧ m.ang.tooth.ref = true ∧ m.ang.tooth.missRun < 2 ∧
      -- the last instant of a rejected edge, the first and the last accepted
      4 * (999999 - 0) * 60 < 3 * 80000000 ∧ 3 * 80000000 ≤ 4 * (1000000 - 0) * 60 ∧ 4 * (1666666 - 0) * 60 < 5 * 80000000 ∧
      m.ang.tooth.count + 1 < 60 + 2 ∧
      -- index edges at a quarter, beyond it, before half and at half of an interval
      4 * (333333 - 0) ≤ 1333333 ∧ 1333333 < 4 * (333334 - 0) ∧ 2 * (666666 - 0) < 1333333 ∧ 1333333 ≤ 2 * (666667 - 0)) ∧
    ((ang1 tm).onAng fun a => { a with tooth := {} }).ang.tooth.cycle = none ∧ (set 0x0905 0 tm).setting 0x0905 ≠ 1 ∧
    (tm.onHk fun h => { h with j1dc := true }).hk.j1dc = true ∧ (tm.onHk fun h => { h with j1dc := false }).hk.j1dc = false ∧
    tm.ang.mains.cycle = none ∧ tm.ang.mains.meas = none ∧
    (let m := tm.onAng fun a => { a with mains := { cycle := some 80000000, pred := 80000000, last := some 0 } };
      m.ang.mains.last = some 0 ∧ m.ang.active ≠ 2 ∧ m.mainsDelay ≤ 40000000 ∧
      8 * ((m.mainsDelay + 29999999) - m.mainsDelay - 0) < 3 * 80000000) := by
  and_intros <;> decide +kernel

theorem wit_AngleSources :
    (let m := set 0x0904 60 ((ang1 tm).onAng fun a => { a with active := 1 });
      m.ang.tooth.cycle = some 80000000 ∧ m.ang.tooth.last = some 0 ∧ m.ang.active = 1 ∧ m.ang.state = .locked ∧
      9 * 80000000 ≤ 4 * (3000000 - 0) * m.setting 0x0904) ∧
    (let m := set 0x0904 60 (ang1 tm);
      m.ang.active ≠ 1 ∧ m.ang.tooth.cycle = some 80000000 ∧ 16 * 80000000 ≤ 4 * (5333334 - 0) * m.setting 0x0904) ∧
    (tm.onAng fun a => { a with mains := { valid := true } }).ang.mains.valid = true ∧ tm.ang.active ≠ 2 ∧
    tm.ang.state = .acquiring ∧ (set 0x0901 1 (set 0x0900 1 tm)).validSource = none ∧
    (let m := set 0x0903 1 (set 0x0902 1 (set 0x0901 3 (set 0x0900 1 (tm.onAng fun a =>
        { a with state := .locked, active := 3, revert := 2, tooth := { valid := true } }))));
      m.ang.state = .locked ∧ m.ang.active = m.setting 0x0901 ∧ m.ang.active ≠ m.setting 0x0900 ∧ m.setting 0x0902 = 1 ∧
      m.ang.force = none ∧ m.sourceValid (m.setting 0x0900) = true ∧ m.setting 0x0903 < m.ang.revert) ∧
    (let m := tm.onAng fun a => { a with state := .slewing }; m.ang.state = .slewing ∧ m.ang.slew = 0) ∧
    (let m := tm.onAng fun a => { a with held := true };
      m.ang.held = true ∧ angleDiff (m.angTo 0).ang.treadle (m.angTo 0).ang.tracked ≤ 0) ∧
    (let m := (waits 0x0901 [1, 0, 0, 0] tm).onAng fun a => { a with waitForce := some { source := 1, cmd := 7 } };
      m.ang.waitForce = some { source := 1, cmd := 7 } ∧ m.outst? 7 = some (wt 0x0901 [1, 0, 0, 0])) := by
  and_intros <;> decide +kernel

theorem wit_ForceAndPicks :
    Admitted 0x0901 (rq [3, 0, 0, 0]) (ang1 tm) ∧ (ang1 tm).lacks 1 .engineer = false ∧
    (ang1 tm).sys.mode ∈ [Mode.commission, .standby, .safeHold] ∧ (ang1 tm).ang.waitForce = none ∧
    (ang1 tm).sourceValid 3 = true ∧ (ang1 tm).sourceValid 1 = false ∧ (ang1 tm).ang.state ≠ .acquiring ∧
    ((ang1 tm).onAng fun a => { a with waitForce := some { source := 1, cmd := 7 } }).ang.waitForce.isSome = true ∧
    (let m := (inPick tm).onPck fun p => { p with released := true };
      m.inBoot = false ∧ m.pck.placed = none ∧ m.pck.late = [] ∧ m.pck.running = true ∧ m.slotCommit = none ∧ m.pck.released = true) ∧
    (inPick tm).pck.running = true ∧ (inPick tm).pck.released = false ∧
    (tm.onPck fun p => { p with placed := some { instant := 1000000, slot := 0, late := true, jumped := false, held := true } }).pck.placed
      = some { instant := 1000000, slot := 0, late := true, jumped := false, held := true } := by
  simp only [admitted_iff]
  and_intros <;> decide +kernel

def chn (c : Chain) (m : Module) : Module := m.updChain 0 fun _ => c
def frame (b : List Nat) : WFrame := { body := withCrc (b.map (BitVec.ofNat 8)) }

theorem wit_ChainEnumeration :
    (chn { state := .training } tm).chain 0 = { state := .training } ∧ (tm.chain 15).state ≠ .training ∧
    (let c : Chain := { state := .loop, lockA := true }; ((chn c tm).chain 0).lockB = false ∧ ((chn c tm).chain 0).active = true ∧
      ((chn c tm).chain 0).lockA = true) ∧
    ((chn { state := .training } tm).chain 0).lockA = false ∧ tm.wrp.reenum = [] ∧
    ((chn { state := .enumerating } tm).chain 0).state = .enumerating ∧
    frameOk 0x10 12 (frame [0x10, 0, 0, 0, 2, 0, 0, 0]) = true ∧ frameOk 0x10 12 { frame [0x10, 0, 0, 0, 2, 0, 0, 0] with err := true } = false ∧
    frameOk 0x10 12 (frame []) = false ∧ frameOk 0x12 20 (frame (0x12 :: List.replicate 15 0)) = true ∧
    frameOk 0x14 8 (frame [0x14, 0, 0, 0]) = true ∧ frameOk 0x22 12 (frame [0x22, 0, 1, 0, 5, 0, 0, 0]) = true ∧
    (let m := tm.updChain 0 fun c => c.updDev 0 fun d => { d with echoA := List.replicate 7 9, echoB := List.replicate 7 9 };
      ((m.chain 0).dev 0).echoA.length = 7 ∧ ((m.chain 0).dev 0).echoB.length = 7) ∧
    (let m := chn { state := .down, lockA := true } cm;
      m.sys.mode ∈ [Mode.commission, .standby, .safeHold] ∧ (m.chain 0).state ∈ [ChainState.partial_, .fault, .down] ∧
      m.chainEnabled 0 = true ∧ m.chainEnabled 1 = false) := by
  and_intros <;> decide +kernel

theorem wit_PickDataAndBreaks :
    (let m := chn { state := .loop } cm;
      (m.chain 0).active = true ∧ (m.chain 0).shut = false ∧ frameOk 2 32 (frame (2 :: List.replicate 27 0)) = true ∧
      m.lateFrame 0 2 (frame (2 :: List.replicate 27 0)).body = false ∧ frameOk 3 98 (frame ([3, 32] ++ List.replicate 92 0)) = true ∧
      frameOk 3 98 (frame [3, 1]) = false ∧ frameOk 4 112 (frame ([4, 1] ++ List.replicate 106 0)) = true ∧
      m.lateFrame 0 4 (frame [4, 1]).body = false ∧ m.arrived 0 0 = false ∧ m.arrived 0 1 = false ∧
      ((chn { state := .loop, shut := true } cm).lateFrame 0 3 (frame [3, 1]).body = true)) ∧
    (let m := set 0x0340 1 (chn { state := .loop } cm); m.windowMode = true → m.expectedAddrs 0 = [0]) ∧
    (let m := (chn { state := .loop } cm).onWrp fun w => { w with
        frames := [(0, [frame (2 :: List.replicate 27 0)]), (1, [frame ([3, 1] ++ List.replicate 92 0)])] };
      ∀ a ∈ m.expectedAddrs 0, m.arrived 0 a = true) ∧
    (tm.chain 0).active = false ∧ ((chn { state := .broken } tm).chain 0).state = .broken ∧ (tm.chain 0).state ≠ .loop ∧
    (let m := (chn { state := .loop, breakDue := true } tm).onPck fun p =>
        { p with placed := some { instant := 9, slot := 0, late := false, jumped := false, held := false } };
      m.inBoot = false ∧ m.pck.placed.isSome ∧ (m.chain 0).state = .loop ∧ (m.chain 0).breakDue = true) ∧
    (let m := (chn { state := .loop } cm).updChain 0 fun c => c.updDev 1 fun d => { d with missRun := 3 };
      3 ≤ ((m.chain 0).dev 1).missRun ∧ (m.chain 0).active = true) ∧
    (let m := (chn { state := .partial_ } cm).updChain 0 fun c =>
        (c.updDev 0 fun d => { d with goodRun := 3 }).updDev 1 fun d => { d with goodRun := 3 };
      (m.chain 0).state = .partial_ ∧ ∀ a < m.monitors 0 + 1, 3 ≤ ((m.chain 0).dev a).goodRun) ∧
    (let m := chn { state := .broken, lockA := true, lockB := true } tm;
      (m.chain 0).state = .broken ∧ (m.chain 0).lockA = true ∧ (m.chain 0).lockB = true ∧ (m.chain 0).healing = false) ∧
    ((chn { state := .broken, healing := true } tm).chain 0).healing = true := by
  and_intros <;> decide +kernel

theorem wit_WarpRequestsAndBalancing :
    (let m := chn { state := .loop } cm;
      May 0x0202 (rq [0, 0, 0, 0]) m .engineer ∧ (m.chain 0).usable = true) ∧
    (let m := chn { state := .down } cm;
      May 0x0203 (rq [1, 0, 0, 0]) m .engineer ∧ (∀ n ∈ maskList 16 1, m.chainEnabled n = true) ∧ m.sys.mode = .standby ∧
      (∀ n ∈ maskList 16 1, (m.chain n).state ∈ [ChainState.partial_, .fault, .down])) ∧
    (let m := set 0x0205 1 (chn { state := .loop } cm);
      May 0x0204 (rq [1, 0, 0, 0, 0, 1, 1, 0, 0, 0, 0, 0]) m .operate ∧ 1 ≤ m.monitors 0 ∧ m.chainEnabled 0 = true ∧
      popCount 16 1 ≤ m.setting 0x0206 ∧ (m.chain 0).usable = true ∧ ((m.chain 0).dev 1).status.testBit 4 = false ∧
      (∀ n < 16, m.monitors n ≤ 32) ∧ m.sys.mode ≠ .safeHold ∧ m.setting 0x0205 ≠ 0 ∧ m.balSource 1 = true) ∧
    frameOk 0x31 12 (frame [0x31, 1, 1, 0, 4, 0, 0, 0]) = true ∧
    (let q : BalReq := { cmd := 7, start := 4, targets := [(1, 1, 5)] };
      let m := (waits 0x0204 [] cm).onWrp fun w => { w with balReqs := [q] };
      m.wrp.balReqs = [q] ∧ (q.targets.all fun t => decide (t.1 ∈ q.acked)) = false ∧ m.outst? 7 = some (wt 0x0204 [])) ∧
    (set 0x0205 0 cm).balSource 0 = false ∧ ((cm.chain 0).dev 1).status.testBit 4 = false ∧
    ((cm.updChain 0 fun c => c.updDev 1 fun d => { d with status := 16 }).chain 0).dev 1 = { status := 16 } ∧
    (let b : OutBuf := { cells := [(0, some { flags := 1, init := true, out := [0x3F000000, 0, 0, 0] }),
        (1, some { flags := 1, init := true, out := [0x3F800000, 0, 0, 0] })] };
      let m := (set 0x0208 10 (set 0x0205 2 (chn { state := .partial_ } cm))).onEst fun e => { e with even := b };
      m.setting 0x0205 = 2 ∧ m.sys.mode ∈ [Mode.commission, .standby, .dispatch] ∧ (m.chain 0).active = true ∧ m.monitors 0 = 1 ∧
      (m.stringCells 0).filterMap (fun c => m.cellSoc c) ≠ [] ∧ (m.balOf 1).warm = false ∧ m.setting 0x0208 ≠ 0) := by
  simp only [may_iff, admitted_iff]
  and_intros <;> decide +kernel

/-- Cell 0 as given. -/
def cl (x : Cell) (m : Module) : Module := m.updCell 0 fun _ => x
theorem wit_EstimatorConditions :
    (let m := (inPick cm).onPck fun p => { p with released := true };
      m.inBoot = false ∧ m.pck.running = true ∧ m.pck.released = true ∧ m.est.stepPick ≠ some m.pck.index ∧ m.cellPick = true) ∧
    (inPick cm).pck.released = false ∧ State.reset.m.inBoot = true ∧
    (let x : Cell := { init := true, noV := secs 10, flags := 512, hyps := [{}, {}, {}, {}], reseed := [secs 65535, 0, 0, 0] };
      let m := cl { x with timers := [fq 60 1, fq 4000000 1, fq 300 1, fq 300 1] } cm;
      (m.cell 0).init = true ∧ fLe (fq 60 1) ((m.cell 0).timers.getD 0 0) = true ∧
      fLe (m.setF 0x0318 1) ((m.cell 0).timers.getD 1 0) = true ∧ fLe (fq 300 1) ((m.cell 0).timers.getD 2 0) = true ∧
      fLe (fq 300 1) ((m.cell 0).timers.getD 3 0) = true ∧ (m.cell 0).flags.testBit 6 = false ∧ (m.cell 0).flags.testBit 7 = false ∧
      (m.cell 0).flags.testBit 8 = false ∧ (m.cell 0).flags.testBit 9 = true ∧ secs 10 ≤ (m.cell 0).noV ∧
      0 < (m.cell 0).hyps.length ∧ secs (m.setting 0x0316) ≤ (m.cell 0).reseed.getD 0 0) ∧
    fLe (cm.setF 0x0319 1000) (fq 4000000 1) = true ∧ fLe (fq 135 100) (fq 135 100) = true ∧
    (let m := cm.updStr 0 fun s =>
        { s with lost := true, lostRun := 4, span := some (Span.mk 0 0 0 false 0 none 0), cap := 2, rest := secs 60 + 1 };
      (m.str 0).lost = true ∧ 4 ≤ (m.str 0).lostRun ∧ (m.str 0).span.isSome ∧ (m.str 0).cap ≠ 0 ∧ secs 60 < (m.str 0).rest) ∧
    secs 60 ≤ ((cm.onEst fun e => { e with ntc := [(ntcKey 0 1 0, { noT := secs 60 })] }).ntc (ntcKey 0 1 0)).noT ∧
    (let m := set 0x0330 7 (mode .dispatch cm); m.rippleOn = true ∧ m.pck.index % (m.pickK * m.setting 0x0336) = 0) ∧
    (mode .commission cm).rippleOn = false := by
  and_intros <;> decide +kernel

/-- Slot 0 of the packs holds a valid one. -/
def pm : Module := cm.onSet fun s => { s with bulk := [(0x03F0, some pack)] }
theorem pm_pack (m : Module) (h : m.setting 0x0300 = 0) (hb : m.set.bulk = pm.set.bulk) : m.strPack 0 = some pack := by
  have : tabGet none m.set.bulk (0x03F0 + 0) = some pack := by rw [hb]; rfl
  rw [Module.strPack, show m.setting (0x0300 + 0) = 0 from h, Module.slotPack, this]
  exact Option.filter_eq_some_iff.2 ⟨rfl, wit_pack⟩
def str0 (x : Str) (m : Module) : Module := m.updStr 0 fun _ => x
def span1 : Span := { t0 := 0, iPre := 0, iPost := fq 10 1, window := false, w := 0 }

theorem wit_LearningAndSweeps :
    (let m := str0 { span := some span1 } (cl { vLast := some (fq 3 1), contrib := true, vPre := fq 3 1 } (cm.onEst fun e => { e with stepAt := some (msec 500) }));
      (m.str 0).span = some span1 ∧ (m.cell 0).vLast = some (fq 3 1) ∧ m.est.stepAt = some (msec 500) ∧ (m.cell 0).contrib = true ∧
      (m.str 0).spanTakes (msec 500) = true ∧ (m.cell 0).dvT.length = 0 ∧ checkTime 0 ≤ msec 500 - 0) ∧
    (let m := set 0x0330 7 (mode .dispatch (str0 { span := some { span1 with ended := some 5, steps := 16 } } (cl { fit := some (fq 1 1000, fq 1 1) } pm)));
      (m.str 0).span = some { span1 with ended := some 5, steps := 16 } ∧ (m.cell 0).fit = some (fq 1 1000, fq 1 1) ∧ m.learnBit 0 = true ∧
      (mode .commission m).learnBit 0 = false) ∧
    (cm.cell 0).fit = none ∧
    (let m := set 0x0330 7 (mode .dispatch (inPick (str0 { cur := some 0, pendQ := [(0, 90000)] } pm)));
      (m.str 0).pendQ = [(0, 90000)] ∧ m.learnBit 2 = true ∧ m.atBoundary = true ∧ m.rankFree 3 = true) ∧
    fWithin (fAmps 0) (fMul (cm.setF 0x031E 1000) (packQ pack)) = true ∧
    (let m := okm (inPick (cm.onLrn fun l => { l with again := true }));
      m.inBoot = false ∧ m.lrn.sweep = none ∧ m.lrn.state ≠ 3 ∧ m.atBoundary = true ∧ m.sweepWanted = true ∧ m.cmd.loadLast ≤ 900 ∧
      900 < (m.onCmd fun c => { c with loadLast := 901 }).cmd.loadLast) ∧
    (let m := okm (inPick (at_ (secs 600) (cm.onLrn fun l => { l with state := 3 })));
      m.inBoot = false ∧ m.lrn.state = 3 ∧ m.flashOk = true ∧ m.atBoundary = true ∧ m.lrn.deferAt + secs 600 ≤ m.sys.clock) ∧
    (let e : SwEntry := { cell := 0, reset := false, dChg := 1, dDis := 2, dEfc := 3, snap := {} };
      let sw : Sweep := { epoch := 1, secs := 0, cycles := 0, entries := [e] };
      let m := okm (waits 0x0317 [] (cm.onLrn fun l => { l with sweep := some sw, epoch := 1, state := 1 }));
      m.lrn.sweep = some sw ∧ m.flashOk = true ∧ m.lrn.waiters = [] ∧ m.lrn.waitersNext = [] ∧ sw.recovered = false ∧ sw.entries = [e] ∧
      (((tabGet ({} : LSlots) m.lrn.recs e.cell).newest).getD {}).epoch < sw.epoch ∧
      (m.onLrn fun l => { l with waiters := [(7, 0)] }).lrn.waiters = [(7, 0)] ∧ m.outst? 7 = some (wt 0x0317 [])) := by
  and_intros <;> decide +kernel
theorem wit_learnPack (x : Str) (f : Est → Est) : (set 0x0330 7 (mode .dispatch (inPick (str0 x (pm.onEst f))))).strPack 0 = some pack :=
  pm_pack _ rfl rfl

/-- A spare tile 1 beside the live tile 0, and a pool. -/
def wm : Module := cm.onWft fun w => { w with tiles := [(0, { state := .live, groups := [0] }), (1, { state := .spare }), (2, { state := .idle }),
  (3, { state := .starting }), (4, { state := .shed })] }

theorem wit_TileFaultsAndTakeover :
    (wm.tile 0).state = .live ∧ 1 / 2 = 0 ∧ (wm.tile 1).state = .spare ∧ (∀ k ∈ wm.wft.take, k.repl ≠ 1) ∧
    (wm.tile 2).state ∉ [TileState.live, .spare, .replay] ∧ 63 < 64 ∧ 65 < 66 ∧ (wm.tile (63 / 2)).state ∉ [TileState.live, .replay] ∧
    (let k : Takeover := { faulted := 5, repl := 1, groups := [7], ready := true, pick := 0 };
      let m := wm.onWft fun w => { w with take := [k] };
      (m.wft.take.find? fun x => x.faulted = 5) = some k ∧ k.ready = true ∧ (m.wft.take.find? fun x => x.faulted = 6) = none) ∧
    (wm.tile 3).state = .starting ∧ (wm.onWft fun w => { w with shed := true }).wft.shed = true ∧ wm.wft.shed = false := by
  and_intros <;> decide +kernel

theorem wit_BanksAndPower :
    (wm.tile (4 / 2)).state ∉ [TileState.live, .spare, .starting] ∧ (wm.bank 4).dest = none ∧
    ((wm.onWft fun w => { w with doms := [(33, { state := 1 })] }).dom (32 + 4 / 4)).state ≠ 0 ∧ (33 ≠ (wm.bank 4).owner) ∧
    -- refusals with causes 1 to 5, at the ends of their ranges
    38 ≠ (wm.bank 67).owner ∧ 37 ≠ (wm.bank 64).owner ∧ (wm.tile (0 / 2)).state ∈ [TileState.live, .spare, .starting] ∧
    (let m := wm.onWft fun w => { w with banks := [(4, some { owner := 33, ownerB := 0x3F, dest := some 34 })] };
      (m.bank 4).dest.isSome ∧ (m.bank 4).dest = some 34 ∧ 37 ≠ (m.bank 4).owner) ∧
    (wm.dom (32 + 4 / 4)).state = 0 ∧ ¬(33 ≤ 3 ∧ 3 ≤ 37 ∨ 3 = 4 / 2) ∧ ¬(33 ≤ 32 ∧ 32 ≤ 37 ∨ 32 = 4 / 2) ∧
    (let m := wm.onWft fun w => { w with tiles := [(2, { state := .replay })], doms := [(33, { state := 1 })],
                                         banks := [(4, some { owner := 2, ownerB := 0x3F, dest := some 33 }), (65, some { owner := 32, ownerB := 33, toB := some 32 })] };
      (m.bank 4).dest = some 33 ∧ (m.tile (4 / 2)).state = .replay ∧ (m.dom (32 + 4 / 4)).state ≠ 0 ∧ (m.bank 65).toB = some 32) ∧
    (let m := wm.onWft fun w => { w with tiles := [(2, { state := .live })], doms := [(33, { state := 1 })],
                                         banks := [(4, some { owner := 2, ownerB := 0x3F, dest := some 32 })] };
      (m.bank 4).dest = some 32 ∧ (m.tile (4 / 2)).state = .live ∧ (m.dom (32 + 4 / 4)).state ≠ 0) ∧
    wm.domRefusal 51 0 = 0 ∧ wm.domRefusal 51 1 = 0 ∧ (mode .boot wm).sys.mode = .boot ∧
    ((wm.onWft fun w => { w with tiles := [(0, { state := .fault }), (31, { state := .shed })] }).tile 0).state = .fault ∧
    ((wm.onWft fun w => { w with tiles := [(31, { state := .shed })] }).tile 31).state = .shed ∧
    (wm.tile 0).state ∈ [TileState.live, .spare, .starting, .replay] ∧
    ((wm.onWft fun w => { w with doms := [(48, { state := 1, dest := some 0 })] }).dom 48).dest = some 0 ∧
    wm.rep.state ≠ 1 ∧ wm.rep.state ≠ 2 ∧ (wm.dom 48).req = 0 := by
  and_intros <;> decide +kernel

/-! #### The selvedge -/

/-- The fused envelope, a block within it under each method, and a profile set. -/
def env : Bytes := leBytes 4 4000000 ++ leBytes 4 2000000 ++ leBytes 2 700 ++ leBytes 2 (65536 - 300) ++ leBytes 4 1000000 ++ leBytes 4 1000000
def blkRest : Bytes :=
  leBytes 4 7 ++ zeros 4 ++ leBytes 2 1 ++ zeros 2 ++ (1 :: zeros 15)
    ++ leBytes 4 3600000 ++ leBytes 4 2500000 ++ leBytes 2 600 ++ leBytes 2 (65536 - 200) ++ leBytes 2 0 ++ zeros 2 ++ zeros 4
    ++ (List.range 32).flatMap (fun _ => leBytes 4 100000) ++ leBytes 4 1000 ++ leBytes 2 10 ++ zeros 2 ++ leBytes 4 10000 ++ leBytes 2 100
    ++ zeros 2 ++ (List.range 16).flatMap (fun _ => leBytes 2 2000) ++ leBytes 4 100000 ++ leBytes 2 60 ++ leBytes 2 3600 ++ leBytes 2 720
    ++ List.replicate 12 3 ++ zeros 2 ++ (1 :: zeros 7) ++ zeros 8 ++ (List.range 8).flatMap (fun _ => leBytes 2 100) ++ List.replicate 24 2
    ++ zeros 196
def blkPre (method : Nat) : Bytes := [0x53, 0x42, 0x4C, 0x4B, 1, BitVec.ofNat 8 method, 0, 0] ++ blkRest
def blk (method : Nat) : Bytes := blkPre method ++ leBytes 4 (crc32 (blkPre method))
theorem blkPre_length (k : Nat) : (blkPre k).length = 508 := by
  have h : blkRest.length = 500 := by decide +kernel
  rw [blkPre, List.length_append, h]; rfl
theorem crcBit_lt' (c : Nat) (h : c < 2 ^ 32) : crcBit 0xEDB88320 c < 2 ^ 32 := by
  unfold crcBit
  split
  · exact Nat.xor_lt_two_pow (by omega) (by decide)
  · omega
theorem crc32_lt (b : Bytes) : crc32 b < 2 ^ 32 := by
  refine Nat.xor_lt_two_pow ?_ (by decide)
  generalize hc : (0xFFFFFFFF : Nat) = c
  have : c < 2 ^ 32 := by omega
  clear hc
  induction b generalizing c with
  | nil => exact this
  | cons x l ih =>
    refine ih _ ?_
    have hx := x.isLt
    unfold crcByte
    iterate 8 refine crcBit_lt' _ ?_
    exact Nat.xor_lt_two_pow this (by omega)
theorem blk_length (k : Nat) : (blk k).length = 512 := by rw [blk, List.length_append, blkPre_length, leBytes_length]
theorem blk_take (k : Nat) : (blk k).take 508 = blkPre k := by
  rw [blk, List.take_append_of_le_length (Nat.le_of_eq (blkPre_length k).symm), List.take_of_length_le (Nat.le_of_eq (blkPre_length k))]
theorem blk_crc (k : Nat) : blkCrc (blk k) = crc32 ((blk k).take 508) := by
  rw [blk_take, blkCrc, field, blk, List.drop_append, List.drop_of_length_le (Nat.le_of_eq (blkPre_length k)), blkPre_length, List.nil_append,
    Nat.sub_self, List.drop_zero, List.take_of_length_le (Nat.le_of_eq (leBytes_length 4 _)), leNat_le4 _ (crc32_lt _)]

/-- The safety fuses as burnt for a commissioning method; the block of that method is armed. -/
def fused (method : Nat) (m : Module) : Module := m.onCom fun c => { c with
  fuses := [(0, { state := .programmed, value := env }), (1, { state := .programmed, value := [BitVec.ofNat 8 method] }),
    (3, { state := .programmed, value := leBytes 4 7 })] }
def armed (m : Module) : Module := (fused 1 m).onCom fun c => { c with armed := some { block := blk 1 } }

theorem wit_block (k : Nat) (hk : k = 1 ∨ k = 2) : (fused k cm).blockOk (blk k) = true := by
  have h1 : (fused k cm).fuse? 0 = some env := rfl
  rw [Module.blockOk, h1]
  have h2 : (blk k).take 5 = [0x53, 0x42, 0x4C, 0x4B, 0x01] := by rcases hk with rfl | rfl <;> decide +kernel
  have h3 : byteAt (blk k) 5 = (fused k cm).methodCode ∧ ((fused k cm).switchMode = true ∨ byteAt (blk k) 6 = 0) ∧ byteAt (blk k) 6 ≤ 15 ∧
      field (blk k) 8 4 = (fused k cm).plantId := by
    rcases hk with rfl | rfl <;> decide +kernel
  have h4 : (((fused k cm).blockChains [] (blk k) && blockBounds env (blk k) (fused k cm).enabledChains)
      && (decide (blkDciMask (blk k) &&& (fused k cm).setting 0x0200 = blkDciMask (blk k)) && !(fused k cm).tpExceeds [] (blkBlind (blk k)))) = true := by
    rcases hk with rfl | rfl <;> decide +kernel
  simp only [Bool.and_eq_true] at h4
  simp only [decide_eq_true (⟨blk_length k, h2, blk_crc k, h3.1, h3.2.1, h3.2.2.1, h3.2.2.2⟩ : _ ∧ _ ∧ _ ∧ _ ∧ _ ∧ _ ∧ _), h4, Bool.and_self]

/-- The armed block in three HEALTHY lanes that vote two of three. -/
def sm : Module := (armed cm).onSlv fun v => { v with
  laneA := { state := .healthy }, laneB := { state := .healthy }, laneC := { state := .healthy }, voting := 1 }
/-- V_PRI of cell 0 was last present at time 0. -/
def blindLane : Lane := { state := .healthy, pres := [(pkey 0 0, some 0)] }

theorem wit_LaneVotesAndFailures :
    (let m := sm.onPck fun p => { p with running := true, released := true, instant := 5, index := 3 };
      m.inBoot = false ∧ (m.lane 2).state = .healthy ∧ m.pck.released = true ∧ (m.lane 2).evalPick ≠ some m.pck.index ∧
      5 + usec 200 ≤ m.pck.instant + usec 200 ∧ m.pck.running = true ∧ (m.lane 2).latePick ≠ some m.pck.index ∧ (m.lane 2).lateRun = 0 ∧
      (∀ j < 3, j ≠ 2 → (m.lane j).decl = [])) ∧
    1 ≤ ((sm.onSlv fun v => { v with laneA := { state := .healthy, lateRun := 1 } }).lane 0).lateRun ∧
    ((sm.onSlv fun v => { v with laneB := { state := .healthy, dispute := true } }).lane 1).dispute = true ∧
    sm.slv.voting = 1 ∧ (sm.lane 0).dispute = false ∧ (sm.lane 1).decl = [] ∧
    ((sm.onSlv fun v => { v with laneC := { state := .healthy, decl := [(1, 4)] } }).lane 2).decl = [(1, 4)] ∧
    (cm.lane 0).state ≠ .healthy ∧ cm.pck.released = false := by
  and_intros <;> decide +kernel

theorem sm_block (f : Slv → Slv) : (okm (sm.onSlv f)).block = some (blk 1) := rfl

theorem wit_BlindRunsAndOutputTests :
    (let m := mode .standby (sm.onSlv fun v => { v with laneA := blindLane });
      (m.lane 0).state = .healthy ∧ m.evaluated 10 = true ∧ m.valueConfigured (pkey 0 0) = true ∧
      m.isBlind 0 (m.lane 0) (usec 100000) (pkey 0 0) = true ∧ m.isBlind 0 (m.lane 0) (usec 100000 - 1) (pkey 0 0) = false ∧
      pkey 0 0 ∉ (m.lane 0).half ∧ m.blindOf 0 ≤ 2 * (m.lane 0).missing (usec 50000) (pkey 0 0)) ∧
    (let m := okm (sm.onSlv fun v => { v with voting := 2, degraded := 3600 * 720 });
      m.degradedOut = true ∧ m.healthyLanes ≠ [] ∧ m.slv.voting = 2 ∧
      9 * (3600 * blkDegraded (blk 1)) ≤ 10 * m.slv.degraded ∧ m.slv.degWarned = false ∧ m.flashOk = true ∧ m.inBoot = false) ∧
    sm.degradedOut = false ∧
    (let m := sm.onSlv fun v => { v with on := 2 ^ 23, pulse := some { so := 23, low := true } };
      m.slv.on.testBit 23 = true ∧ m.slv.pulse = some { so := 23, low := true } ∧ (m.sout 23).stuck.testBit 2 = false ∧ m.slv.on.testBit 0 = false) ∧
    sm.slv.pulse = none ∧ (sm.onSlv fun v => { v with pulse := some { so := 0, low := false, back := true } }).slv.pulse
      = some { so := 0, low := false, back := true } ∧
    (sm.onHk fun h => { h with j2 := true }).hk.j2 = true ∧ (sm.onHk fun h => { h with j2 := false }).hk.j2 = false ∧
    (∀ c ∈ [1, 2, 3, 4, 5, 6], (sm.sout 23).holds c = false) := by
  and_intros <;> decide +kernel

theorem wit_InputsSealAndSwitches :
    ((sm.updSin 6 fun s => { s with discrep := true }).sin 6).discrep = true ∧
    (let m := sm.updSin 6 fun s => { s with a := true, b := false, mixed := some 0 };
      m.inBoot = false ∧ (m.sin 6).mixed = some 0 ∧ 0 + m.siLimit 6 < msec 100 + 1 ∧ (m.sin 6).discrep = false ∧
      m.siActive 6 = false ∧ m.siInactive 6 = false) ∧
    (let m := mode .safeHold ((sm.onSlv fun v => { v with si7At := some 0 }).onHk fun h => { h with dieLast := some 0 });
      m.sys.mode = .safeHold ∧ m.slv.si7At = some 0 ∧ m.siAnti 7 = false ∧ (m.sin 7).discrep = false ∧ m.votingLanes = [] ∧
      m.failedLanes ≤ 1 ∧ 2 ≤ m.healthyLanes.length ∧ m.dieCool = true ∧ m.sys.pending = none ∧
      msec 100 ≤ msec 100 - 0 ∧ secs 5 - 0 ≤ secs 5 ∧ msec 100 - 1 - 0 < msec 100 ∧ secs 5 < secs 5 + 1 - 0) ∧
    sm.slv.si7At = none ∧
    (let m := (fused 2 sm).onCom fun c => { c with sealTimer := true };
      m.com.sealTimer = true ∧ m.switchMode = true ∧ m.com.sealBroken = false ∧ m.com.armed.isSome = true ∧ 1 ≠ m.com.swA) ∧
    sm.switchMode = false ∧ cm.com.armed = none := by
  and_intros <;> decide +kernel

theorem wit_Arming :
    (let m := okm (mode .commission (fused 1 cm));
      May 0x0401 (rq (List.replicate 8 0)) m .engineer ∧ m.sys.mode = .commission ∧ m.comBusy = false ∧ m.safetyFused = true ∧
      (okm (mode .commission cm)).safetyFused = false ∧ m.blockOk [] = false ∧ m.flashOk = true ∧
      May 0x0405 (rq (List.replicate 8 0)) m .safety ∧ May 0x0403 (rq (List.replicate 8 0)) m .safety ∧ m.methodCode = 1 ∧
      May 0x0404 (rq []) m .safety) ∧
    (let m := (fused 2 cm).onCom fun c => { c with profiles := some [blk 2], sealA := true, sealB := true };
      m.methodCode = 2 ∧ m.switchesShow 0 = true) ∧
    (let a : Arming := { cmd := 7, block := blk 1, profile := 0 };
      let m := (mode .commission (waits 0x0403 [] sm)).onCom fun c => { c with arming := some a };
      m.com.arming = some a ∧ a.cmd = 7 ∧ Waiting (wt 0x0403 []) m ∧ m.sys.mode = .commission ∧ (m.lane 0).state = .healthy) := by
  simp only [may_iff, admitted_iff]
  unfold Waiting
  and_intros <;> first | rfl | decide +kernel

theorem wit_FuseBurns :
    (let m := okm (mode .commission (cm.onCom fun c => { c with fuseEn := true }));
      May 0x0406 (rq [3, 0, 0, 0, 7, 0, 0, 0]) m .safety ∧ (rq [3, 0, 0, 0, 7, 0, 0, 0]).payload.length = 4 + fuseLen 3 ∧
      May 0x0406 (rq (0 :: 0 :: 0 :: 0 :: env.map (·.toNat))) m .safety ∧ fuseOk 0 env = true ∧ m.sys.mode = .commission ∧ m.comBusy = false ∧
      m.flashOk = true ∧ fuseOk 3 [7, 0, 0, 0] = true ∧ m.com.fuseEn = true ∧ (m.fuse 3).state = .blank ∧ cm.com.fuseEn = false) ∧
    (let b : Burn := { cmd := 7, group := 7, value := zeros 48 };
      let m := okm ((waits 0x0406 [] cm).onCom fun c => { c with burn := some b, fuseEn := true });
      m.com.burn = some b ∧ Waiting (wt 0x0406 []) m ∧ m.flashOk = true ∧ 7 < 8 ∧
      (m.onCom fun c => { c with burn := some { b with group := 8 } }).com.burn = some { b with group := 8 }) ∧
    cm.com.burn = none ∧ cm.sys.mode ≠ .commission := by
  simp only [may_iff, admitted_iff]
  unfold Waiting
  and_intros <;> decide +kernel

theorem wit_KeysAndOutputs :
    (let m := okm (mode .commission (cm.onCom fun c => { c with keys := [(2, { key := some [1], version := 65535 })] }));
      May 0x0408 (rq (2 :: 0 :: 0xFF :: 0xFF :: List.replicate 60 0)) m .none ∧ m.sys.mode = .commission ∧ m.comBusy = false ∧ m.flashOk = true ∧
      -- the version is not higher
      m.provisioned (rq (2 :: 0 :: 0xFF :: 0xFF :: List.replicate 60 0)) = none ∧
      May 0x0409 (rq [2, 0, 0, 0]) m .safety ∧ (m.roleKey 2).isSome = true ∧ m.roleKey 0 = none) ∧
    (let m := mode .standby sm;
      May 0x040A (rq [1, 0, 0, 0, 0, 0, 0x80, 0]) m .operate ∧ m.soMode = true ∧
      (∀ x ∈ maskList 24 (1 ||| 0x800000), m.soKind x = 2) ∧ 1 &&& 0x800000 = 0 ∧ 1 &&& 1 ≠ 0) := by
  simp only [may_iff, admitted_iff]
  and_intros <;> decide +kernel
/-- A key that R376 accepts is what the module's own key opens: the hypothesis holds for whichever key that is. -/
theorem wit_provisioned (k : Bytes) (h : Config.deviceOpen (zeros 12) [] (zeros 32) (zeros 16) = some k) :
    (okm (mode .commission (cm.onCom fun c => { c with fuseEn := true }))).provisioned (rq (3 :: 0 :: 1 :: 0 :: List.replicate 60 0)) = some k := by
  exact h

/-! #### The temple loops and the draft engine -/

/-- Loop 32 on with a host set-point, every pick; a recipe of string 0 with a timed step, a pulse step and the end. -/
def rows : Bytes := zeros (32 + 4096) ++ ([1, 14, 1, 0, 0, 0, 1] ++ zeros 65 ++ [2] ++ zeros 55)
def stepsRc : Bytes :=
  [0x52, 0x43, 0x50, 1, 3] ++ zeros 27 ++ ([1, 1] ++ zeros 14 ++ leBytes 4 1000 ++ zeros 12)
    ++ ([4, 0] ++ zeros 22 ++ leBytes 2 100 ++ leBytes 2 50 ++ leBytes 2 2 ++ zeros 2) ++ zeros 32
def lm : Module := cm.onSet fun s => { s with bulk := [(0x0500, some rows), (0x0510, some stepsRc)] }
def lp (l : Nat) (x : Loop) (m : Module) : Module := m.updLoop l fun _ => x
def sq (x : Seq) (m : Module) : Module := m.updSeq 0 fun _ => x

theorem wit_LoopTicks :
    (let m := lp 0 { state := .run, next := some (fq 5 1) } (inPick cm);
      m.inBoot = false ∧ m.pck.running = true ∧ m.tmp.appliedPick ≠ some m.pck.index ∧ m.ticks 0 = true ∧ m.ticks 15 = false ∧
      (m.loop 0).state = .run ∧ (m.loop 0).due = false ∧ (m.loop 0).next = some (fq 5 1)) ∧
    (let m := (lp 0 { state := .idle, due := true } (inPick cm)).updTstr 0 fun s => { s with cur := some 7 };
      (m.loop 0).state = .idle ∧ (m.loop 0).due = true ∧ (m.tstr 0).cur = some 7) ∧
    (let m := lp 32 { state := .idle } (inPick lm);
      32 ≤ 32 ∧ m.ticks 32 = true ∧ (m.loop 32).state = .idle ∧ (m.loop 32).due = false) ∧
    cm.chTicks 0 = true ∧ cm.chTicks 3 = false ∧ State.reset.m.inBoot = true ∧
    (let m := mode .dispatch ((inPick lm).onPck fun p => { p with released := true });
      m.inBoot = false ∧ m.pck.released = true ∧ m.tmp.computedPick ≠ some m.pck.index ∧ m.sys.mode = .dispatch ∧ m.ticks 32 = true ∧
      m.feedback 32 = none ∧ (m.updTstr 0 fun s => { s with cur := some 7 }).feedback 32 = some (fOfInt 7, m.pck.index + 1) ∧
      m.pck.index + 1 ≠ (m.loop 32).seen ∧ (m.loop 32).next = none ∧ 0 ∉ m.allocStrings) ∧
    (inPick cm).pck.released = false := by
  and_intros <;> decide +kernel

theorem wit_TempleTimers :
    (let m := lp 32 { state := .run, age := 3 } lm;
      (m.loop 32).lost = false ∧ rowLostN (m.lrow 32) < (m.loop 32).age ∧ (m.loop 32).state = .run) ∧
    ((lp 32 { state := .stopping, age := 3 } lm).loop 32).state = .stopping ∧
    (let m := lp 0 { state := .fbHold } cm;
      (m.loop 0).state = .fbHold ∧ fLe (rowHold (m.lrow 0)) (fSecs (msec 100)) = true) ∧
    ((sq { state := 1 } cm).seq 0).active = true ∧
    (let m := lp 0 { dwell := some 0 } cm; (m.loop 0).dwell = some 0 ∧ dwellOver (m.lrow 0) 0 0 = true) ∧
    (let m := lp 0 { state := .stopping, stopAt := 0 } cm;
      (m.loop 0).state = .stopping ∧ (m.loop 0).due = false ∧ (m.loop 0).stopAt + secs (m.setting 0x0504) ≤ secs (m.setting 0x0504)) ∧
    (let m := sq { state := 1, startPick := 0, startAt := 0 } (lm.onPck fun p => { p with index := 1, instant := secs 1 });
      (m.seq 0).state = 1 ∧ (m.seq 0).startPick < m.pck.index ∧ stTmax (m.stepNow 0) ≠ 0 ∧
      msec (stTmax (m.stepNow 0)) ≤ (m.seq 0).elapsed m.pck.instant ∧ m.stepCond 0 = none ∧ stFail (m.stepNow 0) = true ∧
      stType (stepOf ((m.recipe 0).getD []) ((m.seq 0).step + 1)) = 4) ∧
    (let m := sq { state := 1, step := 1, pulses := 2, on := true } lm;
      (m.seq 0).state = 1 ∧ stType (m.stepNow 0) = 4 ∧ (m.seq 0).pulses ≠ 0 ∧ (m.seq 0).on = true ∧
      (m.seq 0).phaseAt + msec (stOn (m.stepNow 0)) ≤ msec 100) ∧
    (let m := sq { state := 1, step := 1, pulses := 2 } lm;
      (m.seq 0).on = false ∧ (m.seq 0).phaseAt + msec (stOff (m.stepNow 0)) ≤ msec 50) := by
  and_intros <;> decide +kernel

/-- A program of one task that writes exchange variable 5, with 16 bytes of data, its CRC at bytes 60 to 63. -/
def progPre : Bytes :=
  [0x44, 0x52, 0x46, 0x54, 1, 1] ++ leBytes 2 1 ++ leBytes 4 65539 ++ leBytes 4 9 ++ leBytes 4 1 ++ leBytes 4 16 ++ leBytes 4 8 ++ leBytes 4 737
    ++ zeros 28
def progRest : Bytes :=
  (leBytes 2 4 ++ leBytes 2 0 ++ leBytes 4 0 ++ leBytes 4 1 ++ [3, 0] ++ leBytes 2 1 ++ zeros 16) ++ zeros 480 ++ (leBytes 2 1 ++ zeros 126)
    ++ ([1, 0] ++ leBytes 2 5 ++ zeros 12) ++ zeros 17
def prog : Bytes := progPre ++ leBytes 4 (crc32c (progPre ++ progRest)) ++ progRest
theorem sealed60 (x y : Bytes) (h : x.length = 60) :
    field (x ++ leBytes 4 (crc32c (x ++ y)) ++ y) 60 4
      = crc32c ((x ++ leBytes 4 (crc32c (x ++ y)) ++ y).take 60 ++ (x ++ leBytes 4 (crc32c (x ++ y)) ++ y).drop 64) := by
  have hl := leBytes_length 4 (crc32c (x ++ y))
  have h1 : (x ++ leBytes 4 (crc32c (x ++ y)) ++ y).take 60 = x := by simp [h]
  have h2 : (x ++ leBytes 4 (crc32c (x ++ y)) ++ y).drop 64 = y := by simp [List.drop_append, h, hl, List.drop_of_length_le]
  have h3 : ((x ++ leBytes 4 (crc32c (x ++ y)) ++ y).drop 60).take 4 = leBytes 4 (crc32c (x ++ y)) := by
    simp [h, hl]
  rw [h1, h2, field, h3, leNat_le4 _ (crc32c_lt _)]
theorem prog_crc : imgCrc prog = crc32c (prog.take 60 ++ prog.drop 64) := sealed60 progPre progRest (by decide +kernel)
theorem wit_prog : cm.imgOk prog = true := by
  have h1 : prog.length = 737 := by decide +kernel
  have h2 : 704 ≤ prog.length ∧ prog.take 5 = [0x44, 0x52, 0x46, 0x54, 0x01] ∧ imgCrc prog = crc32c (prog.take 60 ++ prog.drop 64) ∧
      imgSize prog = prog.length ∧ prog.length = 704 + 16 * imgOuts prog + imgCode prog + imgData prog := by
    rw [h1]
    exact ⟨by decide, by decide +kernel, prog_crc, by decide +kernel, by decide +kernel⟩
  rw [Module.imgOk, imgFormOk, decide_eq_true h2]
  simp only [Bool.and_eq_true]
  and_intros <;> decide +kernel

/-- The program runs; its task as given. -/
def dm (x : Task) : Module := (inPick cm).onDrf fun d => { d with
  state := .run, image := some prog, session := true, data := zeros 16, tasks := [(0, x)] }

theorem wit_LoopAndDraftRequests :
    May 0x0500 (rq [1, 0, 0, 0]) (mode .dispatch tm) .operate ∧
    (May 0x0502 (rq [32, 0, 0, 0, 0, 0, 0, 0]) lm .operate ∧ rowSp (lm.lrow 32) = 1) ∧
    (let m := mode .formation lm;
      May 0x0508 (rq [1, 0, 2, 0]) m .operate ∧ (∀ n ∈ formMask (rq [1, 0, 2, 0]).payload, m.chainEnabled n = true ∧ (m.seq n).active = false) ∧
      m.recipe 0 = some stepsRc ∧ 2 < recipeSteps stepsRc ∧
      (∀ n ∈ formMask (rq [1, 0, 0, 0]).payload, ((sq { state := 1 } m).seq n).state = 1 ∧ ((sq { state := 2 } m).seq n).state = 2)) ∧
    (let m := (dm {}).onDrf fun d => { d with state := .stop };
      May 0x0603 (rq [1, 0, 0, 0]) m .engineer ∧ m.drf.state = .stop ∧ m.sys.mode = .standby ∧ m.drf.image.isSome ∧ m.drfPending = false) ∧
    May 0x0604 (rq []) (dm {}) .operate ∧ (dm {}).drf.state = .run ∧ May 0x0605 (rq []) (dm {}) .operate ∧
    (let m := (dm {}).onDrf fun d => { d with state := .hold };
      May 0x0606 (rq []) m .operate ∧ m.drf.state = .hold ∧ May 0x0607 (rq [0, 0, 0, 0]) m .engineer ∧ 0 < m.taskCount) := by
  simp only [may_iff, admitted_iff]
  and_intros <;> decide +kernel

theorem wit_DraftCyclesAndTasks :
    (let m := (dm {}).onTmp fun t => { t with appliedPick := some 0 };
      m.startDue 0 = true ∧ m.startTurn 0 = true ∧ m.drf.state = .run ∧ (m.task 0).state = .idle ∧ m.pck.jumped = false ∧
      (m.onPck fun p => { p with jumped := true }).startTurn 0 = true) ∧
    (dm {}).startTurn 0 = false ∧
    (let m := (dm { state := .ready, overRun := 1 }).onTmp fun t => { t with appliedPick := some 0 };
      2 = min ((m.task 0).overRun + 1) 255 ∧ m.startDue 0 = true ∧ m.startTurn 0 = true ∧ (m.task 0).state ≠ .idle ∧
      (∀ k < m.taskCount, (m.task k).state ≠ .waiting) ∧ 2 < tkLimit (m.tkRow 0)) ∧
    (let m := dm { state := .executing };
      m.drf.state = .run ∧ (m.task 0).state = .executing ∧ (∀ k < m.taskCount, (m.task k).state ≠ .waiting) ∧ 8 + 8 ≤ m.drf.data.length ∧
      (m.decls.filter fun p => dcWriter p.2 = 0) ≠ [] ∧ (imgSenders m.img 0).testBit 0 = true ∧ (imgSenders m.img 63).testBit 0 = false ∧
      (∀ k < m.taskCount, ¬((m.task k).state = .waiting ∧ (m.task k).event = 0)) ∧ m.drf.latches.testBit 0 = false ∧
      (m.onDrf fun d => { d with latches := 1 }).drf.latches.testBit 0 = true) ∧
    (dm {}).startDue 15 = false ∧
    (let m := (dm { state := .executing }).updTask 1 fun _ => { state := .waiting, event := 0, timed := true };
      (m.task 1).state = .waiting ∧ (m.task 1).timed = true ∧ (m.task 1).until_ ≤ (m.tick 0).draftNow) := by
  and_intros <;> decide +kernel

theorem wit_DraftData :
    ((dm {}).drf.state = .run ∧ (dm {}).drf.session = true ∧ (dm {}).drf.image.isSome = true ∧ (okm (dm {})).flashOk = true) ∧
    (let m := okm (cm.onWft fun w => { w with doms := [(51, { state := 1 })] });
      May 0x0601 (rq (List.replicate 8 0)) m .engineer ∧ m.drf.state = .stop ∧ (m.dom 51).state = 1 ∧ m.flashOk = true ∧ m.drfPending = false ∧
      May 0x0602 (rq []) m .engineer) ∧
    May 0x060A (rq [255, 0, 0, 0, 0, 0, 0, 0]) (dm {}) .operate ∧ (dm {}).varFree 255 = true ∧ (dm {}).varFree 5 = false := by
  simp only [may_iff, admitted_iff]
  and_intros <;> decide +kernel

/-! #### The shuttle ring -/

/-- Both ring ports up, and a frame of a type from module 5 on port RA. -/
def rm : Module := tm.onRng fun r => { r with addr := 0, portA := { state := .up }, portB := { state := .up } }
def fr (ty : Nat) (p : List Nat) : RFrame := { type := ty, dst := 0, src := 5, serial := 5, flags := 24, payload := p.map (BitVec.ofNat 8) }
def headM (m : Module) : Module := m.onRng fun r => { r with head := .head, hostUp := true, holdOut := true, latch := true, local_ := false }
def other : Ann := { addr := 9, role := 1, stateA := 2, stateB := 2, head := 0, hostUp := true, hops := 1, wrapped := false }
def annM (m : Module) : Module := m.onRng fun r => { r with ann := [(5, some other)] }

theorem wit_RingLinks :
    (rm.port 1).state = .up ∧ ((rm.onRng fun r => { r with portB := { state := .wrapped } }).port 1).state = .wrapped ∧
    (tm.port 0).state = .disabled ∧ ((rm.onRng fun r => { r with portA := { state := .miswired } }).port 0).state = .miswired ∧
    (let f := fr 1 ([5, 0, 0, 0, 0, 0, 0, 0, 5, 0, 1] ++ List.replicate 21 0);
      f.port = 0 ∧ f.hcrcOk = true ∧ f.crcOk = true ∧ f.type = 1 ∧ f.epoch = rm.rng.epoch ∧ byteAt f.payload 10 ≠ 0 ∧ byteAt f.payload 10 = 1 ∧
      ((rm.onRng fun r => { r with portA := { state := .down, pcs := true, hellos := 15 } }).port 0).state = .down) ∧
    (let m := rm.onRng fun r => { r with portA := { state := .wrapped, upAt := 0 } };
      (m.port 0).state = .wrapped ∧ (m.port 0).upAt + msec 100 ≤ msec 100 ∧ msec 100 - 1 < (m.port 0).upAt + msec 100) ∧
    (tm.onRng fun r => { r with cageH := 4 }).hostRefused = true ∧ tm.rng.hostUp = false ∧
    tabGet none (rm.onRng fun r => { r with holds := [(9, some [fr 3 []])] }).rng.holds 9 = some [fr 3 []] := by
  and_intros <;> decide +kernel

theorem wit_RingFrames :
    rm.rng.assign = [] ∧ rm.portUp 0 = true ∧
    Hears 2 (fr 2 ([5, 0, 0, 0, 0, 0, 0, 0, 9, 1, 2, 2] ++ List.replicate 20 0)) rm ∧
    tabGet none (annM (headM rm)).rng.ann 5 = some other ∧ (annM (headM rm)).isHead = true ∧ tabGet none rm.rng.ann 5 = none ∧
    (let m := (headM rm).onRng fun r => { r with ann := [(5, some other)], fwd := [⟨9, 1, 2, 0x0010, 3, 4⟩] };
      ∃ q ∈ m.rng.fwd, q.dst = other.addr) ∧
    (let m := tm.onRng fun r => { r with addr := 255, portA := { state := .up } };
      Hears 0x0D { fr 0x0D (leBytes 8 tm.sys.serial |>.map (·.toNat)) with dst := 0xFF } m ∧ m.rng.addr = 255) ∧
    (let f := { fr 3 [] with dst := 9 };
      f.hcrcOk = true ∧ f.serial ≠ rm.sys.serial ∧ f.dst ≠ rm.rng.addr ∧ f.dst ≠ 0xFF ∧ f.type ≠ 0x01 ∧ f.type ≠ 0x0E ∧ f.flags % 2 = 0 ∧
      f.epoch = rm.rng.epoch ∧ f.port < 2 ∧ rm.portShut f = false ∧ 1 < f.ttl ∧ (rm.port (1 - f.port)).bulkQ = [] ∧ anyEpoch f.type = false ∧
      tm.portShut f = true ∧ { f with flags := 25 }.flags % 2 = 1 ∧ (rm.port (1 - f.port)).credit < frameSize f ∧
      f.epoch < (rm.onRng fun r => { r with epoch := 1 }).rng.epoch) ∧
    frameSize (fr 6 []) ≤ ((rm.onRng fun r => { r with portB := { state := .up, credit := 36 } }).port 1).credit ∧
    Hears 0x04 (fr 4 (List.replicate 8 0)) rm ∧ Hears 0x05 (fr 5 (List.replicate 8 0)) rm ∧ wholeMsg (fr 4 []) ∧
    (set 0x0D04 1 rm).setting 0x0D04 ≠ 0 ∧ { fr 6 [] with flags := 25 }.flags % 2 = 1 ∧ wholeMsg { fr 6 [] with flags := 25 } ∧
    (rm.port 0).bulkQ = [] ∧ rm.isHead = false ∧ Hears 7 { fr 7 ([1, 0, 0, 0, 0, 0, 0, 0] ++ List.replicate 12 0) with dst := 0xFF } rm ∧
    rm.upd.state ≠ .scheduled ∧ rm.rng.plant = none ∧ (rm.onRng fun r => { r with plant := some (5, 0) }).rng.plant.isSome = true ∧
    (rm.onRng fun r => { r with plant := some (5, 0) }).rng.timeHoldover = false := by
  simp only [hears_iff, wholeMsg]
  and_intros <;> decide +kernel

/-- A served datagram: MODE_GET to address 0 in context 1. -/
def dgram : Bytes := ([0x44, 0x4E, 1, 0, 64, 0, 2, 0, 0x10, 0] ++ List.replicate 22 0).map (BitVec.ofNat 8)
theorem wit_HostPort :
    tm.serves = false ∧ (set 0x0D02 7 (headM rm)).serves = true ∧ malformed dgram false = false ∧ malformed [] false = true ∧
    (let m := set 0x0D04 8 (set 0x0D02 7 (headM rm));
      m.serves = true ∧ m.rng.local_ = false ∧ field dgram 4 2 / 64 % 512 = 1 ∧ field dgram 4 2 % 64 = 0 ∧ m.setting 0x0D04 ≠ 0) ∧
    (let m := (set 0x0D02 7 (headM rm)).onRng fun r => { r with bind := [(1, some { ip := 3, port := 4, open_ := [9] })] };
      m.bound 1 = some { ip := 3, port := 4, open_ := [9] }) ∧
    -- a context that is open nowhere, and a module that is not there
    rm.bound 2 = none ∧ 63 ≠ rm.rng.addr ∧ rm.annAt 63 = none ∧
    (annM rm).annAt 9 = some other ∧ ((annM rm).way other).isSome = true ∧ ((annM rm).anns.filter fun x => x.2.addr = 9).length = 1 ∧
    7 = (set 0x0D02 7 (headM rm)).hostIp ∧ 8 ≠ (set 0x0D02 7 (headM rm)).hostIp ∧
    (rm.rng.icmpAt + secs 1 ≤ secs 1) ∧ rm.rng.icmpCount < 100 ∧
    (rm.onRng fun r => { r with icmpCount := 100 }).rng.icmpAt + secs 1 > secs 1 - 1 ∧ rm.hostRefused = false ∧ rm.rng.hostUp ≠ true ∧
    0 < (rm.onRng fun r => { r with arpLeft := 3 }).rng.arpLeft := by
  and_intros <;> decide +kernel

def arbM (a : ArbState) : Module := rm.onRng fun r => { r with role := 2, arb := a }
def claim1 : Claim := { serial := 5, addr := 9, capable := true, plantFused := true, side := 1, plant := 7 }
theorem wit_Arbiter :
    (∀ a, (arbM a).rng.role = 2 ∧ (arbM a).rng.arbFault ≠ 1 ∧ (arbM a).rng.arb = a) ∧ Hears 0x0A (fr 0x0A (List.replicate 16 0)) (arbM .window) ∧
    (let m := (fused 1 (arbM .window)).onRng fun r => { r with claims := [claim1] };
      m.rng.claims = [claim1] ∧ m.claimCause claim1 = 0 ∧ m.claimCause { claim1 with capable := false } ≠ 0 ∧
      m.claimCause { claim1 with side := 2, addr := 3 } = 0 ∧ claim1.side ≠ 2) ∧
    (arbM .held).portUp 0 = true ∧ Hears 0x0C (fr 0x0C (List.replicate 8 0)) (arbM .held) ∧
    ((arbM .probe).onRng fun r => { r with drive := 1 }).rng.drive = 1 ∧ (arbM .probe).rng.drive ≠ 1 := by
  simp only [hears_iff]
  and_intros <;> first | decide +kernel | (intro a; cases a <;> decide +kernel)

theorem wit_Headship :
    (let m := rm.onRng fun r => { r with role := 1, hostUp := true, head := .candidate };
      Hears 0x09 { fr 0x09 (List.replicate 8 0) with dst := 0xFF } m ∧ m.rng.role = 1 ∧ m.rng.addr < 64 ∧ m.rng.hostUp = true ∧ m.inBoot = false ∧
      m.com.fuseEn = false ∧ m.rng.head = .candidate ∧ (m.onRng fun r => { r with head := .holdoff }).rng.head = .holdoff ∧
      (let f := { fr 0x0B ([0, 0, 0, 0] ++ (leBytes 8 tm.sys.serial).map (·.toNat) ++ List.replicate 4 0) with dst := 0xFF };
        Hears 0x0B f m ∧ m.isHead = false ∧ leNat ((f.payload.drop 4).take 8) = m.sys.serial ∧ byteAt f.payload 2 = m.rng.addr ∧
        byteAt f.payload 2 ≠ 0xFF) ∧
      byteAt (fr 0x0B [0, 0, 0xFF]).payload 2 ≠ m.rng.addr) ∧
    (headM rm).isHead = true ∧ ((headM rm).onRng fun r => { r with hostUp := false }).rng.hostUp = false ∧ (annM (headM rm)).otherReady = true ∧
    (headM rm).otherReady = false ∧ (headM tm).portUp 0 = false ∧ (headM tm).portUp 1 = false ∧
    ((headM rm).onRng fun r => { r with releasing := true }).rng.releasing = true ∧
    Admitted 0x0D03 (rq [1, 0, 0, 0]) (headM rm) ∧ Admitted 0x0D03 (rq [0, 0, 0, 0]) (headM rm) ∧ (headM rm).lacks 1 .engineer = false ∧
    May 0x0D02 (rq ([5, 0, 0, 0, 0, 0, 0, 0, 63] ++ List.replicate 7 0)) (headM rm) .engineer ∧ (headM rm).annAt 63 = none ∧
    63 ≠ (headM rm).rng.addr ∧ (rm.rng.role = 2 ∨ rm.rng.role = 0) := by
  simp only [may_iff, admitted_iff, hears_iff]
  and_intros <;> decide +kernel

/-! #### CAN, the service port and housekeeping -/

/-- A map: on CAN0 filter 0 takes 0x100 to RX_SIGNAL mailbox 1, filter 1 rejects 0x200, filter 2 sends 0x300 to the HPB, filter 3
takes 0x180 to the OVERWRITE mailbox 2; mailbox 0 transmits; signal 0 lies in mailbox 1, whose timeout is 100 ms. -/
def flt (id act mb : Nat) : Bytes := leBytes 4 id ++ leBytes 4 0x1FFFFFFF ++ leBytes 1 act ++ leBytes 1 mb ++ zeros 6
def mapB : Bytes :=
  zeros 32 ++ flt 0x100 1 1 ++ flt 0x200 3 0 ++ flt 0x300 2 0 ++ flt 0x180 1 2 ++ zeros 960
    ++ ([3, 0] ++ leBytes 2 8 ++ leBytes 4 0x500 ++ zeros 8) ++ ([2, 0] ++ zeros 8 ++ leBytes 2 100 ++ zeros 4) ++ ([1, 1] ++ zeros 14) ++ zeros 2000
    ++ ([1, 0, 1, 0] ++ leBytes 2 0 ++ leBytes 2 8 ++ zeros 8) ++ zeros 8176
def canm (c : Can) : Module := (cm.onSet fun s => { s with bulk := [(0x0B60, some mapB)] }).onCan fun x => { x with c0 := c }
def bx (k : Nat) (b : Box) (m : Module) : Module := m.onCan fun x => { x with c0 := { x.c0 with boxes := tabPut {} x.c0.boxes k b } }

theorem wit_CanControllers :
    ((canm { state := .errorActive }).cann 0).sends = true ∧ ((canm { state := .errorPassive }).cann 0).sends = true ∧ (cm.cann 1).receives = false ∧
    7 = (((canm { state := .errorActive, offs := [1, 1, 1, 1, 1, 1, 1] }).cann 0).offs.take 7 |>.filter fun x =>
      decide (max 0 0 < x + secs 60)).length ∧
    (let m := canm { state := .busOff, monitor := true };
      (m.cann 0).state = .busOff ∧ (m.cann 0).delayAt + msec (m.canSet 0 8) ≤ msec (m.canSet 0 8) ∧ 0 < (m.cann 0).delayAt + msec (m.canSet 0 8) ∧
      (m.cann 0).monitor = true) ∧
    May 0x0B06 (rq [0, 0, 0, 0]) (canm { state := .busOffHeld }) .engineer ∧ May 0x0B05 (rq [1, 0, 0, 0]) cm .engineer ∧
    cm.sys.mode = .standby ∧ ((canm { state := .listen }).cann 0).state = .listen ∧
    (let d : Detect := { cmd := 7, before := .off, start := 0 };
      let m := (canm { state := .detecting, detect := some d }).onCmd fun c => { c with outst := [wt 0x0B05 []], nextId := 8 };
      (m.cann 0).detect = some d ∧ (m.cann 0).nom = none ∧ Waiting (wt 0x0B05 []) m ∧ d.start + secs 5 ≤ secs 5) := by
  simp only [may_iff, admitted_iff]
  unfold Waiting
  and_intros <;> decide +kernel

theorem wit_CanTransmit :
    (let p := [0, 0, 8, 0, 0x50, 1, 0, 0] ++ List.replicate 8 5;
      May 0x0B04 (rq p) (canm { state := .errorActive }) .engineer ∧ (canm { state := .errorActive }).canSendOk (rq p).payload = true ∧
      (rq p).payload.length = 8 + byteAt (rq p).payload 2 ∧ cm.canSendOk (rq [0, 0, 8, 0, 0, 8, 0, 0]).payload = false ∧ (cm.cann 0).sends = false) ∧
    (let x : Tx := { kind := .host 7, word0 := 0x150, data := [1], at_ := 0 };
      let o := wt 0x0B04 [0, 0, 1, 0, 0x50, 1, 0, 0, 1];
      let m := (canm { state := .errorActive, queue := [x] }).onCmd fun c => { c with outst := [o], nextId := 8 };
      m.cmd.outst = [o] ∧ o.live = true ∧ byteAt o.payload 0 = 0 ∧ (m.cann 0).queue = [x] ∧ x.kind = .host o.id ∧ x.at_ + msec 100 ≤ msec 100 ∧
      msec 100 - 1 < x.at_ + msec 100 ∧ x ∈ (m.cann 0).offered 0 ∧ (∀ y ∈ (m.cann 0).offered 0, y ≠ x → arbKey x.word0 < arbKey y.word0) ∧
      Waiting o m) ∧
    (let x : Tx := { kind := .stop, word0 := 0x20, data := [], at_ := 0 };
      let y : Tx := { kind := .signal 3, word0 := 0x21, data := [], at_ := 0 };
      let m := canm { state := .errorActive, queue := [y, x] };
      m.inBoot = false ∧ (m.cann 0).state = .errorActive ∧ x ∈ (m.cann 0).offered 0 ∧
      (∀ z ∈ (m.cann 0).offered 0, z ≠ x → arbKey x.word0 < arbKey z.word0) ∧ (∀ id, x.kind ≠ .host id)) ∧
    byteAt (mapBox (canm {}).canMap 0 0) 0 = 3 ∧ byteAt (mapBox (canm {}).canMap 1 63) 0 ≠ 3 := by
  simp only [may_iff, admitted_iff]
  unfold Waiting
  and_intros <;> first | decide +kernel | (intro id h; cases h)

theorem wit_CanReceive :
    (let m := canm { state := .errorActive };
      (m.cann 0).state = .errorActive ∧ m.timeRole 0 = 0 ∧ (m.cann 0).detect = none ∧ (0x101).testBit 30 = false ∧
      (∀ f < 32, filterMatch (mapFilter m.canMap 0 f) 0x101 = false) ∧
      filterMatch (mapFilter m.canMap 0 0) 0x100 = true ∧ filterMatch (mapFilter m.canMap 0 1) 0x200 = true ∧
      byteAt (mapFilter m.canMap 0 1) 8 = 3 ∧ (∀ g < 1, filterMatch (mapFilter m.canMap 0 g) 0x200 = false) ∧
      filterMatch (mapFilter m.canMap 0 2) 0x300 = true ∧ byteAt (mapFilter m.canMap 0 2) 8 = 2 ∧ m.isRxSignal 0 64 = false ∧
      (∀ g < 3, filterMatch (mapFilter m.canMap 0 g) 0x180 = false) ∧ byteAt (mapFilter m.canMap 0 3) 9 = 2 ∧ m.isRxSignal 0 2 = false ∧
      (m.box 0 2).new = false ∧ (m.box 0 2).locked = false ∧ m.isRxSignal 0 1 = true ∧ (m.box 0 1).new = false ∧
      byteAt (mapRx m.canMap 0) 0 = 1 ∧ byteAt (mapRx m.canMap 0) 2 = 1 ∧ sigFits (mapRx m.canMap 0) 8 = true ∧
      sigFits (mapRx m.canMap 0) 0 = false ∧ byteAt (mapRx m.canMap 255) 0 ≠ 1) ∧
    (let b : BoxFrame := { word0 := 0x180 };
      let m := bx 2 { new := true, pend := some b } (canm { state := .errorActive });
      (m.box 0 2).new = true ∧ (m.box 0 2).pend = some b ∧ (byteAt (mapBox m.canMap 0 2) 1).testBit 0 = true) ∧
    (let m := bx 2 { locked := true, new := true, lockAt := 0 } (canm { state := .errorActive });
      (m.box 0 2).locked = true ∧ (m.box 0 2).lockAt + msec 10 ≤ msec 10 ∧ (m.box 0 2).pend = none ∧ msec 10 - 1 < (m.box 0 2).lockAt + msec 10) ∧
    (let m := (canm {}).onCan fun x => { x with rx := [(0, { valid := true })] };
      byteAt (mapRx m.canMap 0) 1 < 2 ∧ (tabGet ({} : RxSig) m.can.rx 0).valid = true ∧
      field (mapBox m.canMap (byteAt (mapRx m.canMap 0) 1) (byteAt (mapRx m.canMap 0) 2)) 10 2 = 100 ∧ 0 + msec 100 < msec 100 + 1) := by
  and_intros <;> decide +kernel

theorem wit_CanTime :
    (let m := set 0x0B05 0x700 (set 0x0B04 1 ((canm { state := .errorActive }).onRng fun r => { r with plant := some (5, 0) }));
      m.inBoot = false ∧ m.timeRole 0 = 1 ∧ (m.cann 0).timeState ≠ 3 ∧ (m.cann 0).sends = true ∧ (m.tick 0).plantNow ≠ 0 ∧
      (∀ f < 32, filterMatch (mapFilter m.canMap 0 f) 0x700 = false) ∧ 0x700 = m.canSet 0 5 ∧ 0x700 < 2 ^ 29) ∧
    (cm.tick 0).plantNow = 0 ∧ ((canm { state := .errorActive, syncAt := some 5 }).cann 0).syncAt = some 5 ∧ (cm.cann 0).syncAt = none ∧
    (let m := set 0x0B05 0x700 (set 0x0B04 2 (canm { state := .errorActive, timeState := 1, sync := some (4, true, 0) }));
      m.timeRole 0 = 2 ∧ (m.cann 0).timeState = 1 ∧ (m.cann 0).pairAt + secs 10 ≤ secs 10 ∧ secs 10 - 1 < (m.cann 0).pairAt + secs 10 ∧
      (m.cann 0).state = .errorActive ∧ (m.cann 0).detect = none ∧ 0x701 = m.canSet 0 5 + 1 ∧
      (∀ f < 32, filterMatch (mapFilter m.canMap 0 f) 0x701 = false) ∧ (m.cann 0).sync = some (4, true, 0) ∧ msec 20 ≤ 0 + msec 20 ∧
      m.isHead = false) := by
  and_intros <;> decide +kernel

theorem wit_ServicePort :
    tm.svc.state ≠ .recovering ∧ tm.svc.held = [] ∧ (0x80 : BitVec 8).toNat = 0x80 ∧ (0x84 : BitVec 8).toNat > 0x83 ∧ tm.svc.latches = [] ∧
    (tm.onSvc fun v => { v with pointer := 0x3C }).svc.pointer = 0x3C ∧ (0x3C, 1, tm.svc.cause) ∈ (tm.onSvc fun v => { v with pointer := 0x3C }).svcMap ∧
    regOk tm.svc.winOffset = true ∧ regOk (tm.svc.winOffset + 4) = true ∧
    regOk ((tm.onSvc fun v => { v with winOffset := 0x11FFFC }).svc.winOffset + 4) = false ∧
    (let m := set 0x0B81 1 (set 0x0B80 9 (tm.onSvc fun v => { v with pending := true, cause := 1, sentAt := some 0 }));
      m.svc.pending = true ∧ m.svc.sentAt = some 0 ∧ 0 + msec 100 ≤ msec 100 ∧ m.setting 0x0B80 ≠ 0 ∧ m.svc.state = .idle ∧ m.svc.attempts = 0 ∧
      m.svc.cause &&& m.setting 0x0B81 ≠ 0) ∧
    (set 0x0B81 2 (tm.onSvc fun v => { v with cause := 1 })).svc.cause &&& (set 0x0B81 2 tm).setting 0x0B81 = 0 ∧
    0 < (tm.onSvc fun v => { v with attempts := 1 }).svc.attempts := by
  and_intros <;> decide +kernel

theorem wit_SupplyAndHousekeeping :
    tm.hk.j1 = true ∧ tm.hk.j2 = true ∧ tm.hk.holdup = false ∧ (tm.onHk fun h => { h with j1 := false }).hk.j1 = false ∧
    (let m := tm.onHk fun h => { h with j1 := false, j2 := false, holdup := true }; m.hk.holdup = true ∧ m.hk.j1 = false ∧ m.hk.j2 = false) ∧
    -- a quiet round: 25.0 °C, all rails nominal
    (let rails := [0, 0, 12000, 1200, 5000, 3300, 1800, 1100, 850, 620, 1200];
      let m := tm.onHk fun h => { h with windowOpen := true };
      (250 : Int) = (2495 + (if m.hk.factoryBad then 0 else m.hk.diodeOffset) + 5) / 10 ∧ (0 : Int) = (if m.hk.factoryBad then 50 else 0) ∧
      0 = (if m.readingBad 250 then m.hk.badRun + 1 else 0) ∧ false = (m.hk.sensorFault || decide (3 ≤ 0)) ∧ (250 : Int) ≤ 1000 - 0 ∧
      (-200 : Int) - 0 ≤ 250 ∧ m.hk.windowOpen = true ∧ m.railBad rails = m.hk.railFault) ∧
    -- the bounds of the write window
    (1000 : Int) - 0 < 1001 ∧ (-180 : Int) - 0 ≤ -180 ∧ (980 : Int) ≤ 980 - 0 ∧ tm.hk.windowOpen = false := by
  and_intros <;> decide +kernel

/-! #### The cloth record, replay, the bolt and updates -/

def clM (c : Clo) : Module := cm.onClo fun _ => c
def frz : Freeze := { cause := 1, mask := 1, pick := 3, time := 0, opSeconds := 0, cycles := 0 }
/-- A snapshot of one tile with one group, and its slice. -/
def headE : CloEntry := { type := 4, pick := 5, body := zeros 8224 ++ [3, 1] ++ zeros 254 }
def sliceE : CloEntry := { type := 5, pick := 6, body := zeros 8 }

theorem wit_Freezes :
    (let m := clM { running := true };
      m.clo.running = true ∧ m.inBoot = false ∧ m.clo.snap = none ∧ m.clo.gap = none ∧ m.clo.snapAt = none ∧
      May 0x0701 (rq []) m .operate ∧ m.clo.capture = none ∧ m.clo.buffer = none ∧ m.chooseSlot = some 0) ∧
    (clM { snapAt := some 0 }).clo.snapAt = some 0 ∧ 0 + secs 10 ≤ secs 10 ∧ secs 10 - 1 < 0 + secs 10 ∧
    headsBefore 1 [{ headE with body := [] }] ≠ [] ∧ headsBefore 0 [{ headE with body := [] }] = [] ∧
    (let m := clM { capture := some frz }; m.clo.capture = some frz ∧ frz.waiters = [] ∧ m.clo.target = none ∧ m.chooseSlot = some 0) ∧
    (clM { slots := [(0, { state := 1 }), (1, { state := 2, keep := true }), (2, { state := 1 }), (3, { state := 1 })] }).chooseSlot = none ∧
    (let m := waits 0x0701 [] (clM { capture := some { frz with waiters := [7] } });
      m.clo.capture = some { frz with waiters := [(wt 0x0701 []).id] } ∧ Waiting (wt 0x0701 []) m ∧ 4 ≤ m.replyRoom (wt 0x0701 []).ctx) ∧
    (let m := okm (clM { target := some 3, buffer := some frz });
      m.clo.target = some 3 ∧ m.clo.buffer = some frz ∧ m.clo.queued = none ∧ m.flashOk = true) := by
  simp only [may_iff, admitted_iff]
  unfold Waiting
  and_intros <;> decide +kernel

theorem wit_SlotsAndReplays :
    (let m := clM { slots := [(3, { state := 2, freeze := some frz })] };
      May 0x0703 (rq [3, 0, 0, 0]) m .observe ∧ (m.slot 3).state = 2 ∧ (m.slot 0).state ≠ 2 ∧ May 0x0704 (rq [3, 0, 0, 0]) m .engineer ∧
      m.clo.buffer = none ∧ May 0x0705 (rq [3, 0, 0, 0]) (okm m) .engineer ∧ (m.slot 3).keep = false ∧ m.slotInUse 3 = false ∧ (m.slot 3).state ≠ 1 ∧
      (okm m).flashOk = true ∧ m.flashOk = false) ∧
    ((clM { slots := [(0, { state := 2, keep := true })] }).slot 0).keep = true ∧
    (let m := (clM { ring := [sliceE, headE] }).onWft fun w => { w with tiles := [(0, { state := .live, groups := [0] }), (5, { state := .idle })] };
      let r := rq ([0xFF, 0, 0, 0, 1] ++ List.replicate 19 0);
      May 0x0710 r m .engineer ∧ m.repAsk r.payload = some (5, 6, [0], true) ∧ m.rep.state ≠ 1 ∧ m.rep.state ≠ 2 ∧ m.replayTiles ≠ [] ∧
      m.wft.shed = false) ∧
    (let p : Rep := { state := 2, tiles := [5], pass := 1, passes := 2 };
      let m := cm.onRep fun _ => p;
      m.rep.state = 2 ∧ m.rep.pass < m.rep.passes ∧ m.rep.divSet = 0xFFFF ∧ m.rep.divPick = 0 ∧ m.rep.aborters = [] ∧
      May 0x0712 (rq []) m .engineer ∧ (m.onRep fun q => { q with pass := 2 }).rep.passes ≤ 2) ∧
    (let m := (waits 0x0712 [] cm).onRep fun _ => { state := 2, aborters := [7] };
      m.rep.aborters = [(wt 0x0712 []).id] ∧ Waiting (wt 0x0712 []) m) ∧ cm.rep.state ≠ 1 := by
  simp only [may_iff, admitted_iff]
  unfold Waiting
  and_intros <;> decide +kernel

theorem wit_BoltRecords :
    cm.blt.flush = none ∧ cm.blt.pending = none ∧ (okm cm).flashOk = true ∧ cm.cmd.loadLast ≤ 900 ∧ cm.flashOk = false ∧ cm.blt.deferred = false ∧
    (cm.onBlt fun b => { b with prompt := true }).blt.prompt = true ∧ cm.blt.prompt = false ∧ (inPick cm).pck.released = false ∧
    (let m := okm (cm.onBlt fun b => { b with deferred := true, pending := some true });
      m.blt.deferred = true ∧ m.flashOk = true ∧ m.blt.flush = none ∧ m.blt.pending = some true) ∧
    (let f : BoltFlush := { full := true, seq := 1, data := {} };
      let m := okm ((waits 0x0722 [] cm).onBlt fun b => { b with flush := some f, waiters := [7] });
      m.blt.flush = some f ∧ m.blt.pending = none ∧ m.blt.waiters = [(wt 0x0722 []).id] ∧ Waiting (wt 0x0722 []) m) ∧
    cm.blt.waiters = [] ∧ May 0x0721 (rq []) cm .observe ∧ May 0x0722 (rq [1, 0, 0, 0]) (okm cm) .operate ∧ cm.blt.waitersNext = [] ∧
    May 0x0723 (rq [15, 0, 1, 0]) cm .engineer ∧ cm.cellRange 15 1 = true ∧ 15 + 1 ≤ 8192 := by
  simp only [may_iff, admitted_iff]
  unfold Waiting
  and_intros <;> decide +kernel

/-- A header for module `sn` with one piece of one byte and key slot 0; an image with it; one with its bare numbers. -/
def hdr : Bytes := withCrc ([0x53, 0x43, 0x49, 0x4D, 1, 0, 3, 0] ++ leBytes 4 0x10003 ++ leBytes 8 9 ++ leBytes 4 1 ++ leBytes 2 1 ++ zeros 994)
def img1 : Image := { header := hdr, keyRec := leBytes 8 tm.sys.serial ++ zeros 72 }
def img2 : Image := { img1 with header := zeros 12 ++ leBytes 8 9 ++ leBytes 4 1 ++ leBytes 2 1 }
/-- One without pieces: its header is zeros. -/
def img0 : Image := { header := [], keyRec := leBytes 8 tm.sys.serial ++ zeros 72 }
def upM (u : Upd) : Module := okm (cm.onUpd fun _ => u)
/-- Key slot 0 holds the hash of an image's public key. -/
def keyed (i : Image) (m : Module) : Module := m.onCom fun c => { c with
  fuses := [(4, { state := .programmed, value := Config.sha384 ((i.header.drop 192).take 97) })] }

theorem hdr_ok : imageHeaderOk hdr = true := by
  have h1 : hdr.length = 1024 := by decide +kernel
  have h2 := crcOk_withCrc ([0x53, 0x43, 0x49, 0x4D, 1, 0, 3, 0] ++ leBytes 4 0x10003 ++ leBytes 8 9 ++ leBytes 4 1 ++ leBytes 2 1 ++ zeros 994)
  have h3 : field hdr 1020 4 = crc32c (hdr.take 1020) := by
    have h := of_decide_eq_true h2
    rw [← hdr, h1] at h; exact h.2
  rw [imageHeaderOk, h1, h3]
  refine decide_eq_true ⟨rfl, by decide +kernel, rfl, ?_⟩
  and_intros <;> decide +kernel
/-- Where the module's own key opens an image's key record, the image may begin, and what verification finds is one of its codes. -/
theorem wit_beginOk (k : Bytes) (h : (keyed img1 (upM {})).contentKey img1 = some k) : (keyed img1 (upM {})).beginOk img1 true = true := by
  have h2 : (keyed img1 (upM {})).keyHashOk img1 = true := decide_eq_true (by rfl)
  have h3 : (keyed img1 (upM {})).keyLive img1.keySlot = true := by rfl
  rw [Module.beginOk, show img1.header = hdr from rfl, hdr_ok, h, h2, h3]
  rfl
theorem wit_verifyCodes (k : Bytes) (h : (keyed img0 (upM {})).contentKey img0 = some k) :
    (keyed img0 (upM {})).verifyCode img0 = (if signatureOk img0 [] then 0 else 1) ∧
    (upM {}).verifyCode img0 = 2 ∧ (upM {}).verifyCode { img0 with keyRec := leBytes 8 (tm.sys.serial + 1) } = 3 := by
  have h0 : (upM {}).contentKey img0 = some k := h
  have p : ∀ m : Module, m.contentKey img0 = some k → m.plaintext img0 = some [] := fun m e => by rw [Module.plaintext, e]; rfl
  have s : img0.sizeOk = true := by decide +kernel
  have h2 : (keyed img0 (upM {})).keyHashOk img0 = true := decide_eq_true (by rfl)
  have h3 : (keyed img0 (upM {})).keyLive img0.keySlot = true := by rfl
  have h4 : (upM {}).keyLive img0.keySlot = false := by rfl
  refine ⟨?_, ?_, by decide +kernel⟩
  · rw [Module.verifyCode, p _ h]; simp only [s, h2, h3]; cases signatureOk img0 [] <;> rfl
  · rw [Module.verifyCode, p _ h0]; simp [s, h4]

theorem wit_UpdateDelivery :
    May 0x0801 (rq (List.replicate 1108 0)) (upM {}) .engineer ∧ May 0x0801 (rq (List.replicate 1108 0)) (upM {}) .safety ∧
    (upM {}).beginOk { header := [], keyRec := [] } false = false ∧ (upM {}).upd.state = .idle ∧ (upM {}).flashOk = true ∧
    (let m := upM { state := .receiving, staging := some img2 };
      m.upd.staging = some img2 ∧ m.upd.state = .receiving ∧ 0 < img2.count ∧ img2.piece 0 = none ∧ img2.pieceLen 0 = 1 ∧
      May 0x0802 (rq (List.replicate 12 0)) m .engineer ∧ m.pieceOk img2 0 0 [] = false) ∧
    (upM {}).upd.staging = none ∧ ({ img2 with pieces := [(0, some [])] }.piece 0).isSome = true := by
  simp only [may_iff, admitted_iff]
  and_intros <;> decide +kernel

theorem wit_UpdateVerification :
    (let m := upM { state := .receiving, staging := some img0 };
      May 0x0804 (rq []) m .engineer ∧ m.updComplete = true ∧ m.upd.state ≠ .verifying ∧ m.flashOk = true) ∧
    (upM { staging := some img2 }).updComplete = false ∧
    (let m := waits 0x0804 [] (upM { state := .verifying, staging := some img0, verifier := some 7 });
      m.upd.staging = some img0 ∧ m.upd.state = .verifying ∧ m.upd.verifier = some (wt 0x0804 []).id ∧ Waiting (wt 0x0804 []) m ∧ m.flashOk = true) := by
  simp only [may_iff, admitted_iff]
  unfold Waiting
  and_intros <;> decide +kernel

theorem wit_UpdateActivation :
    (let m := upM { state := .ready };
      May 0x0805 (rq [50, 0, 0, 0, 0, 0, 0, 0]) m .engineer ∧ m.ang.gridIndex + 50 ≤ 50 ∧ 49 < m.ang.gridIndex + 50 ∧ m.updReady = true ∧
      (m.onAng fun a => { a with gridLocal := false }).ang.gridLocal = false ∧ May 0x0806 (rq []) m .engineer ∧ m.sys.mode = .standby ∧
      May 0x0808 (rq []) m .engineer ∧ m.upd.verifier = none ∧ (mode .dispatch m).sys.mode ≠ .standby) ∧
    (let m := upM { state := .scheduled, schedG := 0 };
      May 0x0807 (rq []) m .operate ∧ m.upd.state = .scheduled ∧ m.upd.schedG ≤ m.ang.gridIndex ∧ m.activationTurn = true ∧
      m.ang.startLate = false ∧ m.drf.state = .stop ∧ (m.onAng fun a => { a with startLate := true }).ang.startLate = true ∧
      (m.onPck fun p => { p with placed := some { instant := 5, slot := 0, late := false, jumped := false, held := false } }).activationTurn = false) ∧
    (upM {}).upd.state ≠ .scheduled ∧ (upM {}).upd.autoG = none := by
  simp only [may_iff, admitted_iff]
  and_intros <;> decide +kernel

theorem wit_UpdateRelay :
    (let m := upM { state := .ready, staging := some img2 };
      May 0x0809 (rq [0, 0, 0, 0, 0, 0, 0, 0x80]) m .engineer ∧ leNat (rq [0, 0, 0, 0, 0, 0, 0, 0x80]).payload ≠ 0 ∧
      (leNat (rq [0, 0, 0, 0, 0, 0, 0, 0x80]).payload).testBit m.rng.addr = false ∧ m.updReady = true ∧ m.upd.relay = none ∧ m.upd.heard = none) ∧
    (let q : Relay := { imageId := 9, round := 1, targets := [5, 6], queue := [], cmd := 7 };
      let m := waits 0x0809 [] (upM { state := .ready, staging := some img2, relay := some q });
      let f : RFrame := { fr 8 ([2, 0, 0xFF, 0xFF, 9] ++ List.replicate 11 0) with flags := 25 };
      m.upd.relay = some q ∧ m.upd.staging = some img2 ∧ f.flags % 2 = 1 ∧ f.serial ≠ m.sys.serial ∧ f.epoch = m.rng.epoch ∧
      f.dst = m.rng.addr ∧ wholeMsg f ∧ leNat ((f.payload.drop 4).take 8) = q.imageId ∧ f.src ∈ q.targets ∧ byteAt f.payload 0 = 2 ∧
      field f.payload 2 2 = 0xFFFF ∧ q.queue = [] ∧ q.round < 16 ∧ (∃ a ∈ q.targets, a ∉ q.doneBy) ∧ q.cmd = (wt 0x0809 []).id ∧
      Waiting (wt 0x0809 []) m ∧ 8 ≤ m.replyRoom (wt 0x0809 []).ctx ∧ 16 ≤ { q with round := 16 }.round ∧ { q with queue := [0] }.queue ≠ []) ∧
    (let h : Heard := { src := 5, imageId := 9, at_ := 0, owes := true };
      (upM { heard := some h }).upd.relay = none ∧ (upM { heard := some h }).upd.heard = some h) ∧
    (let m := (upM { state := .receiving, staging := some img2 }).onRng fun r => { r with portA := { state := .up } };
      let f : RFrame := { fr 8 ([1, 0, 0, 0, 9] ++ List.replicate 11 0) with flags := 25, dst := 0xFF };
      f.flags % 2 = 1 ∧ f.dst = 0xFF ∧ m.portShut f = false ∧ wholeMsg f ∧ byteAt f.payload 0 = 1 ∧ field f.payload 2 2 = 0 ∧
      m.upd.staging = some img2 ∧ m.upd.state = .receiving ∧ m.inBoot = false ∧ img2.id = leNat ((f.payload.drop 4).take 8) ∧ 0 < img2.count) ∧
    (let m := okm (mode .commission (keyed img0 (cm.onCom fun c => { c with fuseEn := true })));
      May 0x080A (rq [0, 0, 0, 0]) m .safety ∧ m.keyLive 0 = true ∧ m.comBusy = false ∧ m.flashOk = true ∧ m.com.fuseEn = true ∧
      m.otherKey 0 = false ∧ m.upd.runKey = 0 ∧ (m.onUpd fun u => { u with runKey := 1 }).upd.runKey ≠ 0 ∧
      (m.onCom fun c => { c with fuses := [(4, { state := .programmed }), (5, { state := .programmed })] }).otherKey 0 = true) := by
  simp only [may_iff, admitted_iff]
  unfold Waiting wholeMsg
  and_intros <;> decide +kernel


/-! #### Ill-formed terms: each check of WellFormed refuses one -/

theorem test_wf_refuses_1 : ([
    .powerOnReset 8 true, .bootComplete 1 0 0 0 0, .bootComplete 0 4 0 0 0, .bootComplete 0 0 7 0 0, .commandBoundaryApply 512 0,
    .commandBoundaryApply 0 65536, .toothExtrapolate 0 0, .toothExtrapolate 3 0, .toothTimeout 0 0, .toothTimeout 3 0,
    .pickInstant [], .pickInstant (List.replicate 16 65536), .draftCycleStart 16, .warpLockGained 16 0, .warpLockGained 0 2,
    .warpLockLost 16 0, .warpLockLost 0 2, .enumLockTimeout 16, .enumFrameReturn 16 { body := [] }, .enumReturnTimeout 16,
    .identReply 16 0 { body := [] }, .identReply 0 2 { body := [] }, .echoReply 16 0 { body := [] } 0,
    .echoReply 0 2 { body := [] } 0, .configReply 16 { body := [] }, .enumFinish 16, .enumOverallTimeout 16, .autoReenumerate 16,
    .headDataRx 16 0 { body := [] } 0, .headDataRx 0 2 { body := [] } 0, .monInstantRx 16 0 { body := [] } 0,
    .monInstantRx 0 2 { body := [] } 0, .monWindowRx 16 0 { body := [] } 0, .monWindowRx 0 2 { body := [] } 0,
    .balanceAckRx 16 { body := [] }, .returnWindowClose 16, .breakDeclared 16, .deviceAnswerLost 16 0, .deviceAnswerLost 0 33,
    .deviceAnswerRestored 16 true, .healingStart 16, .healingComplete 16, .balanceHotResume 16 1, .balanceHotResume 0 0,
    .balanceHotResume 0 33, .autoBalanceIssue 16, .estimatorStep 0 [], .hypReseed 8192 0, .hypReseed 0 4, .shortWatchSet 8192,
    .microShortSet 8192, .resHighChange 8192, .fadeChange 8192, .cellValidTimeout 8192, .tSubstTimeout 16 1 0, .tSubstTimeout 0 0 0,
    .tSubstTimeout 0 33 0, .tSubstTimeout 0 1 8, .currentLostHoldEnd 16, .spanEnd 16, .dvCheckTime 8192 0, .dvCheckTime 0 6,
    .stepFitComplete 8192, .capRunRestTimeout 16, .capApply 16, .tileLateTimeout 32, .tileWatchdogExpiry 32,
    .bankEccError 68 true [], .bankEccError 0 true [1024], .takeoverAssign 32 [], .takeoverAssign 0 [8192], .tileStarted 32 true] :
    List Instr).all (fun c => !c.wf) = true := by decide +kernel

theorem test_wf_refuses_2 : ([
    .bnkOwnReqWrite 68 0, .bnkOwnReqWrite 0 64, .bnkOwnReqBWrite 68 0, .bnkOwnReqBWrite 0 64, .handoverComplete 68 true,
    .pwrDomReqWrite 52 0, .pwrDomReqWrite 0 4, .domainChangeDone 52, .laneEvaluation 3 [] 0, .laneEvaluation 0 [1024] 0,
    .laneTick 3 [] 0, .laneTick 0 [(3, 1)] 0, .laneTick 0 [(1, 3)] 0, .blindTimeout 3 0 0 0, .blindTimeout 0 6 0 0,
    .blindTimeout 0 0 65536 0, .blindHalfTime 3 0 0 0, .blindHalfTime 0 6 0 0, .blindHalfTime 0 0 65536 0, .laneWatchdogExpiry 3,
    .laneBlockCrcCheck 3 true, .laneSelfTestCycle 3 true, .laneDisputeExpiry 3, .pulseTestStart 24, .soStuckOnTimeout 24 true,
    .soStuckOffTimeout 24 true, .soOverloadTimeout 24, .soOpenLoadTimeout 24, .siInputChange 8 true true 0, .siDiscrepancy 8 0,
    .sealSwitchChange 2 0, .sealSwitchChange 0 256, .fbLost 256, .fbHoldTimeout 256 0, .dwellEnd 256 0, .stopTimeout 16 0,
    .stepTimeExpiry 16, .pulsePhaseEnd 16 0, .draftTaskCommit 0 [2 ^ 32] 0 [], .draftTaskCommit 0 [] 0 [.ton 0 true (2 ^ 63)],
    .draftTaskCommit 0 [] 0 [.tof 0 true (2 ^ 63)], .draftTaskCommit 0 [] 0 [.tp 0 true (2 ^ 63)],
    .draftTaskCommit 0 [] 0 [.ctu 0 true false 2147483648], .draftTaskCommit 0 [] 0 [.ctd 0 true false (-2147483649)],
    .draftTaskCommit 0 [] 0 [.ctud 0 true true false false 2147483648], .draftExecLimit 16, .draftTrap 16 1 0, .draftTrap 0 0 0,
    .draftTrap 0 6 0, .draftSend 16 0, .draftSend 0 64, .draftWait 16 0 none 0, .draftWait 0 64 none 0, .draftWaitTimeout 16 0,
    .draftCellRead 16 0 0, .draftCellRead 0 0 513, .draftCellRead 0 8192 1, .draftTimeAdjust 1001 0, .badOpcode 65536 (rq []),
    .ctxAuthTimeout 512, .ctxIdleTimeout 512, .eventPacketSend 512, .cmdLoadHigh 1001, .bulkOutputBatch 512 0,
    .bulkOutputBatch 0 65536, .bulkPageWaitTimeout 512 0, .bulkPageWaitTimeout 0 65536, .ringBlockLockChange 2 true 0] :
    List Instr).all (fun c => !c.wf) = true := by decide +kernel

theorem test_wf_refuses_3 : ([
    .helloSend 2 0, .helloRx { fr 3 [] with port := 2 } 0 0, .helloTimeout 2 0, .ringUnwrap 2 0, .pathHoldEnd 64,
    .announceSend 1001 0 0, .announceSend 0 1001 0, .announceRx { fr 3 [] with port := 2 } true 0,
    .ringFrameForward { fr 3 [] with port := 2 } true, .replyFrameRx { fr 3 [] with port := 2 },
    .eventFrameRx { fr 3 [] with port := 2 }, .bulkFrameRx { fr 3 [] with port := 2 }, .creditRx { fr 3 [] with port := 2 },
    .timeFrameRx { fr 3 [] with port := 2 } 0 0, .addrAssignRx { fr 3 [] with port := 2 }, .hostDatagramRx 0 65536 0 true [],
    .hostDatagramRx 0 0 65536 true [], .cageOpticChange 3 0, .cageOpticChange 0 6, .claimOpenRx (fr 3 []) 3,
    .claimOpenRx { fr 3 [] with port := 2 } 0, .headClaimRx { fr 3 [] with port := 2 }, .headGrantedRx { fr 3 [] with port := 2 } 0,
    .arbGrantChange 3, .arbBeaconRx { fr 3 [] with port := 2 }, .relayPieceRx { fr 3 [] with port := 2 } true 0,
    .relayNeedRx { fr 3 [] with port := 2 }, .relayDoneRx { fr 3 [] with port := 2 }, .canFrameRx 2 0 false false [] 0 0,
    .canFrameRx 0 (2 ^ 32) false false [] 0 0, .canFrameRx 0 0 false false (zeros 65) 0 0, .canFrameAcked 2 0 0,
    .canBusError 2 0 0 0 true 0, .canBusError 0 0 0 7 true 0, .canBusoffDelayEnd 2 0, .canBusoffRecovered 2, .canSignalPeriod 2 0 0,
    .canSignalPeriod 0 64 0, .canSignalTimeout 256 0, .canLockTimeout 2 0 0, .canLockTimeout 0 65 0, .canRateTryEnd 2 0,
    .canTimeSyncSend 2 0, .canTimeFollowSend 2 0, .canTimeHoldover 2 0, .canSendTimeout 512 0 0, .canSendTimeout 0 65536 0,
    .canMbWord0Read 2 0 0, .canMbWord0Read 0 65 0, .canMbWord19Read 2 0 0, .canMbWord19Read 0 65 0, .svcWinDataRead 0,
    .svcWinDataRead 9, .svcNotify 0 4, .svcNotifyRetry 0 4, .replayEnd 0, .replayEnd 10, .boltStampHoldEnd 1024, .hkRound 0 [] 0,
    .sealContactChange 2 true, .enumReplyTimeout 16 0 0, .enumReplyTimeout 0 2 0, .enumReplyTimeout 0 0 33] :
    List Instr).all (fun c => !c.wf) = true := by decide +kernel

theorem test_request_wf :
    (([{ rq [] with ctx := 512 }, { rq [] with tag := 65536 }, { rq [] with seq := 2 ^ 32 }, { rq [] with payload := zeros 1441 },
      { rq [] with trailer := some (zeros 15) }] : List Req).all fun r => !r.wf) = true ∧
    (rq []).wf = true ∧ ({ rq [] with payload := zeros 1424, trailer := some (zeros 16) } : Req).wf = true := by
  and_intros <;> decide +kernel

theorem test_frame_wf :
    (([{ fr 3 [] with port := 2 }, { fr 3 [] with type := 256 }, { fr 3 [] with flags := 256 }, { fr 3 [] with dst := 256 },
      { fr 3 [] with src := 256 }, { fr 3 [] with ttl := 129 }, { fr 3 [] with epoch := 65536 }, { fr 3 [] with frag := 65536 },
      { fr 3 [] with msgId := 2 ^ 32 }, { fr 3 [] with serial := 2 ^ 64 }, { fr 3 [] with payload := zeros 2049 }] :
      List RFrame).all fun f => !f.wf) = true ∧ (fr 3 []).wf = true := by and_intros <;> decide +kernel

theorem test_wf_admits :
    (([.powerOnReset 7 false, .bootComplete 0 3 6 0 0, .pickInstant (List.replicate 16 65535), .modeGet (rq []),
      .draftTaskCommit 15 [2 ^ 32 - 1] 0 [.ctu 0 true false 2147483647], .canFrameRx 1 0 true true (zeros 64) 0 0] :
      List Instr).all Instr.wf) = true := by decide +kernel

/-! #### The two claims over every step speak of real steps, and those over the queue of real queues -/




/-- A step that changes the mode: the seal was seen open in DISPATCH. -/
theorem wit_ModeChangesByTable :
    let m := (mode .dispatch tm).onSys fun y => { y with sealSeen := true }
    let t : State := { m := m.modeBoundary, pending := [] }
    step { m := m, pending := [.modeTransition] } = .next t ∧ t.m.sys.mode ≠ m.sys.mode := ⟨rfl, by decide +kernel⟩

theorem wit_StepsKeepForm :
    let s : State := { m := tm, pending := [.powerOnReset 0 false] }
    s.QueueWf ∧ s.WindowWf ∧ ∃ t, step s = .next t := ⟨by simp [State.QueueWf, Instr.wf], by unfold State.WindowWf; decide, _, rfl⟩

/-! #### The chapters' own numbers -/

/-- Worked example of spec/00_scope.md: −182.4 A and −4.5 °C as their codes, 3.412507 V as a primary value's bytes. -/
theorem test_encodings :
    ofInt 32 (-182400) = 0xFFFD3780 ∧ ofInt 16 (-45) = 0xFFD3 ∧ leBytes 3 3412507 = [0x1B, 0x12, 0x34] ∧ leBytes 2 34125 = [0x4D, 0x85] := by
  decide

/-- Worked examples of spec/02_grid_angle_and_picks.md: the slots at K = 5, and slots 26 to 28 at K = 80. -/
theorem test_slots :
    (List.range 5).map (slotPos 5 0) = [0, 13107, 26214, 39321, 52428] ∧ [26, 27, 28].map (slotPos 80 0) = [21299, 22118, 22937] := by decide

/-- Tallowfield (spec/02_grid_angle_and_picks.md): 64 teeth, tooth 20 at t = 0, an active tooth source at 50 Hz. -/
def tallow : Module := set 0x0904 64 (set 0x0905 1 (tm.onAng fun a => { a with state := .locked, active := 1, tooth :=
  { cycle := some 80000000, pred := 80000000, last := some 0, count := 20, ref := true, valid := true } }))

/-- The noise pulse at 0.9 T is taken as tooth 21; the true tooth 0.1 T later is early, counted and reported (event 40). -/
theorem test_noise_pulse :
    let m := tallow.after (.toothEdge 1125000)
    let m' := m.after (.toothEdge 1250000)
    m.ang.tooth.count = 21 ∧ m.ang.tooth.last = some 1125000 ∧ m'.ang.tooth.count = 21 ∧ m'.ang.tooth.last = some 1125000 ∧
    m'.counter 0x040050 = m.counter 0x040050 + 1 := by and_intros <;> decide +kernel

/-- The next true tooth, 1.1 T after the pulse, is tooth 22. -/
theorem test_tooth_after_noise :
    (((tallow.after (.toothEdge 1125000)).after (.toothEdge 1250000)).after (.toothEdge 2500000)).ang.tooth.count = 22 := by decide +kernel

/-- Pelling Cross (spec/03_warp_chains.md): a closed chain of 15 devices splits at 8, with MAX_HOPS 8. -/
theorem test_split : ({ closed := some true } : Chain).assign 14 = (8, 8) := by decide

/-- M8 at address 8 is 7 hops from Wn-B, M7 at address 7 is 8 hops from Wn-A (the same example). -/
theorem test_hops : hopsOf 14 8 8 = 7 ∧ hopsOf 14 8 7 = 8 := by decide

/-- Oakensett (spec/07_selvedge_protection.md): three healthy lanes, then lane B failed in ONE_OF_TWO. -/
theorem test_slv_status :
    let h : Lane := { state := .healthy }
    let m := (armed tm).onSlv fun v => { v with laneA := h, laneB := h, laneC := h, voting := 1 }
    m.slvStatus = 0x455 ∧ (m.onSlv fun v => { v with laneB := { state := .failed }, voting := 2 }).slvStatus = 0x499 := by
  and_intros <;> decide +kernel

/-- Harrowmere (spec/09_temple_loops_and_dispatch.md): 69,249 mA as the bytes of REF. -/
theorem test_ref_bytes : leBytes 4 (ofInt 32 69249) = [0x81, 0x0E, 0x01, 0x00] := by decide

/-- Signal 12 of spec/13_can_fd_ports.md: START_BIT 16, LENGTH 16, ORDER 0, signed, SCALE 0.1, OFFSET 0. -/
def sig12 : Bytes := [1, 5, 0, 1, 16, 0, 16, 0, 0xCD, 0xCC, 0xCC, 0x3D, 0, 0, 0, 0]
/-- The bytes 00 00 E8 00 03 00 00 00 give raw 232, and the value 23.2. -/
theorem test_signal : sigRaw sig12 [0, 0, 0xE8, 0, 3, 0, 0, 0] = 232 ∧ fTrunc (sigValue sig12 [0, 0, 0xE8, 0, 3, 0, 0, 0]) 10 1 = 232 := by
  decide +kernel

/-- The stop message of the same chapter: cause 2 at pick 0xF43F5, channels 0 to 2 in use on CAN0, none on CAN1. -/
theorem test_stop_message :
    let m := ((set 0x0200 0x0FFF tm).onPck fun p => { p with index := 0xF43F5 }).canStop 2
    ((m.cann 0).queue.map fun x => x.data) = [[0x81, 7, 2, 0, 0xF5, 0x43, 0x0F, 0]] ∧ (m.cann 1).queue = [] := by
  and_intros <;> decide +kernel

/-- The clock offset of the same chapter as CAN1_TIME_OFFSET shows it. -/
theorem test_can_offset : ofInt 32 (1718000000100000000 + 250 - 1718000000100000320) = 0xFFFFFFBA := by decide

/-- Spec/14_service_port.md: address 0x5B from pins 0b011; 80 08 00 05 00 sets the pointer to 0x80 and WIN_OFFSET to PCK_INDEX. -/
theorem test_service_window :
    let m := (tm.onSvc fun v => { v with addr := 3 }).after (.svcWriteTransfer [0x80, 0x08, 0x00, 0x05, 0x00] true)
    m.svcAddr = 0x5B ∧ m.svc.winOffset = 0x050008 := by and_intros <;> decide +kernel

/-- Fenwold (spec/16_boot_and_update.md): module 9's UPD_STATUS, deferred with cause 1 and COMPLETE. -/
theorem test_upd_status : (tm.onUpd fun u => { u with state := .deferred, deferCause := 1, staging := some img0 }).updStatus = 0x65 ∧
    (tm.onUpd fun u => { u with activeB := true }).updStatus = 0x08 := by and_intros <;> decide +kernel

/-- Harrowmere (spec/17_electrical_mechanical_calibration.md): HK_SUPPLY after the loss of J1, and after that of J2; HK_STATUS then. -/
theorem test_supplies :
    let m := (okm tm).after (.supplyLost false)
    let m' := m.after (.supplyLost true)
    m.hkReg 0x110008 = some 0x11 ∧ m'.hkReg 0x110008 = some 0x02 ∧ m'.hkReg 0x110000 = some 0x21 := by and_intros <;> decide +kernel

/-- No row of the table has bits of its own. -/
theorem test_no_words : decodeTableWord 32 0x12345678 = none := rfl

end Sys2Proof.Tests
end

section
/-! PROOFS. Chapter 01, the block at a glance: the exclusion of DISPATCH and FORMATION (R31), and with it how an admitted
request is refused by its command's own rules. -/
namespace Sys2Proof.Machine

/-! ### Requests that their own rules refuse -/

/-- A reply to a request just taken up is all that the command leaves: `ReadOnly` compares with the module before the
request, so the clock and the context's numbers are the only differences besides the reply itself. -/
theorem Module.reply_taken (op : Nat) (r : Req) (m : Module) (st : Status) (p : Bytes) :
    Replies op r st p m ((m.taken r).reply (newCmd op r m) st p) ∧
      ReadOnly r m ((m.taken r).reply (newCmd op r m) st p) := by
  obtain ⟨rep, htag, hop, hst, hmore, hp, hout, hframe, houtst, hbulk, -, hctx, hpriv⟩ :=
    (m.taken r).reply_live (o := newCmd op r m) rfl st p
  refine ⟨⟨rep, ?_, htag, hop, hst, hmore, hp⟩, ?_, ?_, ?_, ?_, fun c hc => ?_, ?_⟩
  · rw [hout, Module.taken_out]; rfl
  · exact ((m.taken_same r).mono (by decide)).trans (hframe.mono (by decide))
  · exact Eq.trans (hframe .sys (by decide)) (Module.taken_sys r m)
  · rw [houtst, Module.taken_outst]
  · rw [hbulk, Module.taken_bulkOut]
  · rw [hctx c hc, Module.taken_ctx_other r m hc]
  · exact hpriv.trans (Module.taken_privOf r m _)

/-- An admitted request that its command's rules refuse: one final reply with that status, and nothing else changes. -/
theorem Module.request_refused {op : Nat} {body : Req → Module → Resp} {r : Req} {m : Module} {st : Status}
    (h : Admitted op r m) (hb : body r (m.taken r) = .fail st (m.taken r)) :
    Replies op r st [] m (m.request op body r) ∧ ReadOnly r m (m.request op body r) := by
  rw [Module.request_fail h hb]
  exact m.reply_taken op r st []

/-! ### MODE_REQUEST without a row of R30 -/

theorem exec_modeRequest (r : Req) (s : State) :
    exec (.modeRequest r) s = .next { s with m := s.m.request 0x0011 cmdModeRequest r } := rfl

/-- R43's last check: a request for a mode that no row of R30 reaches from the present one, with the privilege and no
transition waiting, is refused with WRONG_MODE. -/
theorem cmdModeRequest_wrongMode {r : Req} {m : Module} {target : Mode} (hlen : r.payload.length = 4)
    (htarget : modeOf (byteAt r.payload 0) = some target) (hrow : m.modeRow target = none)
    (hpriv : m.lacks r.ctx (noRowPriv m.sys.mode target) = false) (hpending : m.sys.pending = none) :
    cmdModeRequest r m = .fail .wrongMode m := by
  simp [cmdModeRequest, hlen, htarget, hrow, hpriv, hpending]

/-- R30 has no row between DISPATCH and FORMATION, in either direction. -/
theorem Module.modeRow_of_exclusive {m : Module} {b : Mode}
    (h : m.sys.mode = .dispatch ∧ b = .formation ∨ m.sys.mode = .formation ∧ b = .dispatch) : m.modeRow b = none := by
  obtain ⟨hm, rfl⟩ | ⟨hm, rfl⟩ := h <;> simp [Module.modeRow, hm]

/-- A request between DISPATCH and FORMATION asks for OPERATE (R43). -/
theorem noRowPriv_of_exclusive {a b : Mode} (h : a = .dispatch ∧ b = .formation ∨ a = .formation ∧ b = .dispatch) :
    noRowPriv a b = .operate := by
  obtain ⟨rfl, rfl⟩ | ⟨rfl, rfl⟩ := h <;> rfl

end Sys2Proof.Machine

section
open Sys2Proof Sys2Proof.Machine

/-- Settles O7: R30 has no row between DISPATCH and FORMATION, so R43's checks end in WRONG_MODE, and a refused request
changes nothing. -/
theorem modesExcludeEachOther : Obligations.ModesExcludeEachOther := by
  unfold Obligations.ModesExcludeEachOther
  intro r s a b hab ha hadm hlen htarget hpriv hpending
  subst ha
  have hrow : (s.m.taken r).modeRow b = none := Module.modeRow_of_exclusive (by simpa using hab)
  have hpriv' : (s.m.taken r).lacks r.ctx (noRowPriv (s.m.taken r).sys.mode b) = false := by
    simpa [noRowPriv_of_exclusive hab] using hpriv
  have hrefused : cmdModeRequest r (s.m.taken r) = .fail .wrongMode (s.m.taken r) :=
    cmdModeRequest_wrongMode hlen htarget hrow hpriv' (by simpa using hpending)
  exact ⟨_, exec_modeRequest r s, rfl, Module.request_refused hadm hrefused⟩

end
end

section
/-! PROOFS. Chapter 11, the command interface: a request whose TAG is outstanding (R499), and with it which commands of the
table run as requests, and what a request that the packet checks drop leaves. -/
namespace Sys2Proof.Machine

/-! ### Requests that the packet checks drop -/

/-- Every request of the table is run by `Module.request` with its command's own rules, but BAD_OPCODE, which has none, and
CLO_FREEZE, whose trigger follows the acceptance (R503, R639). -/
theorem exec_request {i : Instr} {op : Nat} {r : Req} (h : reqOf i = some (op, r)) (s : State) :
    (∃ body, exec i s = s.go (·.request op body r)) ∨ i = .badOpcode op r ∨ (i = .cloFreeze r ∧ op = 0x0701) := by
  cases i with
  | badOpcode => cases h; exact .inr (.inl rfl)
  | cloFreeze => cases h; exact .inr (.inr ⟨rfl, rfl⟩)
  | _ => cases h <;> exact .inl ⟨_, rfl⟩

/-- A request that the packet checks drop goes no further: what they leave is all that it leaves. -/
theorem Module.request_dropped {op : Nat} {body : Req → Module → Resp} {r : Req} {m m' : Module}
    (hg : m.gate op r = (m', false)) : m.request op body r = m' := by
  simp [Module.request, hg]

theorem Module.badOpcode_dropped {op : Nat} {r : Req} {m m' : Module} (hg : m.gate op r = (m', false)) :
    m.badOpcode op r = m' := by
  simp [Module.badOpcode, hg]

theorem exec_badOpcode (op : Nat) (r : Req) (s : State) : exec (.badOpcode op r) s = s.go (·.badOpcode op r) := rfl

/-- CLO_FREEZE triggers only where its request has been held under the next command number. -/
theorem exec_cloFreeze_of_not_held {r : Req} {s : State}
    (h : (s.m.request 0x0701 cmdCloFreeze r).outst? s.m.cmd.nextId = none) :
    exec (.cloFreeze r) s = s.go (·.request 0x0701 cmdCloFreeze r) := by
  show execCloFreeze r s = _
  simp [execCloFreeze, State.go, h]

/-- Whichever request it is: where the packet checks drop it, what they leave is the next state. -/
theorem exec_dropped {i : Instr} {op : Nat} {r : Req} {s : State} {m' : Module} (h : reqOf i = some (op, r))
    (hid : m'.outst? s.m.cmd.nextId = none) (hg : s.m.gate op r = (m', false)) :
    exec i s = .next { s with m := m' } := by
  obtain ⟨body, hexec⟩ | rfl | ⟨rfl, rfl⟩ := exec_request h s
  · rw [hexec, State.go, Module.request_dropped hg]
  · rw [exec_badOpcode, State.go, Module.badOpcode_dropped hg]
  · rw [exec_cloFreeze_of_not_held (by rwa [Module.request_dropped hg]), State.go, Module.request_dropped hg]

/-! ### A TAG that is outstanding (R499) -/

/-- The module once a request's trailer is as its context asks: the clock at the request and, where its context is open, no
failed MAC in a row and the time of its last request (R493, R496). -/
def Module.heard (r : Req) (m : Module) : Module :=
  match m.ctx? r.ctx with
  | some _ => (m.tick r.t).updCtx r.ctx fun c => { c with macFails := 0, lastReq := max m.sys.clock r.t }
  | none => m.tick r.t

theorem Module.heard_same (r : Req) (m : Module) : OnlyIn [.sys, .cmd] m (m.heard r) := by
  have htick : OnlyIn [.sys, .cmd] m (m.tick r.t) := (OnlyIn.refl _ m).onSys _ (by decide)
  unfold Module.heard
  cases m.ctx? r.ctx with
  | none => exact htick
  | some c => exact htick.onCmd _ (by decide)

theorem Module.heard_sys (r : Req) (m : Module) : (m.heard r).sys = { m.sys with clock := max m.sys.clock r.t } := by
  unfold Module.heard
  cases m.ctx? r.ctx <;> rfl

theorem Module.heard_commands (r : Req) (m : Module) : SameCommands m (m.heard r) := by
  unfold Module.heard
  cases m.ctx? r.ctx <;> exact ⟨rfl, rfl, rfl, rfl, rfl⟩

/-- What a request whose TAG is outstanding leaves: SYS_CNT_TAG_DUP counts, then event 485 is raised. -/
def Module.tagDropped (r : Req) (m : Module) : Module := ((m.heard r).bump 0x00022C).raise 485

/-- The packet checks come to R499 where the module hears the request, its trailer is as its context asks and its SEQUENCE
is new, and drop it there where a live command of its context has its TAG. -/
theorem Module.gate_of_tag_outstanding {op : Nat} {r : Req} {m : Module} (hears : m.deaf = false)
    (hmac : m.wantTrailer op r = r.trailer) (hseq : ∀ c, m.ctx? r.ctx = some c → c.highSeq < r.seq)
    (htag : ∃ o ∈ m.cmd.outst, o.ctx = r.ctx ∧ o.tag = r.tag ∧ o.live = true) :
    m.gate op r = (m.tagDropped r, false) := by
  have hears' : (m.tick r.t).deaf = false := hears
  have hmac' : (m.tick r.t).wantTrailer op r = r.trailer := hmac
  have hdup : ((m.tick r.t).cmd.outst.any fun o => o.ctx = r.ctx && o.tag = r.tag && o.live) = true := by
    simpa [and_assoc] using htag
  unfold Module.gate Module.tagDropped Module.heard
  simp only [hears', hmac', hdup, Module.ctx_tick]
  cases hc : m.ctx? r.ctx with
  | none => simp
  | some c => simp [Nat.not_le.mpr (hseq c hc), Module.tick_sys]

/-- Counting a listed counter. -/
theorem CountsOnly.bump {offs : List Nat} {m m' : Module} {off : Nat} (hoff : off ∈ offs) (h : CountsOnly offs m m') :
    CountsOnly offs m (m'.bump off) := by
  intro k hk hevt hlast
  have hne : k ≠ off := fun e => hk (e ▸ hoff)
  rw [Module.counter_bump, if_neg hne]
  exact h k hk hevt hlast

/-- Raising an event leaves the commands the module holds. -/
theorem SameCommands.raise {m m' : Module} (e : Nat) (h : SameCommands m m') : SameCommands m (m'.raise e) := by
  simpa [SameCommands] using h

theorem Module.tagDropped_counter (r : Req) (m : Module) :
    (m.tagDropped r).counter 0x00022C = satU32 (m.counter 0x00022C + 1) := by
  rw [Module.tagDropped, Module.counter_raise _ _ _ (by decide), if_neg (by decide), Module.counter_bump, if_pos rfl,
    Module.counter_of_cnt (m.heard_same r .cnt (by decide))]

theorem Module.tagDropped_countsOnly (r : Req) (m : Module) : CountsOnly [0x00022C] m (m.tagDropped r) :=
  have hheard : CountsOnly [0x00022C] m (m.heard r) := fun off _ _ _ =>
    Module.counter_of_cnt (m.heard_same r .cnt (by decide)) off
  (hheard.bump (by decide)).raise 485 (by decide)

theorem Module.tagDropped_raises (r : Req) (m : Module) : Raises [485] m (m.tagDropped r) :=
  have hevt : (m.heard r).evt = m.evt := m.heard_same r .evt (by decide)
  have hheard : Raises [] m (m.heard r) :=
    (Raises.nil m).of_eq (m.heard_same r .cnt (by decide)) (by rw [hevt]) (by rw [hevt])
  (hheard.bumpBy 0x00022C 1 (by decide)).raise 485 (by decide)

theorem Module.tagDropped_commands (r : Req) (m : Module) : SameCommands m (m.tagDropped r) :=
  SameCommands.raise (m' := (m.heard r).bump 0x00022C) 485 (m.heard_commands r)

theorem Module.tagDropped_same (r : Req) (m : Module) : OnlyIn (.sys :: evtBlocks) m (m.tagDropped r) :=
  have hheard : OnlyIn (.sys :: evtBlocks) m (m.heard r) := (m.heard_same r).mono (by decide)
  OnlyIn.raise (m' := (m.heard r).bump 0x00022C) 485 (hheard.onCnt _ (by decide)) (by decide)

theorem Module.tagDropped_sys (r : Req) (m : Module) :
    (m.tagDropped r).sys = { m.sys with clock := max m.sys.clock r.t } := by
  simp [Module.tagDropped, Module.heard_sys]

/-- Dropping a request holds none under the next command number. -/
theorem Module.tagDropped_outst (r : Req) (m : Module) (id : Nat) : (m.tagDropped r).outst? id = m.outst? id := by
  obtain ⟨houtst, -⟩ := m.tagDropped_commands r
  rw [Module.outst?, houtst, Module.outst?]

end Sys2Proof.Machine

section
open Sys2Proof Sys2Proof.Machine

/-- Settles O8: the packet checks reach R499 and drop the request there, and no command of the table goes on with a request
that they drop. -/
theorem outstandingTagsDropped : Obligations.OutstandingTagsDropped := by
  unfold Obligations.OutstandingTagsDropped
  intro i op r s hreq hid hears hmac hseq htag
  have hgate : s.m.gate op r = (s.m.tagDropped r, false) := Module.gate_of_tag_outstanding hears hmac hseq htag
  have hexec : exec i s = .next { s with m := s.m.tagDropped r } :=
    exec_dropped hreq (by rwa [Module.tagDropped_outst]) hgate
  exact ⟨_, hexec, rfl, s.m.tagDropped_same r .out (by decide), s.m.tagDropped_counter r, s.m.tagDropped_countsOnly r,
    s.m.tagDropped_raises r, s.m.tagDropped_commands r, s.m.tagDropped_sys r, s.m.tagDropped_same r⟩

end
end
